-- ==== Sys2Proof/Word.lean ====
section
/-! DEFINITION. The words of the part: bytes on the master ports, 16-bit and 32-bit values, and a temperature,
which the manual reckons as a signed integer in sixteenths of a degree Celsius (00_scope.md, "Temperature"). -/

namespace Sys2Proof

/-- A byte on a master port's line (R157). -/
abbrev Byte := BitVec 8

/-- A two-byte value of a frame payload (R166). -/
abbrev Word16 := BitVec 16

/-- A four-byte value: a dock clock time, a tag, a sequence (R166). -/
abbrev Word32 := BitVec 32

/-- A temperature in sixteenths of a degree Celsius; arithmetic on it is exact (00_scope.md, "Arithmetic"). -/
abbrev Temperature := Int

end Sys2Proof
end

