-- ==== Sys2Proof/Config.lean ====
section
/-! DEFINITION. What the manual fixes for every HFC-2408: the ranges, capacities and numbers that several chapters use.
Nothing here is left to an implementation, and no value is free (see NOTES.md, "Free values"). -/

namespace Sys2Proof.Config

/-- The coldest temperature the part represents, −60.0 °C (00_scope.md, "Temperature"). -/
def tempMin : Temperature := -960

/-- The warmest temperature the part represents, +60.0 °C. -/
def tempMax : Temperature := 960

/-- One degree-minute in exposure units (R93, R108). -/
def unitsPerDegreeMinute : Nat := 960

/-- The value at which an exposure stops (R95, R104). -/
def exposureMax : Nat := 4294967295

/-- The value at which a frost index stops (R66, R68). -/
def frostMax : Nat := 65535

/-- The largest degree-minute count a 16-bit value carries (R105, R134, R167). -/
def degreeMinutesMax : Nat := 65535

/-- The places of the Journal, which the journal accounting never exceeds (R133, R136). -/
def journalCapacity : Nat := 512

/-- How far below its limit a room must cool, or above it warm, before its alarm returns: 0.5 °C (R29, R30). -/
def alarmHysteresis : Temperature := 8

/-- The start byte of a frame (R158). -/
def startByte : Byte := 0xA5

/-- The generator polynomial of the frame CRC (R158). -/
def crcPolynomial : Word16 := 0x1021

/-- The initial value of the frame CRC (R158). -/
def crcInitial : Word16 := 0xFFFF

end Sys2Proof.Config
end

