-- ==== Sys2Proof/Syntax.lean ====
section
/-! DEFINITION. The commands of the block: one constructor of `Instr` for each row of spec/opcode_table.json. The first 26 rows are
events of the part's own lines and clock; the last 49 are requests, each of which reaches the part as one good frame on a
master port (R160, R163), so their constructors carry the port, the frame's tag byte and the arguments as R166 sends them. -/

namespace Sys2Proof

/-- A master port, by its fixed role (R156): A is Dock, B is Plant, C is Movement. -/
inductive Port
  | dock
  | plant
  | movement
deriving DecidableEq, Repr

/-- The three debounced inputs of a door (3.1): trailer present, panel closed, seal made. -/
inductive DoorInput
  | tp
  | pc
  | sm
deriving DecidableEq, Repr

/-- The owner blocks that retry raises not yet entered at a second tick (R16, R32, R64, R90, R109, R124, R139). -/
inductive RetryBlock
  | probes
  | rooms
  | doors
  | defrost
  | pallets
  | moves
  | journal
deriving DecidableEq, Repr

/-- A request of the request table (R163), in the table's order, with its arguments as the payload carries them (R166): a value
out of the range its owner gives is an argument like any other, and the owner's rule says what becomes of it. -/
inductive Request
  /-- READ STATUS (R171): one part of the defrost, pallet, move, journal or alarm table status. -/
  | readStatus (part : Byte)
  /-- READ CLOCK (R6): the dock clock, mode, E and exposure tick phase. -/
  | readClock
  /-- READ ROOM (R33): the live room record. -/
  | readRoom (room : Byte)
  /-- LATCH ROOMS (R34): takes a snapshot of all eight rooms for the port. -/
  | latchRooms
  /-- READ ROOM SNAPSHOT (R35): one part of the port's snapshot. -/
  | readRoomSnapshot (part : Byte)
  /-- READ DOOR (R63): the door record and lines; clears the six edge flags. -/
  | readDoor (door : Byte)
  /-- READ PALLET (R100): the pallet record named by a tag. -/
  | readPallet (pallet : Word32)
  /-- READ PROBE (R10): a probe channel record. -/
  | readProbe (channel : Byte)
  /-- TAKE ALARM (R151): pushes the chosen presentable entry onto the port's in-service stack. -/
  | takeAlarm
  /-- END ALARM (R152): pops the top in-service entry and marks it DONE for the port. -/
  | endAlarm
  /-- SET ALARM ROUTES (R149): sets whether one alarm code is routed to the requesting port. -/
  | setAlarmRoutes (alarm : Byte) (routed : Byte)
  /-- SET ALARM FLOOR (R150): sets the requesting port's presentation floor. -/
  | setAlarmFloor (floor : Byte)
  /-- SETUP COMPLETE (R174): sets the port's setup-complete flag; validates when all three are set. -/
  | setupComplete
  /-- WARM RESTART (R177): settles everything in flight and clears the alarm table. -/
  | warmRestart
  /-- CONFIGURE DOOR (R42): a door's enabled flag, dock room, penalties and frost weights. -/
  | configureDoor (door : Byte) (enabled : Byte) (dockRoom : Byte) (workPenalty : Word16) (breachPenalty : Word16) (workFrost : Word16) (breachFrost : Word16)
  /-- SET DOOR LINES (R39): the five line polarities and the debounce count. -/
  | setDoorLines (tp : Byte) (pc : Byte) (sm : Byte) (sb : Byte) (pr : Byte) (debounce : Byte)
  /-- SET DOOR TIMES (R43): a door's seal limit, breach grace and release time. -/
  | setDoorTimes (door : Byte) (sealLimit : Word16) (breachGrace : Word16) (releaseTime : Word16)
  /-- DOOR ARM SEAL (R48): moves a DOCKED door to SEALING. -/
  | doorArmSeal (door : Byte)
  /-- DOOR OPEN PERMIT (R51): gives or holds a permit for a SEALED door's panel. -/
  | doorOpenPermit (door : Byte)
  /-- DOOR CLOSE (R53): cancels a SEALED door's permit or sets a WORKING door's close mark. -/
  | doorClose (door : Byte)
  /-- DOOR RELEASE (R56): ships ABOARD pallets and moves the door to RELEASING. -/
  | doorRelease (door : Byte)
  /-- DOOR OVERRIDE (R60): sets or clears a door's override. -/
  | doorOverride (door : Byte) (on : Byte)
  /-- DOOR CLEAR FAULT (R58): ends a FAULT, writing the trailer off if it has gone. -/
  | doorClearFault (door : Byte)
  /-- REPORT TRAILER TEMPERATURE (R61): the air temperature inside the trailer at a door. -/
  | reportTrailerTemperature (door : Byte) (temperature : Word16)
  /-- CONFIGURE ROOM (R18): a room's kind and heater load. -/
  | configureRoom (room : Byte) (kind : Byte) (heaterLoad : Byte)
  /-- CONFIGURE PROBE (R8): a channel's role and room. -/
  | configureProbe (channel : Byte) (role : Byte) (room : Byte)
  /-- SET PROBE CALIBRATION (R9): a channel's gain and offset. -/
  | setProbeCalibration (channel : Byte) (gain : Word16) (offset : Word16)
  /-- SET ROOM LIMITS (R24): a room's plant limits, delays and smoothing weight. -/
  | setRoomLimits (room : Byte) (upper : Word16) (lower : Word16) (highDelay : Word16) (lowDelay : Word16) (weight : Word16)
  /-- SET FROST PARAMETERS (R67): a room's base rate, threshold and hard limit. -/
  | setFrostParameters (room : Byte) (baseRate : Byte) (threshold : Word16) (hardLimit : Word16)
  /-- SET DEFROST TIMES (R87): a room's defrost lengths and terminate temperature. -/
  | setDefrostTimes (room : Byte) (heatingLimit : Word16) (dripTime : Word16) (recoveryLimit : Word16) (terminate : Word16) (grantHold : Word16)
  /-- SET HEATER CAPACITY (R71): the site heater capacity. -/
  | setHeaterCapacity (capacity : Byte)
  /-- REQUEST DEFROST (R72): appends an IDLE room to the defrost queue. -/
  | requestDefrost (room : Byte)
  /-- WITHDRAW DEFROST (R73): removes a queued room or takes back a grant. -/
  | withdrawDefrost (room : Byte)
  /-- DEFROST BEGUN (R80): moves a GRANTED room to HEATING. -/
  | defrostBegun (room : Byte)
  /-- HEATING ENDED (R83): moves a HEATING room to DRIP. -/
  | heatingEnded (room : Byte) (cause : Byte)
  /-- CONFIGURE CLASS (R94): a product class's threshold, budget, warn level and reserves. -/
  | configureClass (cls : Byte) (threshold : Word16) (budget : Word16) (warn : Word16) (transitReserve : Word16) (defrostReserve : Word16)
  /-- SET EXPOSURE TICK (R5): the exposure tick interval E. -/
  | setExposureTick (interval : Byte)
  /-- SET MOVE TIMES (R115): the permit limit and transit limit. -/
  | setMoveTimes (permitLimit : Word16) (transitLimit : Word16)
  /-- SET JOURNAL THRESHOLD (R140): the JOURNAL_HIGH threshold. -/
  | setJournalThreshold (threshold : Word16)
  /-- ENTER PALLET (R98): registers a new INBOUND pallet at the trailer of a WORKING door. -/
  | enterPallet (pallet : Word32) (cls : Byte) (door : Byte)
  /-- REJECT PALLET (R99): removes an INBOUND or PLACED pallet with no live move. -/
  | rejectPallet (pallet : Word32)
  /-- REQUEST MOVE (R116): checks and permits a pallet move to a destination. -/
  | requestMove (pallet : Word32) (destination : Byte)
  /-- PICK (R120): a permitted move's pallet has been lifted. -/
  | pick (handle : Byte)
  /-- PUT (R122): an IN_TRANSIT move's pallet has been set down. -/
  | put (handle : Byte) (actual : Option Byte)
  /-- CANCEL MOVE (R125): cancels a live move. -/
  | cancelMove (handle : Byte) (location : Option Byte)
  /-- READ JOURNAL (R137): up to two of the oldest held journal records. -/
  | readJournal (count : Byte)
  /-- RELEASE JOURNAL (R138): removes the oldest n journal records. -/
  | releaseJournal (count : Word16)
  /-- SET PRODUCT CEILING (R25): sets or clears a room's product ceiling. -/
  | setProductCeiling (room : Byte) (present : Byte) (ceiling : Word16)
  /-- INHIBIT DEFROST (R74): sets or lengthens a room's inhibit, or ends it with 0. -/
  | inhibitDefrost (room : Byte) (seconds : Word16)
deriving DecidableEq, Repr

/-- A command of the block, one constructor per row of spec/opcode_table.json, in its order. -/
inductive Instr
  /-- COLD_RESET (R172). Power-on, or the RESET line held low and released (one whole cold reset). -/
  | coldReset
  /-- SECOND_TICK (R1). The second tick. `order` names the owner blocks that retry unposted raises first; the manual orders the retries within a block only. -/
  | secondTick (order : List RetryBlock)
  /-- SAMPLE_STROBE (R38). The sample strobe, with the raw level of each of the 72 door inputs: bit d is door d, 1 is a high line. -/
  | sampleStrobe (tp : BitVec 24) (pc : BitVec 24) (sm : BitVec 24)
  /-- DEBOUNCED_CHANGE (R38). The debounced change that an earlier strobe completed at one input is taken. -/
  | debouncedChange (door : Fin 24) (input : DoorInput)
  /-- EXPOSURE_TICK (R4). The exposure tick. R75 lets the Defrost Unit handle it before or after the Pallet Unit; `defrostFirst` says which. -/
  | exposureTick (defrostFirst : Bool)
  /-- CONVERTER_TRANSACTION_COMPLETE (R13). The converter's 16 bits have been clocked in; the code is the low twelve (R12). -/
  | converterTransactionComplete (bits : Word16)
  /-- CONVERTER_REPLY_LIMIT_EXPIRY (R12). 5 ms have passed with no data-ready: the transaction completes with NO_REPLY. -/
  | converterReplyLimitExpiry
  /-- ROUND_COMPLETE (R11). The round-complete event. R85 lets the Defrost Unit take it before or after the Room Unit; `defrostFirst` says which. -/
  | roundComplete (defrostFirst : Bool)
  /-- HIGH_TIMER_EXPIRY (R27). The expiry of a room's high timer is taken. -/
  | highTimerExpiry (room : Fin 8)
  /-- LOW_TIMER_EXPIRY (R30). The expiry of a room's low timer is taken. -/
  | lowTimerExpiry (room : Fin 8)
  /-- SEAL_TIMER_EXPIRY (R49). The expiry of a door's seal timer is taken. -/
  | sealTimerExpiry (door : Fin 24)
  /-- BREACH_GRACE_EXPIRY (R54). The expiry of a door's breach grace timer is taken. -/
  | breachGraceExpiry (door : Fin 24)
  /-- RELEASE_TIMER_EXPIRY (R55). The expiry of a door's release timer is taken. -/
  | releaseTimerExpiry (door : Fin 24)
  /-- GRANT_HOLD_EXPIRY (R80). The expiry of the grant hold of a GRANTED room is taken. -/
  | grantHoldExpiry (room : Fin 8)
  /-- HEATING_LIMIT_EXPIRY (R81). The expiry of the heating limit of a HEATING room is taken. -/
  | heatingLimitExpiry (room : Fin 8)
  /-- DRIP_TIME_EXPIRY (R84). The expiry of the drip time of a DRIP room is taken. -/
  | dripTimeExpiry (room : Fin 8)
  /-- RECOVERY_LIMIT_EXPIRY (R86). The expiry of the recovery limit of a RECOVERY room is taken. -/
  | recoveryLimitExpiry (room : Fin 8)
  /-- INHIBIT_EXPIRY (R74). The expiry of a room's inhibit is taken. -/
  | inhibitExpiry (room : Fin 8)
  /-- LAPSE_TIMER_EXPIRY (R121). The expiry of the lapse timer of a PERMITTED move is taken. -/
  | lapseTimerExpiry (slot : Fin 32)
  /-- TRANSIT_TIMER_EXPIRY (R124). The expiry of the transit timer of an IN_TRANSIT move is taken. -/
  | transitTimerExpiry (slot : Fin 32)
  /-- BYTE_RECEIVED (R157). A byte has arrived on a port's RX line; `stopMark` says that its stop bit was at mark. -/
  | byteReceived (port : Port) (byte : Byte) (stopMark : Bool)
  /-- UNKNOWN_REQUEST (R161). A good frame completes on a port, whose code is no request of the table. -/
  | unknownRequest (port : Port) (code : Byte) (tag : Byte) (payload : List Byte)
  /-- FRAME_GAP_TIMEOUT (R159). More than 20 ms have passed since the last byte of a frame partly received. -/
  | frameGapTimeout (port : Port)
  /-- REPLY_SENT (R160). The last byte of the reply in service on a port has been sent. -/
  | replySent (port : Port)
  /-- LINK_RESET (R164). A port's RX line has stayed at space for 2 ms. -/
  | linkReset (port : Port)
  /-- RX_RETURN_TO_MARK (R164). A port's RX line returns to mark after a break. -/
  | rxReturnToMark (port : Port)
  /-- READ_STATUS (R171) completes as a good frame on `port`: one part of the defrost, pallet, move, journal or alarm table status. -/
  | readStatus (port : Port) (tag : Byte) (part : Byte)
  /-- READ_CLOCK (R6) completes as a good frame on `port`: the dock clock, mode, E and exposure tick phase. -/
  | readClock (port : Port) (tag : Byte)
  /-- READ_ROOM (R33) completes as a good frame on `port`: the live room record. -/
  | readRoom (port : Port) (tag : Byte) (room : Byte)
  /-- LATCH_ROOMS (R34) completes as a good frame on `port`: takes a snapshot of all eight rooms for the port. -/
  | latchRooms (port : Port) (tag : Byte)
  /-- READ_ROOM_SNAPSHOT (R35) completes as a good frame on `port`: one part of the port's snapshot. -/
  | readRoomSnapshot (port : Port) (tag : Byte) (part : Byte)
  /-- READ_DOOR (R63) completes as a good frame on `port`: the door record and lines; clears the six edge flags. -/
  | readDoor (port : Port) (tag : Byte) (door : Byte)
  /-- READ_PALLET (R100) completes as a good frame on `port`: the pallet record named by a tag. -/
  | readPallet (port : Port) (tag : Byte) (pallet : Word32)
  /-- READ_PROBE (R10) completes as a good frame on `port`: a probe channel record. -/
  | readProbe (port : Port) (tag : Byte) (channel : Byte)
  /-- TAKE_ALARM (R151) completes as a good frame on `port`: pushes the chosen presentable entry onto the port's in-service stack. -/
  | takeAlarm (port : Port) (tag : Byte)
  /-- END_ALARM (R152) completes as a good frame on `port`: pops the top in-service entry and marks it DONE for the port. -/
  | endAlarm (port : Port) (tag : Byte)
  /-- SET_ALARM_ROUTES (R149) completes as a good frame on `port`: sets whether one alarm code is routed to the requesting port. -/
  | setAlarmRoutes (port : Port) (tag : Byte) (alarm : Byte) (routed : Byte)
  /-- SET_ALARM_FLOOR (R150) completes as a good frame on `port`: sets the requesting port's presentation floor. -/
  | setAlarmFloor (port : Port) (tag : Byte) (floor : Byte)
  /-- SETUP_COMPLETE (R174) completes as a good frame on `port`: sets the port's setup-complete flag; validates when all three are set. -/
  | setupComplete (port : Port) (tag : Byte)
  /-- WARM_RESTART (R177) completes as a good frame on `port`: settles everything in flight and clears the alarm table. -/
  | warmRestart (port : Port) (tag : Byte)
  /-- CONFIGURE_DOOR (R42) completes as a good frame on `port`: a door's enabled flag, dock room, penalties and frost weights. -/
  | configureDoor (port : Port) (tag : Byte) (door : Byte) (enabled : Byte) (dockRoom : Byte) (workPenalty : Word16) (breachPenalty : Word16) (workFrost : Word16) (breachFrost : Word16)
  /-- SET_DOOR_LINES (R39) completes as a good frame on `port`: the five line polarities and the debounce count. -/
  | setDoorLines (port : Port) (tag : Byte) (tp : Byte) (pc : Byte) (sm : Byte) (sb : Byte) (pr : Byte) (debounce : Byte)
  /-- SET_DOOR_TIMES (R43) completes as a good frame on `port`: a door's seal limit, breach grace and release time. -/
  | setDoorTimes (port : Port) (tag : Byte) (door : Byte) (sealLimit : Word16) (breachGrace : Word16) (releaseTime : Word16)
  /-- DOOR_ARM_SEAL (R48) completes as a good frame on `port`: moves a DOCKED door to SEALING. -/
  | doorArmSeal (port : Port) (tag : Byte) (door : Byte)
  /-- DOOR_OPEN_PERMIT (R51) completes as a good frame on `port`: gives or holds a permit for a SEALED door's panel. -/
  | doorOpenPermit (port : Port) (tag : Byte) (door : Byte)
  /-- DOOR_CLOSE (R53) completes as a good frame on `port`: cancels a SEALED door's permit or sets a WORKING door's close mark. -/
  | doorClose (port : Port) (tag : Byte) (door : Byte)
  /-- DOOR_RELEASE (R56) completes as a good frame on `port`: ships ABOARD pallets and moves the door to RELEASING. -/
  | doorRelease (port : Port) (tag : Byte) (door : Byte)
  /-- DOOR_OVERRIDE (R60) completes as a good frame on `port`: sets or clears a door's override. -/
  | doorOverride (port : Port) (tag : Byte) (door : Byte) (on : Byte)
  /-- DOOR_CLEAR_FAULT (R58) completes as a good frame on `port`: ends a FAULT, writing the trailer off if it has gone. -/
  | doorClearFault (port : Port) (tag : Byte) (door : Byte)
  /-- REPORT_TRAILER_TEMPERATURE (R61) completes as a good frame on `port`: the air temperature inside the trailer at a door. -/
  | reportTrailerTemperature (port : Port) (tag : Byte) (door : Byte) (temperature : Word16)
  /-- CONFIGURE_ROOM (R18) completes as a good frame on `port`: a room's kind and heater load. -/
  | configureRoom (port : Port) (tag : Byte) (room : Byte) (kind : Byte) (heaterLoad : Byte)
  /-- CONFIGURE_PROBE (R8) completes as a good frame on `port`: a channel's role and room. -/
  | configureProbe (port : Port) (tag : Byte) (channel : Byte) (role : Byte) (room : Byte)
  /-- SET_PROBE_CALIBRATION (R9) completes as a good frame on `port`: a channel's gain and offset. -/
  | setProbeCalibration (port : Port) (tag : Byte) (channel : Byte) (gain : Word16) (offset : Word16)
  /-- SET_ROOM_LIMITS (R24) completes as a good frame on `port`: a room's plant limits, delays and smoothing weight. -/
  | setRoomLimits (port : Port) (tag : Byte) (room : Byte) (upper : Word16) (lower : Word16) (highDelay : Word16) (lowDelay : Word16) (weight : Word16)
  /-- SET_FROST_PARAMETERS (R67) completes as a good frame on `port`: a room's base rate, threshold and hard limit. -/
  | setFrostParameters (port : Port) (tag : Byte) (room : Byte) (baseRate : Byte) (threshold : Word16) (hardLimit : Word16)
  /-- SET_DEFROST_TIMES (R87) completes as a good frame on `port`: a room's defrost lengths and terminate temperature. -/
  | setDefrostTimes (port : Port) (tag : Byte) (room : Byte) (heatingLimit : Word16) (dripTime : Word16) (recoveryLimit : Word16) (terminate : Word16) (grantHold : Word16)
  /-- SET_HEATER_CAPACITY (R71) completes as a good frame on `port`: the site heater capacity. -/
  | setHeaterCapacity (port : Port) (tag : Byte) (capacity : Byte)
  /-- REQUEST_DEFROST (R72) completes as a good frame on `port`: appends an IDLE room to the defrost queue. -/
  | requestDefrost (port : Port) (tag : Byte) (room : Byte)
  /-- WITHDRAW_DEFROST (R73) completes as a good frame on `port`: removes a queued room or takes back a grant. -/
  | withdrawDefrost (port : Port) (tag : Byte) (room : Byte)
  /-- DEFROST_BEGUN (R80) completes as a good frame on `port`: moves a GRANTED room to HEATING. -/
  | defrostBegun (port : Port) (tag : Byte) (room : Byte)
  /-- HEATING_ENDED (R83) completes as a good frame on `port`: moves a HEATING room to DRIP. -/
  | heatingEnded (port : Port) (tag : Byte) (room : Byte) (cause : Byte)
  /-- CONFIGURE_CLASS (R94) completes as a good frame on `port`: a product class's threshold, budget, warn level and reserves. -/
  | configureClass (port : Port) (tag : Byte) (cls : Byte) (threshold : Word16) (budget : Word16) (warn : Word16) (transitReserve : Word16) (defrostReserve : Word16)
  /-- SET_EXPOSURE_TICK (R5) completes as a good frame on `port`: the exposure tick interval E. -/
  | setExposureTick (port : Port) (tag : Byte) (interval : Byte)
  /-- SET_MOVE_TIMES (R115) completes as a good frame on `port`: the permit limit and transit limit. -/
  | setMoveTimes (port : Port) (tag : Byte) (permitLimit : Word16) (transitLimit : Word16)
  /-- SET_JOURNAL_THRESHOLD (R140) completes as a good frame on `port`: the JOURNAL_HIGH threshold. -/
  | setJournalThreshold (port : Port) (tag : Byte) (threshold : Word16)
  /-- ENTER_PALLET (R98) completes as a good frame on `port`: registers a new INBOUND pallet at the trailer of a WORKING door. -/
  | enterPallet (port : Port) (tag : Byte) (pallet : Word32) (cls : Byte) (door : Byte)
  /-- REJECT_PALLET (R99) completes as a good frame on `port`: removes an INBOUND or PLACED pallet with no live move. -/
  | rejectPallet (port : Port) (tag : Byte) (pallet : Word32)
  /-- REQUEST_MOVE (R116) completes as a good frame on `port`: checks and permits a pallet move to a destination. -/
  | requestMove (port : Port) (tag : Byte) (pallet : Word32) (destination : Byte)
  /-- PICK (R120) completes as a good frame on `port`: a permitted move's pallet has been lifted. -/
  | pick (port : Port) (tag : Byte) (handle : Byte)
  /-- PUT (R122) completes as a good frame on `port`: an IN_TRANSIT move's pallet has been set down. -/
  | put (port : Port) (tag : Byte) (handle : Byte) (actual : Option Byte)
  /-- CANCEL_MOVE (R125) completes as a good frame on `port`: cancels a live move. -/
  | cancelMove (port : Port) (tag : Byte) (handle : Byte) (location : Option Byte)
  /-- READ_JOURNAL (R137) completes as a good frame on `port`: up to two of the oldest held journal records. -/
  | readJournal (port : Port) (tag : Byte) (count : Byte)
  /-- RELEASE_JOURNAL (R138) completes as a good frame on `port`: removes the oldest n journal records. -/
  | releaseJournal (port : Port) (tag : Byte) (count : Word16)
  /-- SET_PRODUCT_CEILING (R25) completes as a good frame on `port`: sets or clears a room's product ceiling. -/
  | setProductCeiling (port : Port) (tag : Byte) (room : Byte) (present : Byte) (ceiling : Word16)
  /-- INHIBIT_DEFROST (R74) completes as a good frame on `port`: sets or lengthens a room's inhibit, or ends it with 0. -/
  | inhibitDefrost (port : Port) (tag : Byte) (room : Byte) (seconds : Word16)
deriving DecidableEq, Repr

end Sys2Proof
end

