-- ==== Sys2Proof/WellFormed.lean ====
section
/-! DEFINITION. When a command is well formed. Indices are typed by their ranges and arguments by their widths, so only two
constructors can hold an ill-formed operand: the order of a second tick, and the frame of an unknown request. -/

namespace Sys2Proof

/-- How many requests the request table holds; their codes are 1 to 49 (R163). -/
def requestCount : Nat := 49

/-- The longest payload a frame carries (R158). -/
def payloadMax : Nat := 56

/-- A second tick names no owner block twice; an unknown request carries a code outside the request table (R161) and a
payload a frame can hold (R158); every other command is well formed as it stands. -/
def Instr.wellFormed : Instr → Bool
  | .coldReset => true
  | .secondTick order => decide order.Nodup
  | .sampleStrobe _ _ _ => true
  | .debouncedChange _ _ => true
  | .exposureTick _ => true
  | .converterTransactionComplete _ => true
  | .converterReplyLimitExpiry => true
  | .roundComplete _ => true
  | .highTimerExpiry _ => true
  | .lowTimerExpiry _ => true
  | .sealTimerExpiry _ => true
  | .breachGraceExpiry _ => true
  | .releaseTimerExpiry _ => true
  | .grantHoldExpiry _ => true
  | .heatingLimitExpiry _ => true
  | .dripTimeExpiry _ => true
  | .recoveryLimitExpiry _ => true
  | .inhibitExpiry _ => true
  | .lapseTimerExpiry _ => true
  | .transitTimerExpiry _ => true
  | .byteReceived _ _ _ => true
  | .unknownRequest _ code _ payload =>
    (decide (code.toNat = 0) || decide (requestCount < code.toNat)) && decide (payload.length ≤ payloadMax)
  | .frameGapTimeout _ => true
  | .replySent _ => true
  | .linkReset _ => true
  | .rxReturnToMark _ => true
  | .readStatus _ _ _ => true
  | .readClock _ _ => true
  | .readRoom _ _ _ => true
  | .latchRooms _ _ => true
  | .readRoomSnapshot _ _ _ => true
  | .readDoor _ _ _ => true
  | .readPallet _ _ _ => true
  | .readProbe _ _ _ => true
  | .takeAlarm _ _ => true
  | .endAlarm _ _ => true
  | .setAlarmRoutes _ _ _ _ => true
  | .setAlarmFloor _ _ _ => true
  | .setupComplete _ _ => true
  | .warmRestart _ _ => true
  | .configureDoor _ _ _ _ _ _ _ _ _ => true
  | .setDoorLines _ _ _ _ _ _ _ _ => true
  | .setDoorTimes _ _ _ _ _ _ => true
  | .doorArmSeal _ _ _ => true
  | .doorOpenPermit _ _ _ => true
  | .doorClose _ _ _ => true
  | .doorRelease _ _ _ => true
  | .doorOverride _ _ _ _ => true
  | .doorClearFault _ _ _ => true
  | .reportTrailerTemperature _ _ _ _ => true
  | .configureRoom _ _ _ _ _ => true
  | .configureProbe _ _ _ _ _ => true
  | .setProbeCalibration _ _ _ _ _ => true
  | .setRoomLimits _ _ _ _ _ _ _ _ => true
  | .setFrostParameters _ _ _ _ _ _ => true
  | .setDefrostTimes _ _ _ _ _ _ _ _ => true
  | .setHeaterCapacity _ _ _ => true
  | .requestDefrost _ _ _ => true
  | .withdrawDefrost _ _ _ => true
  | .defrostBegun _ _ _ => true
  | .heatingEnded _ _ _ _ => true
  | .configureClass _ _ _ _ _ _ _ _ => true
  | .setExposureTick _ _ _ => true
  | .setMoveTimes _ _ _ _ => true
  | .setJournalThreshold _ _ _ => true
  | .enterPallet _ _ _ _ _ => true
  | .rejectPallet _ _ _ => true
  | .requestMove _ _ _ _ => true
  | .pick _ _ _ => true
  | .put _ _ _ _ => true
  | .cancelMove _ _ _ _ => true
  | .readJournal _ _ _ => true
  | .releaseJournal _ _ _ => true
  | .setProductCeiling _ _ _ _ _ => true
  | .inhibitDefrost _ _ _ _ => true

end Sys2Proof
end

