-- ==== Sys2Proof/Decode.lean ====
section
/-! DEFINITION. The frames of the master ports read and written: the CRC (R158), the request table with the payload each
request's arguments give (R163, R166), the frame a request is sent as, and the host's decodeTableWord. -/

namespace Sys2Proof

/-- A frame's code, tag byte and payload; start, length and CRC follow from them (R158). Requests and replies have this one form. -/
structure Frame where
  code : Byte
  tag : Byte
  payload : List Byte
deriving DecidableEq, Repr

/-- The two bytes of a 16-bit value, high byte first (R166). -/
def bytes16 (w : Word16) : List Byte := [w.extractLsb' 8 8, w.extractLsb' 0 8]

/-- The four bytes of a 32-bit value, high byte first (R166). -/
def bytes32 (w : Word32) : List Byte :=
  [w.extractLsb' 24 8, w.extractLsb' 16 8, w.extractLsb' 8 8, w.extractLsb' 0 8]

/-- A 16-bit value from its two bytes, high byte first (R166). -/
def join16 (a b : Byte) : Word16 := a ++ b

/-- A 32-bit value from its four bytes, high byte first (R166). -/
def join32 (a b c d : Byte) : Word32 := (a ++ b) ++ (c ++ d)

/-- One bit of the CRC: shift left, and subtract the polynomial when a one falls out (R158). -/
def crcShift (crc : Word16) : Word16 :=
  if crc.msb then (crc <<< 1) ^^^ Config.crcPolynomial else crc <<< 1

/-- One byte of the CRC, without reflection (R158). -/
def crcByte (crc : Word16) (b : Byte) : Word16 :=
  (List.range 8).foldl (fun c _ => crcShift c) (crc ^^^ join16 b 0)

/-- CRC-16 of a list of bytes: polynomial 0x1021, initial value 0xFFFF, no final XOR (R158). -/
def crc16 (bytes : List Byte) : Word16 := bytes.foldl crcByte Config.crcInitial

/-- The length byte of a frame: 2 plus the payload length (R158). -/
def Frame.lengthByte (f : Frame) : Byte := BitVec.ofNat 8 (f.payload.length + 2)

/-- The bytes from the code to the end of the payload (R158). -/
def Frame.body (f : Frame) : List Byte := f.code :: f.tag :: f.payload

/-- The frame as its bytes on the line, the first sent first (R158). -/
def Frame.bytes (f : Frame) : List Byte :=
  Config.startByte :: f.lengthByte :: (f.body ++ bytes16 (crc16 (f.lengthByte :: f.body)))

/-- Check of a received body of `len` bytes and its two CRC bytes: the frame if the CRC is right (R159, step 4). -/
def Frame.check (len : Byte) (got : List Byte) : Option Frame :=
  match got.take len.toNat, got.drop len.toNat with
  | code :: tag :: payload, [high, low] =>
    if crc16 (len :: got.take len.toNat) = join16 high low then some ⟨code, tag, payload⟩ else none
  | _, _ => none

/-- When the request table takes a request in a mode (R163). -/
inductive Availability
  | taken
  | untilComplete
  | wrongMode
deriving DecidableEq, Repr

/-- A row of the request table: the port a request is allowed on (none: any), its two mode columns (R163), and its arguments
read from a payload, none where the payload's length is not one the arguments give (R161, R166). -/
structure RequestRow where
  role : Option Port
  setup : Availability
  run : Availability
  parse : List Byte → Option Request

/-- The request table (R163), in its order: the code of a request is its place here, counted from 1. -/
def requestTable : List RequestRow :=
  [⟨none, .taken, .taken, fun | [part] => some (.readStatus part) | _ => none⟩,
   ⟨none, .taken, .taken, fun | [] => some .readClock | _ => none⟩,
   ⟨none, .taken, .taken, fun | [room] => some (.readRoom room) | _ => none⟩,
   ⟨none, .taken, .taken, fun | [] => some .latchRooms | _ => none⟩,
   ⟨none, .taken, .taken, fun | [part] => some (.readRoomSnapshot part) | _ => none⟩,
   ⟨none, .taken, .taken, fun | [door] => some (.readDoor door) | _ => none⟩,
   ⟨none, .taken, .taken, fun | [pallet3, pallet2, pallet1, pallet0] => some (.readPallet (join32 pallet3 pallet2 pallet1 pallet0)) | _ => none⟩,
   ⟨none, .taken, .taken, fun | [channel] => some (.readProbe channel) | _ => none⟩,
   ⟨none, .taken, .taken, fun | [] => some .takeAlarm | _ => none⟩,
   ⟨none, .taken, .taken, fun | [] => some .endAlarm | _ => none⟩,
   ⟨none, .taken, .taken, fun | [alarm, routed] => some (.setAlarmRoutes alarm routed) | _ => none⟩,
   ⟨none, .taken, .taken, fun | [floor] => some (.setAlarmFloor floor) | _ => none⟩,
   ⟨none, .taken, .wrongMode, fun | [] => some .setupComplete | _ => none⟩,
   ⟨none, .wrongMode, .taken, fun | [] => some .warmRestart | _ => none⟩,
   ⟨some .dock, .untilComplete, .wrongMode, fun | [door, enabled, dockRoom, workPenalty1, workPenalty0, breachPenalty1, breachPenalty0, workFrost1, workFrost0, breachFrost1, breachFrost0] => some (.configureDoor door enabled dockRoom (join16 workPenalty1 workPenalty0) (join16 breachPenalty1 breachPenalty0) (join16 workFrost1 workFrost0) (join16 breachFrost1 breachFrost0)) | _ => none⟩,
   ⟨some .dock, .untilComplete, .wrongMode, fun | [tp, pc, sm, sb, pr, debounce] => some (.setDoorLines tp pc sm sb pr debounce) | _ => none⟩,
   ⟨some .dock, .taken, .taken, fun | [door, sealLimit1, sealLimit0, breachGrace1, breachGrace0, releaseTime1, releaseTime0] => some (.setDoorTimes door (join16 sealLimit1 sealLimit0) (join16 breachGrace1 breachGrace0) (join16 releaseTime1 releaseTime0)) | _ => none⟩,
   ⟨some .dock, .wrongMode, .taken, fun | [door] => some (.doorArmSeal door) | _ => none⟩,
   ⟨some .dock, .wrongMode, .taken, fun | [door] => some (.doorOpenPermit door) | _ => none⟩,
   ⟨some .dock, .wrongMode, .taken, fun | [door] => some (.doorClose door) | _ => none⟩,
   ⟨some .dock, .wrongMode, .taken, fun | [door] => some (.doorRelease door) | _ => none⟩,
   ⟨some .dock, .wrongMode, .taken, fun | [door, on] => some (.doorOverride door on) | _ => none⟩,
   ⟨some .dock, .wrongMode, .taken, fun | [door] => some (.doorClearFault door) | _ => none⟩,
   ⟨some .dock, .wrongMode, .taken, fun | [door, temperature1, temperature0] => some (.reportTrailerTemperature door (join16 temperature1 temperature0)) | _ => none⟩,
   ⟨some .plant, .untilComplete, .wrongMode, fun | [room, kind, heaterLoad] => some (.configureRoom room kind heaterLoad) | _ => none⟩,
   ⟨some .plant, .untilComplete, .wrongMode, fun | [channel, role, room] => some (.configureProbe channel role room) | _ => none⟩,
   ⟨some .plant, .taken, .taken, fun | [channel, gain1, gain0, offset1, offset0] => some (.setProbeCalibration channel (join16 gain1 gain0) (join16 offset1 offset0)) | _ => none⟩,
   ⟨some .plant, .taken, .taken, fun | [room, upper1, upper0, lower1, lower0, highDelay1, highDelay0, lowDelay1, lowDelay0, weight1, weight0] => some (.setRoomLimits room (join16 upper1 upper0) (join16 lower1 lower0) (join16 highDelay1 highDelay0) (join16 lowDelay1 lowDelay0) (join16 weight1 weight0)) | _ => none⟩,
   ⟨some .plant, .taken, .taken, fun | [room, baseRate, threshold1, threshold0, hardLimit1, hardLimit0] => some (.setFrostParameters room baseRate (join16 threshold1 threshold0) (join16 hardLimit1 hardLimit0)) | _ => none⟩,
   ⟨some .plant, .taken, .taken, fun | [room, heatingLimit1, heatingLimit0, dripTime1, dripTime0, recoveryLimit1, recoveryLimit0, terminate1, terminate0, grantHold1, grantHold0] => some (.setDefrostTimes room (join16 heatingLimit1 heatingLimit0) (join16 dripTime1 dripTime0) (join16 recoveryLimit1 recoveryLimit0) (join16 terminate1 terminate0) (join16 grantHold1 grantHold0)) | _ => none⟩,
   ⟨some .plant, .untilComplete, .wrongMode, fun | [capacity] => some (.setHeaterCapacity capacity) | _ => none⟩,
   ⟨some .plant, .wrongMode, .taken, fun | [room] => some (.requestDefrost room) | _ => none⟩,
   ⟨some .plant, .wrongMode, .taken, fun | [room] => some (.withdrawDefrost room) | _ => none⟩,
   ⟨some .plant, .wrongMode, .taken, fun | [room] => some (.defrostBegun room) | _ => none⟩,
   ⟨some .plant, .wrongMode, .taken, fun | [room, cause] => some (.heatingEnded room cause) | _ => none⟩,
   ⟨some .movement, .untilComplete, .wrongMode, fun | [cls, threshold1, threshold0, budget1, budget0, warn1, warn0, transitReserve1, transitReserve0, defrostReserve1, defrostReserve0] => some (.configureClass cls (join16 threshold1 threshold0) (join16 budget1 budget0) (join16 warn1 warn0) (join16 transitReserve1 transitReserve0) (join16 defrostReserve1 defrostReserve0)) | _ => none⟩,
   ⟨some .movement, .untilComplete, .wrongMode, fun | [interval] => some (.setExposureTick interval) | _ => none⟩,
   ⟨some .movement, .taken, .taken, fun | [permitLimit1, permitLimit0, transitLimit1, transitLimit0] => some (.setMoveTimes (join16 permitLimit1 permitLimit0) (join16 transitLimit1 transitLimit0)) | _ => none⟩,
   ⟨some .movement, .taken, .taken, fun | [threshold1, threshold0] => some (.setJournalThreshold (join16 threshold1 threshold0)) | _ => none⟩,
   ⟨some .movement, .wrongMode, .taken, fun | [pallet3, pallet2, pallet1, pallet0, cls, door] => some (.enterPallet (join32 pallet3 pallet2 pallet1 pallet0) cls door) | _ => none⟩,
   ⟨some .movement, .wrongMode, .taken, fun | [pallet3, pallet2, pallet1, pallet0] => some (.rejectPallet (join32 pallet3 pallet2 pallet1 pallet0)) | _ => none⟩,
   ⟨some .movement, .wrongMode, .taken, fun | [pallet3, pallet2, pallet1, pallet0, destination] => some (.requestMove (join32 pallet3 pallet2 pallet1 pallet0) destination) | _ => none⟩,
   ⟨some .movement, .wrongMode, .taken, fun | [handle] => some (.pick handle) | _ => none⟩,
   ⟨some .movement, .wrongMode, .taken, fun | [handle] => some (.put handle none) | [handle, actual] => some (.put handle (some actual)) | _ => none⟩,
   ⟨some .movement, .wrongMode, .taken, fun | [handle] => some (.cancelMove handle none) | [handle, location] => some (.cancelMove handle (some location)) | _ => none⟩,
   ⟨some .movement, .wrongMode, .taken, fun | [count] => some (.readJournal count) | _ => none⟩,
   ⟨some .movement, .wrongMode, .taken, fun | [count1, count0] => some (.releaseJournal (join16 count1 count0)) | _ => none⟩,
   ⟨some .movement, .taken, .taken, fun | [room, present, ceiling1, ceiling0] => some (.setProductCeiling room present (join16 ceiling1 ceiling0)) | _ => none⟩,
   ⟨some .movement, .wrongMode, .taken, fun | [room, seconds1, seconds0] => some (.inhibitDefrost room (join16 seconds1 seconds0)) | _ => none⟩]

/-- The row of a code; none for a code of 0, above the last row, or of 0x80 or more (R161, check 1). -/
def requestRow (code : Byte) : Option RequestRow :=
  if code.toNat = 0 then none else requestTable[code.toNat - 1]?

/-- The code of a request: its place in the request table, counted from 1 (R163). -/
def Request.code : Request → Byte
  | .readStatus .. => 0x01
  | .readClock => 0x02
  | .readRoom .. => 0x03
  | .latchRooms => 0x04
  | .readRoomSnapshot .. => 0x05
  | .readDoor .. => 0x06
  | .readPallet .. => 0x07
  | .readProbe .. => 0x08
  | .takeAlarm => 0x09
  | .endAlarm => 0x0A
  | .setAlarmRoutes .. => 0x0B
  | .setAlarmFloor .. => 0x0C
  | .setupComplete => 0x0D
  | .warmRestart => 0x0E
  | .configureDoor .. => 0x0F
  | .setDoorLines .. => 0x10
  | .setDoorTimes .. => 0x11
  | .doorArmSeal .. => 0x12
  | .doorOpenPermit .. => 0x13
  | .doorClose .. => 0x14
  | .doorRelease .. => 0x15
  | .doorOverride .. => 0x16
  | .doorClearFault .. => 0x17
  | .reportTrailerTemperature .. => 0x18
  | .configureRoom .. => 0x19
  | .configureProbe .. => 0x1A
  | .setProbeCalibration .. => 0x1B
  | .setRoomLimits .. => 0x1C
  | .setFrostParameters .. => 0x1D
  | .setDefrostTimes .. => 0x1E
  | .setHeaterCapacity .. => 0x1F
  | .requestDefrost .. => 0x20
  | .withdrawDefrost .. => 0x21
  | .defrostBegun .. => 0x22
  | .heatingEnded .. => 0x23
  | .configureClass .. => 0x24
  | .setExposureTick .. => 0x25
  | .setMoveTimes .. => 0x26
  | .setJournalThreshold .. => 0x27
  | .enterPallet .. => 0x28
  | .rejectPallet .. => 0x29
  | .requestMove .. => 0x2A
  | .pick .. => 0x2B
  | .put .. => 0x2C
  | .cancelMove .. => 0x2D
  | .readJournal .. => 0x2E
  | .releaseJournal .. => 0x2F
  | .setProductCeiling .. => 0x30
  | .inhibitDefrost .. => 0x31

/-- The payload of a request: its arguments in the order its rule lists them, an optional last argument left out when
absent (R166). -/
def Request.payload : Request → List Byte
  | .readStatus part => [part]
  | .readClock => []
  | .readRoom room => [room]
  | .latchRooms => []
  | .readRoomSnapshot part => [part]
  | .readDoor door => [door]
  | .readPallet pallet => bytes32 pallet
  | .readProbe channel => [channel]
  | .takeAlarm => []
  | .endAlarm => []
  | .setAlarmRoutes alarm routed => [alarm, routed]
  | .setAlarmFloor floor => [floor]
  | .setupComplete => []
  | .warmRestart => []
  | .configureDoor door enabled dockRoom workPenalty breachPenalty workFrost breachFrost => [door, enabled, dockRoom] ++ bytes16 workPenalty ++ bytes16 breachPenalty ++ bytes16 workFrost ++ bytes16 breachFrost
  | .setDoorLines tp pc sm sb pr debounce => [tp, pc, sm, sb, pr, debounce]
  | .setDoorTimes door sealLimit breachGrace releaseTime => [door] ++ bytes16 sealLimit ++ bytes16 breachGrace ++ bytes16 releaseTime
  | .doorArmSeal door => [door]
  | .doorOpenPermit door => [door]
  | .doorClose door => [door]
  | .doorRelease door => [door]
  | .doorOverride door on => [door, on]
  | .doorClearFault door => [door]
  | .reportTrailerTemperature door temperature => [door] ++ bytes16 temperature
  | .configureRoom room kind heaterLoad => [room, kind, heaterLoad]
  | .configureProbe channel role room => [channel, role, room]
  | .setProbeCalibration channel gain offset => [channel] ++ bytes16 gain ++ bytes16 offset
  | .setRoomLimits room upper lower highDelay lowDelay weight => [room] ++ bytes16 upper ++ bytes16 lower ++ bytes16 highDelay ++ bytes16 lowDelay ++ bytes16 weight
  | .setFrostParameters room baseRate threshold hardLimit => [room, baseRate] ++ bytes16 threshold ++ bytes16 hardLimit
  | .setDefrostTimes room heatingLimit dripTime recoveryLimit terminate grantHold => [room] ++ bytes16 heatingLimit ++ bytes16 dripTime ++ bytes16 recoveryLimit ++ bytes16 terminate ++ bytes16 grantHold
  | .setHeaterCapacity capacity => [capacity]
  | .requestDefrost room => [room]
  | .withdrawDefrost room => [room]
  | .defrostBegun room => [room]
  | .heatingEnded room cause => [room, cause]
  | .configureClass cls threshold budget warn transitReserve defrostReserve => [cls] ++ bytes16 threshold ++ bytes16 budget ++ bytes16 warn ++ bytes16 transitReserve ++ bytes16 defrostReserve
  | .setExposureTick interval => [interval]
  | .setMoveTimes permitLimit transitLimit => bytes16 permitLimit ++ bytes16 transitLimit
  | .setJournalThreshold threshold => bytes16 threshold
  | .enterPallet pallet cls door => bytes32 pallet ++ [cls, door]
  | .rejectPallet pallet => bytes32 pallet
  | .requestMove pallet destination => bytes32 pallet ++ [destination]
  | .pick handle => [handle]
  | .put handle actual => [handle] ++ actual.toList
  | .cancelMove handle location => [handle] ++ location.toList
  | .readJournal count => [count]
  | .releaseJournal count => bytes16 count
  | .setProductCeiling room present ceiling => [room, present] ++ bytes16 ceiling
  | .inhibitDefrost room seconds => [room] ++ bytes16 seconds

/-- The frame a host sends for a request (R158, R163, R166). -/
def Request.frame (r : Request) (tag : Byte) : Frame := ⟨r.code, tag, r.payload⟩

/-- The request a command is, with its port and tag byte; none for an event (R163). -/
def Instr.request? : Instr → Option (Port × Byte × Request)
  | .coldReset => none
  | .secondTick _ => none
  | .sampleStrobe _ _ _ => none
  | .debouncedChange _ _ => none
  | .exposureTick _ => none
  | .converterTransactionComplete _ => none
  | .converterReplyLimitExpiry => none
  | .roundComplete _ => none
  | .highTimerExpiry _ => none
  | .lowTimerExpiry _ => none
  | .sealTimerExpiry _ => none
  | .breachGraceExpiry _ => none
  | .releaseTimerExpiry _ => none
  | .grantHoldExpiry _ => none
  | .heatingLimitExpiry _ => none
  | .dripTimeExpiry _ => none
  | .recoveryLimitExpiry _ => none
  | .inhibitExpiry _ => none
  | .lapseTimerExpiry _ => none
  | .transitTimerExpiry _ => none
  | .byteReceived _ _ _ => none
  | .unknownRequest _ _ _ _ => none
  | .frameGapTimeout _ => none
  | .replySent _ => none
  | .linkReset _ => none
  | .rxReturnToMark _ => none
  | .readStatus port tag part => some (port, tag, .readStatus part)
  | .readClock port tag => some (port, tag, .readClock)
  | .readRoom port tag room => some (port, tag, .readRoom room)
  | .latchRooms port tag => some (port, tag, .latchRooms)
  | .readRoomSnapshot port tag part => some (port, tag, .readRoomSnapshot part)
  | .readDoor port tag door => some (port, tag, .readDoor door)
  | .readPallet port tag pallet => some (port, tag, .readPallet pallet)
  | .readProbe port tag channel => some (port, tag, .readProbe channel)
  | .takeAlarm port tag => some (port, tag, .takeAlarm)
  | .endAlarm port tag => some (port, tag, .endAlarm)
  | .setAlarmRoutes port tag alarm routed => some (port, tag, .setAlarmRoutes alarm routed)
  | .setAlarmFloor port tag floor => some (port, tag, .setAlarmFloor floor)
  | .setupComplete port tag => some (port, tag, .setupComplete)
  | .warmRestart port tag => some (port, tag, .warmRestart)
  | .configureDoor port tag door enabled dockRoom workPenalty breachPenalty workFrost breachFrost => some (port, tag, .configureDoor door enabled dockRoom workPenalty breachPenalty workFrost breachFrost)
  | .setDoorLines port tag tp pc sm sb pr debounce => some (port, tag, .setDoorLines tp pc sm sb pr debounce)
  | .setDoorTimes port tag door sealLimit breachGrace releaseTime => some (port, tag, .setDoorTimes door sealLimit breachGrace releaseTime)
  | .doorArmSeal port tag door => some (port, tag, .doorArmSeal door)
  | .doorOpenPermit port tag door => some (port, tag, .doorOpenPermit door)
  | .doorClose port tag door => some (port, tag, .doorClose door)
  | .doorRelease port tag door => some (port, tag, .doorRelease door)
  | .doorOverride port tag door on => some (port, tag, .doorOverride door on)
  | .doorClearFault port tag door => some (port, tag, .doorClearFault door)
  | .reportTrailerTemperature port tag door temperature => some (port, tag, .reportTrailerTemperature door temperature)
  | .configureRoom port tag room kind heaterLoad => some (port, tag, .configureRoom room kind heaterLoad)
  | .configureProbe port tag channel role room => some (port, tag, .configureProbe channel role room)
  | .setProbeCalibration port tag channel gain offset => some (port, tag, .setProbeCalibration channel gain offset)
  | .setRoomLimits port tag room upper lower highDelay lowDelay weight => some (port, tag, .setRoomLimits room upper lower highDelay lowDelay weight)
  | .setFrostParameters port tag room baseRate threshold hardLimit => some (port, tag, .setFrostParameters room baseRate threshold hardLimit)
  | .setDefrostTimes port tag room heatingLimit dripTime recoveryLimit terminate grantHold => some (port, tag, .setDefrostTimes room heatingLimit dripTime recoveryLimit terminate grantHold)
  | .setHeaterCapacity port tag capacity => some (port, tag, .setHeaterCapacity capacity)
  | .requestDefrost port tag room => some (port, tag, .requestDefrost room)
  | .withdrawDefrost port tag room => some (port, tag, .withdrawDefrost room)
  | .defrostBegun port tag room => some (port, tag, .defrostBegun room)
  | .heatingEnded port tag room cause => some (port, tag, .heatingEnded room cause)
  | .configureClass port tag cls threshold budget warn transitReserve defrostReserve => some (port, tag, .configureClass cls threshold budget warn transitReserve defrostReserve)
  | .setExposureTick port tag interval => some (port, tag, .setExposureTick interval)
  | .setMoveTimes port tag permitLimit transitLimit => some (port, tag, .setMoveTimes permitLimit transitLimit)
  | .setJournalThreshold port tag threshold => some (port, tag, .setJournalThreshold threshold)
  | .enterPallet port tag pallet cls door => some (port, tag, .enterPallet pallet cls door)
  | .rejectPallet port tag pallet => some (port, tag, .rejectPallet pallet)
  | .requestMove port tag pallet destination => some (port, tag, .requestMove pallet destination)
  | .pick port tag handle => some (port, tag, .pick handle)
  | .put port tag handle actual => some (port, tag, .put handle actual)
  | .cancelMove port tag handle location => some (port, tag, .cancelMove handle location)
  | .readJournal port tag count => some (port, tag, .readJournal count)
  | .releaseJournal port tag count => some (port, tag, .releaseJournal count)
  | .setProductCeiling port tag room present ceiling => some (port, tag, .setProductCeiling room present ceiling)
  | .inhibitDefrost port tag room seconds => some (port, tag, .inhibitDefrost room seconds)

/-- The request a code and payload stand for, where the code is in the table and the payload's length is right (R161). -/
def Request.parse (code : Byte) (payload : List Byte) : Option Request :=
  (requestRow code).bind (·.parse payload)

/-- The command a table word spells. No row of spec/opcode_table.json gives bits (a block is not programmed by words), so no
word spells a command. -/
def decodeTableWord (_nbits _w : Nat) : Option Instr := none

end Sys2Proof
end

