-- ==== Sys2Proof/Machine/State.lean ====
section
/-! DEFINITION. The state of the part: every record, mark, timer, buffer and output the manual names, as plain data, the queue of
waiting commands, and the state after cold reset. INVENTORY.md lists each field with its rule and reset value. A timer that a
second tick has brought to 0, a debounced change a strobe has completed, an exposure tick or round-complete that has fallen
due, are kept in State until the command that takes them (log entry 1). -/

namespace Sys2Proof.Machine

/-! ### Shared forms -/

/-- One value for each master port. -/
structure PerPort (α : Type) where
  dock : α
  plant : α
  movement : α
deriving DecidableEq, Repr

/-- A timer in seconds (R3): stopped, or running with its remaining count. A remaining count of 0 is one that the latest second
tick brought to 0 and whose expiry has not been taken yet (log entry 1). -/
inductive Timer
  | stopped
  | running (remaining : Nat)
deriving DecidableEq, Repr

/-- The mode of the part (00_scope.md, "Modes"). -/
inductive Mode
  | setup
  | run
deriving DecidableEq, Repr

/-- A pallet location: in a room, in the staging lane of a door, in the trailer at a door (00_scope.md, "Locations"). -/
inductive Place
  | room (r : Fin 8)
  | lane (d : Fin 24)
  | trailer (d : Fin 24)
deriving DecidableEq, Repr

/-! ### Probe Scan Unit (chapter 1) -/

/-- A channel's role (R7). -/
inductive ChannelRole
  | unused
  | room
  | coil
deriving DecidableEq, Repr

/-- A channel's state (R7): delivering, or the last kind of failure. -/
inductive ChannelState
  | ok
  | opened
  | short
  | noReply
deriving DecidableEq, Repr

/-- A probe channel record (R7). -/
structure Channel where
  role : ChannelRole
  room : Fin 8
  gain : Nat
  offset : Temperature
  state : ChannelState
  suspect : Nat
  lastCode : Option (BitVec 12)
  temperature : Temperature
  measured : Bool
  unposted : Bool
deriving DecidableEq, Repr

/-- A converter transaction in flight (R12): the channel, the command byte clocked out, and whether a change of role or room
discards its outcome (R8). Select is asserted exactly while one is in flight. -/
structure Transaction where
  channel : Fin 32
  command : Byte
  discarded : Bool
deriving DecidableEq, Repr

/-- The conversion round (R11): none running; a transaction in flight; or over, with its round-complete event not yet taken. -/
inductive Round
  | idle
  | converting (t : Transaction)
  | ended
deriving DecidableEq, Repr

/-! ### Room Unit (chapter 2) -/

/-- A room's kind (R17): whether doors may attach to it. -/
inductive RoomKind
  | dock
  | store
deriving DecidableEq, Repr

/-- A room record (R17). -/
structure Room where
  kind : RoomKind
  weight : Nat
  reading : Temperature
  filtered : Temperature
  validCount : Nat
  firstVote : Bool
  upper : Temperature
  lower : Temperature
  ceiling : Option Temperature
  effectiveUpper : Temperature
  highDelay : Nat
  lowDelay : Nat
  highTimer : Timer
  lowTimer : Timer
  highFlag : Bool
  lowFlag : Bool
  lostFlag : Bool
  highUnposted : Bool
  lowUnposted : Bool
  lostUnposted : Bool
deriving DecidableEq, Repr

/-! ### Door Unit (chapter 3) -/

/-- The five line polarities, true for active-high, and the debounce count (R39). -/
structure LineSettings where
  tp : Bool
  pc : Bool
  sm : Bool
  sb : Bool
  pr : Bool
  debounce : Nat
deriving DecidableEq, Repr

/-- One debounced door input (R38, R40): level (true is active), difference count, the mark that a strobe has completed a
change not taken yet (log entry 1), and the two edge flags. -/
structure InputLine where
  level : Bool
  count : Nat
  changeDue : Bool
  becameActive : Bool
  becameInactive : Bool
deriving DecidableEq, Repr

/-- A door's state (R41). -/
inductive DoorState
  | vacant
  | docked
  | sealing
  | sealed
  | working
  | breach
  | releasing
  | fault
deriving DecidableEq, Repr

/-- Leave for a door's panel to open (R41). -/
inductive Permit
  | none
  | pending
  | given
deriving DecidableEq, Repr

/-- Why a door is in FAULT; none in every other state (R41). -/
inductive FaultCause
  | none
  | trailerLost
  | sealWithoutTrailer
  | sealStuck
deriving DecidableEq, Repr

/-- A door record (R41) with its three inputs (R38), its two outputs SB and PR (R46), true for on, and the levels at which the
output pins are driven, true for high. -/
structure Door where
  enabled : Bool
  dockRoom : Fin 8
  state : DoorState
  permit : Permit
  override : Bool
  closeMark : Bool
  breachOrigin : Bool
  faultCause : FaultCause
  trailerTemp : Option Temperature
  sealTimer : Timer
  breachTimer : Timer
  releaseTimer : Timer
  sealLimit : Nat
  breachGrace : Nat
  releaseTime : Nat
  workPenalty : Temperature
  breachPenalty : Temperature
  workFrost : Nat
  breachFrost : Nat
  breachFlag : Bool
  faultFlag : Bool
  breachUnposted : Bool
  faultUnposted : Bool
  tp : InputLine
  pc : InputLine
  sm : InputLine
  sb : Bool
  pr : Bool
  sbPin : Bool
  prPin : Bool
deriving DecidableEq, Repr

/-! ### Defrost Unit (chapter 4) -/

/-- A room's defrost state (R66). -/
inductive DefrostState
  | idle
  | queued
  | draining
  | granted
  | heating
  | drip
  | recovery
deriving DecidableEq, Repr

/-- The cause the Plant port gave at the end of the latest heating phase (R66). -/
inductive Termination
  | none
  | temperature
  | time
deriving DecidableEq, Repr

/-- A defrost record (R66); `inhibitDue` marks an inhibit that a second tick brought to 0 and whose expiry has not been taken
yet (log entry 1). -/
structure Defrost where
  frostIndex : Nat
  baseRate : Nat
  threshold : Nat
  hardLimit : Nat
  heaterLoad : Nat
  heatingLimit : Nat
  dripTime : Nat
  recoveryLimit : Nat
  terminateTemp : Temperature
  grantHold : Nat
  state : DefrostState
  phaseTimer : Timer
  forcedMark : Bool
  forcedCycle : Bool
  inhibit : Nat
  inhibitDue : Bool
  terminateMark : Bool
  cycleCount : Word16
  lastTermination : Termination
  dueFlag : Bool
  forcedFlag : Bool
  overrunFlag : Bool
  dueUnposted : Bool
  forcedUnposted : Bool
  overrunUnposted : Bool
deriving DecidableEq, Repr

/-! ### Pallet Unit (chapter 5) -/

/-- A product class record (R93). -/
structure ProductClass where
  threshold : Temperature
  budget : Nat
  warn : Nat
  transitReserve : Nat
  defrostReserve : Nat
deriving DecidableEq, Repr

/-- A pallet slot's state (R95). -/
inductive PalletState
  | free
  | inbound
  | placed
  | inTransit
  | aboard
deriving DecidableEq, Repr

/-- A pallet's location (R95): none while free, IN TRANSIT while it rides a forklift. -/
inductive PalletLocation
  | nowhere
  | at (p : Place)
  | inTransit
deriving DecidableEq, Repr

/-- A move handle: a slot of the move table in one of its lives (R113). -/
structure Handle where
  slot : Fin 32
  generation : BitVec 3
deriving DecidableEq, Repr

/-- A pallet slot (R95). -/
structure Pallet where
  state : PalletState
  tag : Word32
  cls : Fin 8
  location : PalletLocation
  pickState : Option PalletState
  exposure : Nat
  entryTime : Word32
  handle : Option Handle
  warned : Bool
  overBudget : Bool
  warnUnposted : Bool
  exceedUnposted : Bool
deriving DecidableEq, Repr

/-! ### Move Unit (chapter 6) -/

/-- A move entry's state (R112). -/
inductive MoveState
  | free
  | permitted
  | inTransit
deriving DecidableEq, Repr

/-- A move table entry (R112). -/
structure Move where
  state : MoveState
  generation : BitVec 3
  tag : Word32
  origin : Option Place
  destination : Option Place
  permitTime : Word32
  pickTime : Option Word32
  lapseTimer : Timer
  transitTimer : Timer
  overdueFlag : Bool
  overdueUnposted : Bool
deriving DecidableEq, Repr

/-! ### Journal (chapter 7) -/

/-- What ended (R134). -/
inductive RecordKind
  | moveDone
  | moveCancelled
  | moveLapsed
  | shipped
  | rejected
deriving DecidableEq, Repr

/-- The circumstances of the end a record tells of (R134). -/
structure RecordFlags where
  overBudget : Bool
  diverted : Bool
  trailerLost : Bool
  restart : Bool
deriving DecidableEq, Repr

/-- A journal record (R134); `final` is `at` some place in every record written for a pallet that stands somewhere. -/
structure JournalRecord where
  sequence : Word32
  kind : RecordKind
  tag : Word32
  cls : Fin 8
  origin : Option Place
  final : PalletLocation
  startTime : Word32
  endTime : Word32
  exposure : Nat
  flags : RecordFlags
deriving DecidableEq, Repr

/-- The Journal (R133, R139): its records, oldest first, held count, next sequence, and the JOURNAL_HIGH threshold and marks. -/
structure Journal where
  records : List JournalRecord
  held : Nat
  next : Word32
  threshold : Nat
  highFlag : Bool
  highUnposted : Bool
deriving DecidableEq, Repr

/-! ### Alarm and Notice Table (chapter 8) -/

/-- The alarm codes, in the order of R143. -/
inductive AlarmCode
  | tableFull
  | roomHigh
  | defrostOverrun
  | defrostForced
  | exposureExceeded
  | doorBreach
  | doorFault
  | sealTimeout
  | recoveryLate
  | roomProbesLost
  | probeFault
  | moveOverdue
  | roomLow
  | exposureWarning
  | frostDue
  | journalHigh
  | defrostGranted
  | grantLapsed
  | terminateReached
  | moveLapsed
  | openPermitReleased
  | operationStarted
  | setupRejected
  | warmRestart
deriving DecidableEq, Repr

/-- What an entry is about (R143). -/
inductive Subject
  | none
  | room (r : Fin 8)
  | door (d : Fin 24)
  | probe (c : Fin 32)
  | pallet (p : Fin 256)
  | move (m : Fin 32)
deriving DecidableEq, Repr

/-- An entry's condition (R143). -/
inductive Condition
  | active
  | returned
deriving DecidableEq, Repr

/-- An entry's delivery state for one port (R143). -/
inductive Delivery
  | notRouted
  | pending
  | inService
  | done
deriving DecidableEq, Repr

/-- An occupied entry of the table (R143). -/
structure AlarmEntry where
  code : AlarmCode
  subject : Subject
  tag : Option Word32
  detail : Option Word16
  firstRaised : Word32
  lastRaised : Word32
  repeatCount : Nat
  condition : Condition
  delivery : PerPort Delivery
deriving DecidableEq, Repr

/-- One port's part of the table: its in-service stack, top first (R151), presentation floor (R150) and route of each code, by
its place in R143 (R149). -/
structure PortAlarms where
  stack : List (Fin 48)
  floor : Nat
  routes : Vector Bool 24
deriving DecidableEq, Repr

/-- The Alarm and Notice Table (R143): its 48 entries, none where free, the raise order, and each port's part. -/
structure AlarmTable where
  entries : Vector (Option AlarmEntry) 48
  order : List (Fin 48)
  ports : PerPort PortAlarms
deriving DecidableEq, Repr

/-! ### Port Controllers (chapters 2 and 9) -/

/-- A room's values in a snapshot (R34). -/
structure SnapshotEntry where
  filtered : Temperature
  reading : Temperature
  validCount : Nat
  effectiveUpper : Temperature
  defrost : DefrostState
deriving DecidableEq, Repr

/-- A held snapshot (R34): the dock clock at the latch, the eight rooms, and the two read marks. It is READ when both marks are
set and UNREAD otherwise. -/
structure Snapshot where
  clock : Word32
  rooms : Vector SnapshotEntry 8
  readLow : Bool
  readHigh : Bool
deriving DecidableEq, Repr

/-- The receive assembly (R159): hunting for a start byte, waiting for the length, or gathering `len` body bytes and the two
CRC bytes, with what has been got so far. -/
inductive Receiver
  | hunting
  | length
  | body (len : Byte) (got : List Byte)
deriving DecidableEq, Repr

/-- The request in service (R160): its frame, and the reply being sent. -/
structure Service where
  request : Frame
  reply : Frame
deriving DecidableEq, Repr

/-- A Port Controller (R165). `inBreak` holds from a link reset until RX returns to mark (R164); a snapshot of none is EMPTY. -/
structure PortControl where
  receiver : Receiver
  inBreak : Bool
  inService : Option Service
  waiting : Option Frame
  overrun : Bool
  snapshot : Option Snapshot
  setupComplete : Bool
deriving DecidableEq, Repr

/-! ### The state of the part -/

/-- The state of the part, and `pending`, the commands that wait, first in, first out. -/
structure State where
  clock : Word32
  interval : Nat
  phase : Nat
  exposureDue : Bool
  mode : Mode
  channels : Vector Channel 32
  round : Round
  rooms : Vector Room 8
  lines : LineSettings
  doors : Vector Door 24
  defrosts : Vector Defrost 8
  heaterCapacity : Nat
  remainingCapacity : Nat
  defrostQueue : List (Fin 8)
  classes : Vector ProductClass 8
  pallets : Vector Pallet 256
  moves : Vector Move 32
  permitLimit : Nat
  transitLimit : Nat
  journal : Journal
  alarms : AlarmTable
  attn : PerPort Bool
  ports : PerPort PortControl
  pending : List Instr
deriving DecidableEq, Repr

/-- Why the machine stops with a fault. The manual describes none: every event is taken, and every request is answered with
a status, so the type has no constructor (safe: nothing ends a run). -/
inductive Fault
deriving DecidableEq, Repr

/-- Why the machine refuses a command. -/
inductive Refusal
  /-- Raised by exec's arm of a command that has no meaning yet, with its mnemonic (safe). No arm raises it now. -/
  | notModelled (mnemonic : String)
deriving DecidableEq, Repr

/-! ### Cold reset values -/

/-- A channel after cold reset (R7). -/
def Channel.initial : Channel where
  role := .unused
  room := 0
  gain := 480
  offset := 0
  state := .ok
  suspect := 0
  lastCode := none
  temperature := 0
  measured := false
  unposted := false

/-- A room after cold reset (R17). -/
def Room.initial : Room where
  kind := .store
  weight := 32
  reading := 0
  filtered := 0
  validCount := 0
  firstVote := false
  upper := -288
  lower := -480
  ceiling := none
  effectiveUpper := -288
  highDelay := 900
  lowDelay := 900
  highTimer := .stopped
  lowTimer := .stopped
  highFlag := false
  lowFlag := false
  lostFlag := false
  highUnposted := false
  lowUnposted := false
  lostUnposted := false

/-- The line settings after cold reset: every polarity active-low, a debounce count of 5 (R39). -/
def LineSettings.initial : LineSettings where
  tp := false
  pc := false
  sm := false
  sb := false
  pr := false
  debounce := 5

/-- A door input after cold reset (R38, R40). -/
def InputLine.initial : InputLine where
  level := false
  count := 0
  changeDue := false
  becameActive := false
  becameInactive := false

/-- A door after cold reset (R41); both outputs are off, so at the default active-low polarity both pins stand high (R46). -/
def Door.initial : Door where
  enabled := false
  dockRoom := 0
  state := .vacant
  permit := .none
  override := false
  closeMark := false
  breachOrigin := false
  faultCause := .none
  trailerTemp := none
  sealTimer := .stopped
  breachTimer := .stopped
  releaseTimer := .stopped
  sealLimit := 30
  breachGrace := 20
  releaseTime := 15
  workPenalty := 16
  breachPenalty := 128
  workFrost := 20
  breachFrost := 200
  breachFlag := false
  faultFlag := false
  breachUnposted := false
  faultUnposted := false
  tp := .initial
  pc := .initial
  sm := .initial
  sb := false
  pr := false
  sbPin := true
  prPin := true

/-- A defrost record after cold reset (R66). -/
def Defrost.initial : Defrost where
  frostIndex := 0
  baseRate := 10
  threshold := 20000
  hardLimit := 30000
  heaterLoad := 4
  heatingLimit := 1800
  dripTime := 300
  recoveryLimit := 2700
  terminateTemp := 160
  grantHold := 300
  state := .idle
  phaseTimer := .stopped
  forcedMark := false
  forcedCycle := false
  inhibit := 0
  inhibitDue := false
  terminateMark := false
  cycleCount := 0
  lastTermination := .none
  dueFlag := false
  forcedFlag := false
  overrunFlag := false
  dueUnposted := false
  forcedUnposted := false
  overrunUnposted := false

/-- A product class after cold reset (R93). -/
def ProductClass.initial : ProductClass where
  threshold := -288
  budget := 60
  warn := 45
  transitReserve := 10
  defrostReserve := 15

/-- The values of a free pallet slot (R95). -/
def Pallet.empty : Pallet where
  state := .free
  tag := 0
  cls := 0
  location := .nowhere
  pickState := none
  exposure := 0
  entryTime := 0
  handle := none
  warned := false
  overBudget := false
  warnUnposted := false
  exceedUnposted := false

/-- The values of a free move entry, whose generation is kept (R112). -/
def Move.empty (generation : BitVec 3) : Move where
  state := .free
  generation := generation
  tag := 0
  origin := none
  destination := none
  permitTime := 0
  pickTime := none
  lapseTimer := .stopped
  transitTimer := .stopped
  overdueFlag := false
  overdueUnposted := false

/-- The Journal after cold reset (R133, R139). -/
def Journal.initial : Journal where
  records := []
  held := 0
  next := 0
  threshold := 384
  highFlag := false
  highUnposted := false

/-- The default routes of the Dock port, in the order of R143 (R149). -/
def defaultRoutesDock : Vector Bool 24 :=
  #v[true, true, true, true, true, true, true, true, false, false, false, false,
     false, false, false, false, false, false, false, false, true, true, true, true]

/-- The default routes of the Plant port, in the order of R143 (R149). -/
def defaultRoutesPlant : Vector Bool 24 :=
  #v[true, true, true, true, true, false, false, false, true, true, true, false,
     true, false, true, false, true, true, true, false, false, true, true, true]

/-- The default routes of the Movement port, in the order of R143 (R149). -/
def defaultRoutesMovement : Vector Bool 24 :=
  #v[true, true, true, true, true, true, true, false, false, false, false, true,
     false, true, false, true, false, false, false, true, false, true, true, true]

/-- The table after cold reset: every entry free, orders and stacks empty, default routes, floors at 2 (R143, R149, R150, R155). -/
def AlarmTable.initial : AlarmTable where
  entries := Vector.replicate 48 none
  order := []
  ports :=
    { dock := ⟨[], 2, defaultRoutesDock⟩
      plant := ⟨[], 2, defaultRoutesPlant⟩
      movement := ⟨[], 2, defaultRoutesMovement⟩ }

/-- A Port Controller after cold reset (R36, R157, R165). -/
def PortControl.initial : PortControl where
  receiver := .hunting
  inBreak := false
  inService := none
  waiting := none
  overrun := false
  snapshot := none
  setupComplete := false

/-- The part right after a cold reset, in SETUP, with every record at its cold reset value (R172), and no command waiting. -/
def State.reset : State where
  clock := 0
  interval := 10
  phase := 0
  exposureDue := false
  mode := .setup
  channels := Vector.replicate 32 .initial
  round := .idle
  rooms := Vector.replicate 8 .initial
  lines := .initial
  doors := Vector.replicate 24 .initial
  defrosts := Vector.replicate 8 .initial
  heaterCapacity := 8
  remainingCapacity := 8
  defrostQueue := []
  classes := Vector.replicate 8 .initial
  pallets := Vector.replicate 256 .empty
  moves := Vector.replicate 32 (.empty 0)
  permitLimit := 120
  transitLimit := 300
  journal := .initial
  alarms := .initial
  attn := ⟨false, false, false⟩
  ports := ⟨.initial, .initial, .initial⟩
  pending := []

end Sys2Proof.Machine
end

