-- ==== Sys2Proof/Machine/Ops.lean ====
section
/-! DEFINITION. The named operations the blocks share: reading and writing one record of a table, timers (R3), doing something for
every index in ascending order, forcing a value into its range, and the answer a request gets. -/

namespace Sys2Proof.Machine

/-! ### Tables -/

/-- A table with a function applied to each record. -/
def mapTable {α β : Type} {n : Nat} (f : α → β) (v : Vector α n) : Vector β n :=
  ⟨⟨v.toList.map f⟩, by simp⟩

/-- An action done for each index below `n`, in ascending order. -/
def forEach {σ : Type} (n : Nat) (f : Fin n → σ → σ) (s : σ) : σ :=
  (List.finRange n).foldl (fun s i => f i s) s

/-- How many indices below `n` satisfy a test. -/
def countWhere (n : Nat) (p : Fin n → Bool) : Nat := (List.finRange n).countP p

/-- The lowest index below `n` that satisfies a test. -/
def lowest (n : Nat) (p : Fin n → Bool) : Option (Fin n) := (List.finRange n).find? p

/-! ### One value per port -/

/-- The value of one port. -/
def PerPort.get {α : Type} (x : PerPort α) : Port → α
  | .dock => x.dock
  | .plant => x.plant
  | .movement => x.movement

/-- The values with one port's replaced. -/
def PerPort.set {α : Type} (x : PerPort α) (p : Port) (a : α) : PerPort α :=
  match p with
  | .dock => { x with dock := a }
  | .plant => { x with plant := a }
  | .movement => { x with movement := a }

/-- One value made for each port. -/
def PerPort.of {α : Type} (f : Port → α) : PerPort α := ⟨f .dock, f .plant, f .movement⟩

/-- Whether some port's value satisfies a test. -/
def PerPort.any {α : Type} (x : PerPort α) (f : α → Bool) : Bool := f x.dock || f x.plant || f x.movement

/-! ### Timers (R3) -/

/-- A timer started with length `n`: its count is `n`, or 1 if `n` is 0. -/
def Timer.start (n : Nat) : Timer := .running (max n 1)

/-- A second tick taken by a timer: a running count falls by 1. One already at 0 waits there for its expiry to be taken. -/
def Timer.tick : Timer → Timer
  | .stopped => .stopped
  | .running n => .running (n - 1)

/-- Whether a second tick has brought the timer to 0 and its expiry is still to be taken. -/
def Timer.due (t : Timer) : Bool := t == .running 0

/-- Whether the timer runs. -/
def Timer.runs (t : Timer) : Bool := t != .stopped

/-- The remaining count reported for a timer: 0 when it is stopped (log entry 8). -/
def Timer.remaining : Timer → Nat
  | .stopped => 0
  | .running n => n

/-! ### Forcing a value into its range -/

/-- A temperature clamped to −960 … +960 (00_scope.md, "Temperature"). -/
def clampTemp (t : Temperature) : Temperature := max Config.tempMin (min t Config.tempMax)

/-- A signed value forced into a range. -/
def forceInt (low high v : Int) : Int := max low (min v high)

/-- An unsigned value forced into a range. -/
def forceNat (low high v : Nat) : Nat := max low (min v high)

/-! ### Records of the state -/

/-- The channel record `c`. -/
def State.channel (s : State) (c : Fin 32) : Channel := s.channels[c]

/-- A channel record replaced. -/
def State.setChannel (s : State) (c : Fin 32) (x : Channel) : State := { s with channels := s.channels.set c x }

/-- The room record `r`. -/
def State.room (s : State) (r : Fin 8) : Room := s.rooms[r]

/-- A room record replaced. -/
def State.setRoom (s : State) (r : Fin 8) (x : Room) : State := { s with rooms := s.rooms.set r x }

/-- The door record `d`. -/
def State.door (s : State) (d : Fin 24) : Door := s.doors[d]

/-- The values SB and PR have for a door record (R46). In SETUP and at a disabled door the record is VACANT with override
clear (R44), which gives both off. -/
def Door.driven (d : Door) (lines : LineSettings) : Door :=
  let sb := match d.state with
    | .sealing | .sealed | .working => true
    | .breach => d.breachOrigin
    | .vacant | .docked | .releasing | .fault => false
  let pr := d.override || match d.state with
    | .sealed => d.permit == .given
    | .working => !d.closeMark
    | .vacant | .docked | .sealing | .breach | .releasing | .fault => false
  { d with sb := sb, pr := pr, sbPin := sb == lines.sb, prPin := pr == lines.pr }

/-- A door record replaced, with its outputs driven from the new record (R46). -/
def State.setDoor (s : State) (d : Fin 24) (x : Door) : State := { s with doors := s.doors.set d (x.driven s.lines) }

/-- The defrost record of room `r`. -/
def State.defrost (s : State) (r : Fin 8) : Defrost := s.defrosts[r]

/-- A defrost record replaced. -/
def State.setDefrost (s : State) (r : Fin 8) (x : Defrost) : State := { s with defrosts := s.defrosts.set r x }

/-- The product class record `c`. -/
def State.productClass (s : State) (c : Fin 8) : ProductClass := s.classes[c]

/-- A product class record replaced. -/
def State.setClass (s : State) (c : Fin 8) (x : ProductClass) : State := { s with classes := s.classes.set c x }

/-- The pallet slot `q`. -/
def State.pallet (s : State) (q : Fin 256) : Pallet := s.pallets[q]

/-- A pallet slot replaced. -/
def State.setPallet (s : State) (q : Fin 256) (x : Pallet) : State := { s with pallets := s.pallets.set q x }

/-- The move entry `m`. -/
def State.move (s : State) (m : Fin 32) : Move := s.moves[m]

/-- A move entry replaced. -/
def State.setMove (s : State) (m : Fin 32) (x : Move) : State := { s with moves := s.moves.set m x }

/-- The Journal replaced. -/
def State.setJournal (s : State) (j : Journal) : State := { s with journal := j }

/-- The Port Controller of `p`. -/
def State.port (s : State) (p : Port) : PortControl := s.ports.get p

/-- A Port Controller replaced. -/
def State.setPort (s : State) (p : Port) (x : PortControl) : State := { s with ports := s.ports.set p x }

/-! ### Live records and what they name -/

/-- A pallet is live while its state is not FREE (R95). -/
def Pallet.live (x : Pallet) : Bool := x.state != .free

/-- A move entry is live in PERMITTED and IN_TRANSIT (R112). -/
def Move.live (x : Move) : Bool := x.state != .free

/-- The live pallet that carries a tag (R98). -/
def State.findPallet (s : State) (tag : Word32) : Option (Fin 256) :=
  lowest 256 fun q => (s.pallet q).live && (s.pallet q).tag == tag

/-- How many pallets are live (R101). -/
def State.livePallets (s : State) : Nat := countWhere 256 fun q => (s.pallet q).live

/-- How many moves are live (R136). -/
def State.liveMoves (s : State) : Nat := countWhere 32 fun m => (s.move m).live

/-- The journal accounting: held records, live pallets and live moves (R136). -/
def State.accounting (s : State) : Nat := s.journal.held + s.livePallets + s.liveMoves

/-- Whether a live move has TRAILER(d) as its origin or destination. -/
def Move.namesTrailer (x : Move) (d : Fin 24) : Bool :=
  x.live && (x.origin == some (.trailer d) || x.destination == some (.trailer d))

/-- Whether a live pallet has location TRAILER(d). -/
def Pallet.atTrailer (x : Pallet) (d : Fin 24) : Bool := x.live && x.location == .at (.trailer d)

/-- A door is trailer-held when a live pallet stands at its TRAILER location or a live move names it (R45). -/
def State.trailerHeld (s : State) (d : Fin 24) : Bool :=
  (lowest 256 fun q => (s.pallet q).atTrailer d).isSome || (lowest 32 fun m => (s.move m).namesTrailer d).isSome

/-- The room a location maps to: a lane to its door's dock room, a trailer to none (00_scope.md, "Locations"). -/
def State.mapsTo (s : State) : Place → Option (Fin 8)
  | .room r => some r
  | .lane d => some (s.door d).dockRoom
  | .trailer _ => none

/-! ### Answers -/

/-- The status codes, in the order of the status table (00_scope.md). -/
inductive Status
  | ok
  | clamped
  | held
  | kept
  | none
  | unknownRequest
  | notPermitted
  | wrongMode
  | badArgument
  | notFound
  | duplicate
  | busy
  | doorState
  | defrost
  | full
  | journalFull
  | lowBudget
  | quarantined
deriving DecidableEq, Repr

/-- What an owner block answers a request with: the state after its effect, a status, and the values that follow the port
flags in the reply (R162). -/
structure Answer where
  state : State
  status : Status
  values : List Byte
deriving DecidableEq, Repr

/-- A request refused with a status: no record changes (R161) and no value follows (R162). -/
def refuse (status : Status) (s : State) : Answer := ⟨s, status, []⟩

/-- A request done, with no value to report. -/
def done (s : State) : Answer := ⟨s, .ok, []⟩

/-- A request done with tunables, some of which may have been forced into their range. -/
def doneClamped (forced : Bool) (s : State) : Answer := ⟨s, if forced then .clamped else .ok, []⟩

end Sys2Proof.Machine
end

