-- ==== Sys2Proof/Machine/Operands.lean ====
section
/-! DEFINITION. The forms of the values in request and reply payloads (R166): indices, set/clear values, temperatures, optional
values, locations, move handles and named values, read from arguments and written into replies. -/

namespace Sys2Proof.Machine

/-! ### Arguments -/

/-- An index argument, none where it is out of range. -/
def index? (n : Nat) (b : Byte) : Option (Fin n) := if h : b.toNat < n then some ⟨b.toNat, h⟩ else none

/-- A set/clear, yes/no, on/off, polarity or routed argument: 0 or 1, none otherwise. -/
def flag? (b : Byte) : Option Bool := if b = 0 then some false else if b = 1 then some true else none

/-- A location argument: kind in bits 7–6, index in bits 5–0; none where it is not well formed. -/
def place? (b : Byte) : Option Place :=
  match (b.extractLsb' 6 2).toNat, (b.extractLsb' 0 6).toNat with
  | 0, i => if h : i < 8 then some (.room ⟨i, h⟩) else none
  | 1, i => if h : i < 24 then some (.lane ⟨i, h⟩) else none
  | 2, i => if h : i < 24 then some (.trailer ⟨i, h⟩) else none
  | _, _ => none

/-- A move handle argument: generation in bits 7–5, slot in bits 4–0. Every slot it can carry is in range (R113). -/
def handleOf (b : Byte) : Handle := ⟨(b.extractLsb' 0 5).toFin, b.extractLsb' 5 3⟩

/-- A role argument, by its place in the list of R7. -/
def role? (b : Byte) : Option ChannelRole :=
  match b.toNat with
  | 0 => some .unused
  | 1 => some .room
  | 2 => some .coil
  | _ => none

/-- A room kind argument, by its place in the list of R17. -/
def kind? (b : Byte) : Option RoomKind :=
  match b.toNat with
  | 0 => some .dock
  | 1 => some .store
  | _ => none

/-- A HEATING ENDED cause: 1 is TEMPERATURE, 2 is TIME (R83). -/
def cause? (b : Byte) : Option Termination :=
  match b.toNat with
  | 1 => some .temperature
  | 2 => some .time
  | _ => none

/-! ### Values of a reply -/

/-- A one-byte unsigned value. -/
def value8 (n : Nat) : List Byte := [BitVec.ofNat 8 n]

/-- A two-byte unsigned value. -/
def value16 (n : Nat) : List Byte := bytes16 (BitVec.ofNat 16 n)

/-- A four-byte unsigned value. -/
def value32 (n : Nat) : List Byte := bytes32 (BitVec.ofNat 32 n)

/-- A temperature: two bytes, two's complement, in sixteenths. -/
def valueTemp (t : Temperature) : List Byte := bytes16 (BitVec.ofInt 16 t)

/-- A set/clear, yes/no or on/off value. -/
def valueFlag (b : Bool) : List Byte := value8 b.toNat

/-- An optional value of `size` bytes: a presence byte, then the value, 0 when absent. -/
def valueOptional (size : Nat) : Option (List Byte) → List Byte
  | none => 0 :: List.replicate size 0
  | some v => 1 :: v

/-- A timer in a reply: whether it runs, and its remaining count (R33, R63). -/
def valueTimer (t : Timer) : List Byte := valueFlag t.runs ++ value16 t.remaining

/-- A location as one byte. -/
def Place.byte : Place → Byte
  | .room r => BitVec.ofNat 8 r
  | .lane d => BitVec.ofNat 8 (64 + d)
  | .trailer d => BitVec.ofNat 8 (128 + d)

/-- A pallet location as one byte: 0xC0 is IN TRANSIT, 0xFF is absent. -/
def PalletLocation.byte : PalletLocation → Byte
  | .nowhere => 0xFF
  | .at p => p.byte
  | .inTransit => 0xC0

/-- A move handle as one byte. -/
def Handle.byte (h : Handle) : Byte := h.generation ++ BitVec.ofNat 5 h.slot

/-- A status as its place in the status table, OK = 0 (R162). -/
def Status.byte : Status → Byte
  | .ok => 0
  | .clamped => 1
  | .held => 2
  | .kept => 3
  | .none => 4
  | .unknownRequest => 5
  | .notPermitted => 6
  | .wrongMode => 7
  | .badArgument => 8
  | .notFound => 9
  | .duplicate => 10
  | .busy => 11
  | .doorState => 12
  | .defrost => 13
  | .full => 14
  | .journalFull => 15
  | .lowBudget => 16
  | .quarantined => 17

/-- A mode as its place in its list. -/
def Mode.place : Mode → Nat
  | .setup => 0
  | .run => 1

/-- A channel role as its place in its list (R7). -/
def ChannelRole.place : ChannelRole → Nat
  | .unused => 0
  | .room => 1
  | .coil => 2

/-- A channel state as its place in its list (R7), which is also PROBE_FAULT's cause of a failure (R16). -/
def ChannelState.place : ChannelState → Nat
  | .ok => 0
  | .opened => 1
  | .short => 2
  | .noReply => 3

/-- A room kind as its place in its list (R17). -/
def RoomKind.place : RoomKind → Nat
  | .dock => 0
  | .store => 1

/-- A door state as its place in its list (R41). -/
def DoorState.place : DoorState → Nat
  | .vacant => 0
  | .docked => 1
  | .sealing => 2
  | .sealed => 3
  | .working => 4
  | .breach => 5
  | .releasing => 6
  | .fault => 7

/-- A permit as its place in its list (R41). -/
def Permit.place : Permit → Nat
  | .none => 0
  | .pending => 1
  | .given => 2

/-- A fault cause as its place in its list (R41), which is also DOOR_FAULT's detail (R57). -/
def FaultCause.place : FaultCause → Nat
  | .none => 0
  | .trailerLost => 1
  | .sealWithoutTrailer => 2
  | .sealStuck => 3

/-- A defrost state as its place in its list: 0 = IDLE to 6 = RECOVERY (R66, R168). -/
def DefrostState.place : DefrostState → Nat
  | .idle => 0
  | .queued => 1
  | .draining => 2
  | .granted => 3
  | .heating => 4
  | .drip => 5
  | .recovery => 6

/-- A last termination as its place in its list (R66). -/
def Termination.place : Termination → Nat
  | .none => 0
  | .temperature => 1
  | .time => 2

/-- A pallet state as its place in its list (R95, R167). -/
def PalletState.place : PalletState → Nat
  | .free => 0
  | .inbound => 1
  | .placed => 2
  | .inTransit => 3
  | .aboard => 4

/-- A pick state as its place in the list of the pick state field (R95, R166): INBOUND 0, PLACED 1, ABOARD 2 (log entry 7). No
pick state is FREE or IN_TRANSIT; those answer 0 (log entry 15). -/
def PalletState.pickPlace : PalletState → Nat
  | .inbound => 0
  | .placed => 1
  | .aboard => 2
  | .free => 0
  | .inTransit => 0

/-- A journal record's kind (R170). -/
def RecordKind.place : RecordKind → Nat
  | .moveDone => 0
  | .moveCancelled => 1
  | .moveLapsed => 2
  | .shipped => 3
  | .rejected => 4

/-- An entry's condition (R169). -/
def Condition.place : Condition → Nat
  | .active => 0
  | .returned => 1

/-- A subject's kind and index, the index 0 when the kind is none (R169). -/
def Subject.bytes : Subject → List Byte
  | .none => [0, 0]
  | .room r => [1, BitVec.ofNat 8 r]
  | .door d => [2, BitVec.ofNat 8 d]
  | .probe c => [3, BitVec.ofNat 8 c]
  | .pallet q => [4, BitVec.ofNat 8 q]
  | .move m => [5, BitVec.ofNat 8 m]

/-- Degree-minutes as the part reports them: floor(units / 960), with values above 65535 given as 65535 (R105, R108, R134). -/
def degreeMinutes (units : Nat) : Nat := min (units / Config.unitsPerDegreeMinute) Config.degreeMinutesMax

/-- The flags byte of a journal record (R170). -/
def RecordFlags.byte (f : RecordFlags) : Byte :=
  BitVec.ofNat 8 (f.overBudget.toNat + 2 * f.diverted.toNat + 4 * f.trailerLost.toNat + 8 * f.restart.toNat)

/-- The 23 bytes of a journal record that stand before its check byte (R170). -/
def JournalRecord.core (j : JournalRecord) : List Byte :=
  bytes32 j.sequence ++ value8 j.kind.place ++ bytes32 j.tag ++ value8 j.cls
    ++ [(j.origin.map Place.byte).getD 0xFF, j.final.byte]
    ++ bytes32 j.startTime ++ bytes32 j.endTime ++ value16 j.exposure ++ [j.flags.byte]

/-- A journal record as its 24 bytes; the last is the low 8 bits of the sum of the others (R170). -/
def JournalRecord.bytes (j : JournalRecord) : List Byte := j.core ++ [j.core.foldl (· + ·) 0]

/-! ### Requests on one room or door -/

/-- An answer about the room an argument names; a room outside 0 to 7 is refused with BAD_ARGUMENT. -/
def onRoom (b : Byte) (s : State) (k : Fin 8 → Answer) : Answer :=
  match index? 8 b with
  | some r => k r
  | none => refuse .badArgument s

/-- An answer about the door an argument names; a door outside 0 to 23 is refused with BAD_ARGUMENT. -/
def onDoor (b : Byte) (s : State) (k : Fin 24 → Answer) : Answer :=
  match index? 24 b with
  | some d => k d
  | none => refuse .badArgument s

/-- An operational door request: a door out of range is refused with BAD_ARGUMENT, a disabled door with DOOR_STATE (R44). -/
def onEnabledDoor (b : Byte) (s : State) (k : Fin 24 → Answer) : Answer :=
  onDoor b s fun d => if (s.door d).enabled then k d else refuse .doorState s

end Sys2Proof.Machine
end

