-- ==== Sys2Proof/Machine/Alarms.lean ====
section
/-! DEFINITION. The Alarm and Notice Table (chapter 8): what each code is, raising and returning (R144 to R148), presentability and
the attention lines (R150), routes and floors (R149, R150), taking and ending (R151, R152), and the resets (R154, R155). -/

namespace Sys2Proof.Machine

/-! ### Codes (R143) -/

/-- The codes in the order of R143; a code's place here is its byte (R166). -/
def alarmCodes : List AlarmCode :=
  [.tableFull, .roomHigh, .defrostOverrun, .defrostForced, .exposureExceeded, .doorBreach, .doorFault, .sealTimeout,
   .recoveryLate, .roomProbesLost, .probeFault, .moveOverdue, .roomLow, .exposureWarning, .frostDue, .journalHigh,
   .defrostGranted, .grantLapsed, .terminateReached, .moveLapsed, .openPermitReleased, .operationStarted, .setupRejected,
   .warmRestart]

/-- A code's place in R143, counted from TABLE_FULL = 0. -/
def AlarmCode.place : AlarmCode → Fin 24
  | .tableFull => 0
  | .roomHigh => 1
  | .defrostOverrun => 2
  | .defrostForced => 3
  | .exposureExceeded => 4
  | .doorBreach => 5
  | .doorFault => 6
  | .sealTimeout => 7
  | .recoveryLate => 8
  | .roomProbesLost => 9
  | .probeFault => 10
  | .moveOverdue => 11
  | .roomLow => 12
  | .exposureWarning => 13
  | .frostDue => 14
  | .journalHigh => 15
  | .defrostGranted => 16
  | .grantLapsed => 17
  | .terminateReached => 18
  | .moveLapsed => 19
  | .openPermitReleased => 20
  | .operationStarted => 21
  | .setupRejected => 22
  | .warmRestart => 23

/-- A code's class, 0 the most urgent (R143). -/
def AlarmCode.urgency : AlarmCode → Nat
  | .tableFull | .roomHigh | .defrostOverrun | .defrostForced | .exposureExceeded => 0
  | .doorBreach | .doorFault | .sealTimeout | .recoveryLate | .roomProbesLost | .probeFault | .moveOverdue => 1
  | .roomLow | .exposureWarning | .frostDue | .journalHigh | .defrostGranted | .grantLapsed | .terminateReached
  | .moveLapsed | .openPermitReleased | .operationStarted | .setupRejected | .warmRestart => 2

/-- Whether a code is a notice; every other code is a condition (R143). -/
def AlarmCode.isNotice : AlarmCode → Bool
  | .sealTimeout | .recoveryLate | .defrostGranted | .grantLapsed | .terminateReached | .moveLapsed
  | .openPermitReleased | .operationStarted | .setupRejected | .warmRestart => true
  | .tableFull | .roomHigh | .defrostOverrun | .defrostForced | .exposureExceeded | .doorBreach | .doorFault
  | .roomProbesLost | .probeFault | .moveOverdue | .roomLow | .exposureWarning | .frostDue | .journalHigh => false

/-! ### Entries -/

/-- The entry a pair of code and subject occupies; the tag plays no part in the search (R144). -/
def AlarmTable.find (t : AlarmTable) (code : AlarmCode) (subject : Subject) : Option (Fin 48) :=
  lowest 48 fun i => match t.entries[i] with
    | some e => e.code == code && e.subject == subject
    | none => false

/-- The lowest-numbered free entry among 1 to 47; entry 0 is reserved for TABLE_FULL (R143, R144). -/
def AlarmTable.freeEntry (t : AlarmTable) : Option (Fin 48) :=
  lowest 48 fun i => i != 0 && t.entries[i].isNone

/-- Whether a port routes a code (R149). -/
def AlarmTable.routed (t : AlarmTable) (p : Port) (code : AlarmCode) : Bool := (t.ports.get p).routes[code.place]

/-- A free entry occupied by a raise at the time `now`; it joins the end of the raise order (R144). -/
def AlarmTable.occupy (t : AlarmTable) (now : Word32) (i : Fin 48) (code : AlarmCode) (subject : Subject)
    (tag : Option Word32) (detail : Option Word16) : AlarmTable :=
  { t with
    entries := t.entries.set i (some
      { code := code
        subject := subject
        tag := tag
        detail := detail
        firstRaised := now
        lastRaised := now
        repeatCount := 0
        condition := if code.isNotice then .returned else .active
        delivery := .of fun p => if t.routed p code then .pending else .notRouted })
    order := t.order ++ [i] }

/-- A port's delivery state after a re-raise, from the one before and the port's present route (R145, step 4). -/
def Delivery.again (d : Delivery) (routed : Bool) : Delivery :=
  match d with
  | .notRouted => if routed then .pending else .notRouted
  | .pending => .pending
  | .inService => .inService
  | .done => if routed then .pending else .done

/-- An occupied entry re-raised at the time `now`; it moves to the end of the raise order (R145). -/
def AlarmTable.reraise (t : AlarmTable) (now : Word32) (i : Fin 48) (e : AlarmEntry) (tag : Option Word32)
    (detail : Option Word16) : AlarmTable :=
  { t with
    entries := t.entries.set i (some
      { e with
        repeatCount := min (e.repeatCount + 1) 255
        lastRaised := now
        detail := detail
        tag := tag
        condition := if e.code.isNotice then e.condition else .active
        delivery := .of fun p => (e.delivery.get p).again (t.routed p e.code) })
    order := t.order.erase i ++ [i] }

/-- Whether an entry is to be freed: RETURNED, and PENDING or IN_SERVICE at no port (R147). -/
def AlarmEntry.freeable (e : AlarmEntry) : Bool :=
  e.condition == .returned && !e.delivery.any fun d => d == .pending || d == .inService

/-- An entry freed: it leaves the raise order and all its fields are cleared (R147). -/
def AlarmTable.free (t : AlarmTable) (i : Fin 48) : AlarmTable :=
  { t with entries := t.entries.set i none, order := t.order.erase i }

/-- Entry 0 after a freeing among entries 1 to 47: an ACTIVE TABLE_FULL is returned and entry 0 tested for freeing in its
turn (R147). -/
def AlarmTable.returnTableFull (t : AlarmTable) : AlarmTable :=
  match t.entries[(0 : Fin 48)] with
  | some e =>
    if e.condition == .active then
      let e' := { e with condition := .returned }
      let t' := { t with entries := t.entries.set (0 : Fin 48) (some e') }
      if e'.freeable then t'.free 0 else t'
    else t
  | none => t

/-- The freeing test of an entry (R147). -/
def AlarmTable.testFree (t : AlarmTable) (i : Fin 48) : AlarmTable :=
  match t.entries[i] with
  | some e =>
    if e.freeable then
      if i = 0 then t.free i else (t.free i).returnTableFull
    else t
  | none => t

/-- TABLE_FULL raised for a raise that was not entered: entry 0 is occupied with detail 1, or re-raised with its detail one
more, stopping at 65535 (R148). -/
def AlarmTable.raiseTableFull (t : AlarmTable) (now : Word32) : AlarmTable :=
  match t.entries[(0 : Fin 48)] with
  | none => t.occupy now 0 .tableFull .none none (some 1)
  | some e =>
    t.reraise now 0 e none (some (BitVec.ofNat 16 (min ((e.detail.getD 0).toNat + 1) 65535)))

/-- A raise (R144, R145, R148), with whether it is entered. A retry that is not entered leaves entry 0 unchanged. -/
def AlarmTable.raise (t : AlarmTable) (now : Word32) (retry : Bool) (code : AlarmCode) (subject : Subject)
    (tag : Option Word32) (detail : Option Word16) : AlarmTable × Bool :=
  match t.find code subject with
  | some i =>
    match t.entries[i] with
    | some e => (t.reraise now i e tag detail, true)
    | none => (t, true)
  | none =>
    match t.freeEntry with
    | some i =>
      let t' := t.occupy now i code subject tag detail
      (if code.isNotice then t'.testFree i else t', true)
    | none => (if retry then t else t.raiseTableFull now, false)

/-- A return (R146): an ACTIVE entry of the pair becomes RETURNED and is tested for freeing; otherwise nothing changes. -/
def AlarmTable.return (t : AlarmTable) (code : AlarmCode) (subject : Subject) : AlarmTable :=
  match t.find code subject with
  | none => t
  | some i =>
    match t.entries[i] with
    | some e =>
      if e.condition == .active then
        AlarmTable.testFree { t with entries := t.entries.set i (some { e with condition := .returned }) } i
      else t
    | none => t

/-! ### Presentation (R150) -/

/-- The class of the entry in a place of the table; a free entry has none, and 3 stands for it here. -/
def AlarmTable.urgencyOf (t : AlarmTable) (i : Fin 48) : Nat :=
  match t.entries[i] with
  | some e => e.code.urgency
  | none => 3

/-- Whether an entry is presentable to a port: PENDING for it, of a class at or below its floor, and of a class strictly below
that of the top of its stack where the stack is not empty (R150). -/
def AlarmTable.presentable (t : AlarmTable) (p : Port) (i : Fin 48) : Bool :=
  match t.entries[i] with
  | none => false
  | some e =>
    e.delivery.get p == .pending && decide (e.code.urgency ≤ (t.ports.get p).floor)
      && match (t.ports.get p).stack with
        | [] => true
        | top :: _ => decide (e.code.urgency < t.urgencyOf top)

/-- The level of a port's ATTN line: asserted while at least one entry is presentable to the port (R150). -/
def AlarmTable.attention (t : AlarmTable) (p : Port) : Bool := (lowest 48 fun i => t.presentable p i).isSome

/-- The entry TAKE ALARM chooses for a port: among the presentable ones the lowest class, and of that class the earliest in
the raise order (R151). -/
def AlarmTable.choose (t : AlarmTable) (p : Port) : Option (Fin 48) :=
  let shown := t.order.filter fun i => t.presentable p i
  (shown.find? fun i => t.urgencyOf i == 0).or
    ((shown.find? fun i => t.urgencyOf i == 1).or (shown.find? fun i => t.urgencyOf i == 2))

/-- An entry's delivery state for one port replaced. -/
def AlarmTable.deliver (t : AlarmTable) (p : Port) (i : Fin 48) (d : Delivery) : AlarmTable :=
  match t.entries[i] with
  | some e => { t with entries := t.entries.set i (some { e with delivery := e.delivery.set p d }) }
  | none => t

/-- One port's part of the table replaced. -/
def AlarmTable.setPortAlarms (t : AlarmTable) (p : Port) (x : PortAlarms) : AlarmTable :=
  { t with ports := t.ports.set p x }

/-- An entry taken by a port: IN_SERVICE for it, and pushed onto its stack (R151). -/
def AlarmTable.take (t : AlarmTable) (p : Port) (i : Fin 48) : AlarmTable :=
  let x := t.ports.get p
  (t.deliver p i .inService).setPortAlarms p { x with stack := i :: x.stack }

/-- A port's stack emptied from the top down, each entry put back to PENDING for it (R154). -/
def AlarmTable.putBack (t : AlarmTable) (p : Port) : AlarmTable :=
  let x := t.ports.get p
  (x.stack.foldl (fun t i => t.deliver p i .pending) t).setPortAlarms p { x with stack := [] }

/-- The table cleared within a warm restart: entries, raise order and stacks are emptied, routes and floors kept. The clearing
counts as no return (R155). -/
def AlarmTable.clear (t : AlarmTable) : AlarmTable where
  entries := Vector.replicate 48 none
  order := []
  ports := .of fun p => { t.ports.get p with stack := [] }

/-! ### The table in the state -/

/-- The table replaced, and every port's ATTN line set from presentability, within the same event (R150). -/
def State.setAlarms (s : State) (t : AlarmTable) : State :=
  { s with alarms := t, attn := .of fun p => t.attention p }

/-- A raise by an owner block at the present dock clock, with whether it was entered. -/
def State.raise (s : State) (code : AlarmCode) (subject : Subject) (tag : Option Word32) (detail : Option Word16) :
    State × Bool :=
  let (t, entered) := s.alarms.raise s.clock false code subject tag detail
  (s.setAlarms t, entered)

/-- A condition raised; `unposted` sets the owner's unposted mark, and is applied when the raise is not entered. -/
def State.raiseCondition (s : State) (code : AlarmCode) (subject : Subject) (tag : Option Word32)
    (detail : Option Word16) (unposted : State → State) : State :=
  let (s', entered) := s.raise code subject tag detail
  if entered then s' else unposted s'

/-- A raise marked as a retry (R148); `posted` clears the owner's unposted mark, and is applied when the retry is entered. -/
def State.retryCondition (s : State) (code : AlarmCode) (subject : Subject) (tag : Option Word32)
    (detail : Option Word16) (posted : State → State) : State :=
  let (t, entered) := s.alarms.raise s.clock true code subject tag detail
  if entered then posted (s.setAlarms t) else s.setAlarms t

/-- A notice posted; one that is not entered is lost (R148). -/
def State.post (s : State) (code : AlarmCode) (subject : Subject) (detail : Option Word16) : State :=
  (s.raise code subject none detail).1

/-- A condition returned (R146). -/
def State.returnCondition (s : State) (code : AlarmCode) (subject : Subject) : State :=
  s.setAlarms (s.alarms.return code subject)

/-- A temperature as an alarm detail: signed, in sixteenths (R166). -/
def detailTemp (t : Temperature) : Option Word16 := some (BitVec.ofInt 16 t)

/-- A count as an alarm detail. -/
def detailNat (n : Nat) : Option Word16 := some (BitVec.ofNat 16 n)

/-- A move handle as an alarm detail: it stands in the low byte (R166). -/
def detailHandle (h : Handle) : Option Word16 := some (h.byte.setWidth 16)

/-! ### Requests on the table -/

/-- An entry as TAKE ALARM sends it (R169). -/
def entryValues (i : Fin 48) (e : AlarmEntry) : List Byte :=
  value8 i ++ value8 e.code.place ++ value8 e.code.urgency ++ e.subject.bytes
    ++ valueOptional 4 (e.tag.map bytes32) ++ valueOptional 2 (e.detail.map bytes16)
    ++ bytes32 e.firstRaised ++ bytes32 e.lastRaised ++ value8 e.repeatCount ++ value8 e.condition.place

/-- TAKE ALARM (R151): the chosen entry is pushed and returned as it stands, with the stack depth; NONE where no entry is
presentable. -/
def takeAlarm (p : Port) (s : State) : Answer :=
  match s.alarms.choose p with
  | none => refuse .none s
  | some i =>
    let t := s.alarms.take p i
    ⟨s.setAlarms t, .ok,
      ((s.alarms.entries[i].map (entryValues i)).getD []) ++ value8 ((t.ports.get p).stack.length)⟩

/-- END ALARM (R152): the top entry is popped and DONE for the port, then tested for freeing; the reply shows it as it stands
at the end. -/
def endAlarm (p : Port) (s : State) : Answer :=
  let x := s.alarms.ports.get p
  match x.stack with
  | [] => refuse .notFound s
  | i :: rest =>
    let t := (s.alarms.deliver p i .done).setPortAlarms p { x with stack := rest }
    let shown := match s.alarms.entries[i] with
      | some e => value8 i ++ value8 e.code.place ++ e.subject.bytes ++ value8 e.repeatCount ++ value8 e.condition.place
      | none => []
    ⟨s.setAlarms (t.testFree i), .ok, shown ++ value8 rest.length⟩

/-- SET ALARM ROUTES (R149): the route of one code for the requesting port. -/
def setAlarmRoutes (p : Port) (code routed : Byte) (s : State) : Answer :=
  match index? 24 code, flag? routed with
  | some c, some b =>
    let x := s.alarms.ports.get p
    done (s.setAlarms (s.alarms.setPortAlarms p { x with routes := x.routes.set c b }))
  | _, _ => refuse .badArgument s

/-- SET ALARM FLOOR (R150): the requesting port's presentation floor, forced to at most 2. -/
def setAlarmFloor (p : Port) (floor : Byte) (s : State) : Answer :=
  let x := s.alarms.ports.get p
  let v := forceNat 0 2 floor.toNat
  doneClamped (v != floor.toNat) (s.setAlarms (s.alarms.setPortAlarms p { x with floor := v }))

end Sys2Proof.Machine
end

