-- ==== Sys2Proof/Machine/Journal.lean ====
section
/-! DEFINITION. The Journal (chapter 7): writing a record (R135), the JOURNAL_HIGH tests (R139), admission (R136), and the requests
that read and release records (R137, R138) and set the threshold (R140). -/

namespace Sys2Proof.Machine

/-- JOURNAL_HIGH raised with the held count as detail; the high flag is set whether or not the raise is entered (R139). -/
def raiseJournalHigh (s : State) : State :=
  (s.setJournal { s.journal with highFlag := true }).raiseCondition .journalHigh .none none (detailNat s.journal.held)
    fun s => s.setJournal { s.journal with highUnposted := true }

/-- The raise test of JOURNAL_HIGH (R139). -/
def testJournalRaise (s : State) : State :=
  if s.journal.threshold ≤ s.journal.held && !s.journal.highFlag then raiseJournalHigh s else s

/-- The return test of JOURNAL_HIGH (R139). -/
def testJournalReturn (s : State) : State :=
  if s.journal.held < s.journal.threshold && s.journal.highFlag then
    (s.setJournal { s.journal with highFlag := false, highUnposted := false }).returnCondition .journalHigh .none
  else s

/-- The retry of JOURNAL_HIGH at a second tick (R139). -/
def retryJournal (s : State) : State :=
  if s.journal.highUnposted && s.journal.threshold ≤ s.journal.held then
    s.retryCondition .journalHigh .none none (detailNat s.journal.held) fun s =>
      s.setJournal { s.journal with highUnposted := false }
  else s

/-- A record written (R135): it takes the next sequence, joins the end of the list, and the JOURNAL_HIGH test is made. -/
def writeRecord (j : JournalRecord) (s : State) : State :=
  testJournalRaise (s.setJournal
    { s.journal with
      records := s.journal.records ++ [{ j with sequence := s.journal.next }]
      held := s.journal.held + 1
      next := s.journal.next + 1 })

/-- Whether the journal accounting has room for one more live pallet or live move (R136). -/
def State.admits (s : State) : Bool := s.accounting + 1 ≤ Config.journalCapacity

/-- READ JOURNAL (R137, R170): up to `count` of the oldest records, with the number returned, the held count and the next
sequence; NONE with the same values where no record is held. -/
def readJournal (count : Byte) (s : State) : Answer :=
  if count = 1 ∨ count = 2 then
    let shown := s.journal.records.take count.toNat
    ⟨s, if s.journal.held = 0 then .none else .ok,
      value16 (shown.length * 16384 + s.journal.held % 1024) ++ bytes32 s.journal.next
        ++ shown.flatMap JournalRecord.bytes⟩
  else refuse .badArgument s

/-- RELEASE JOURNAL (R138): the oldest `count` records are removed, at most those held, then the return test is made where any
was removed. -/
def releaseJournal (count : Word16) (s : State) : Answer :=
  let n := min count.toNat s.journal.held
  let s1 := s.setJournal
    { s.journal with records := s.journal.records.drop n, held := s.journal.held - n }
  let s2 := if 0 < n then testJournalReturn s1 else s1
  let oldest := match s2.journal.records with
    | [] => s2.journal.next
    | j :: _ => j.sequence
  ⟨s2, if s.journal.held < count.toNat then .clamped else .ok,
    value16 n ++ value16 s2.journal.held ++ bytes32 oldest⟩

/-- SET JOURNAL THRESHOLD (R140): forced into 1 to 512; in RUN both tests of R139 are then made. -/
def setJournalThreshold (threshold : Word16) (s : State) : Answer :=
  let v := forceNat 1 512 threshold.toNat
  let s1 := s.setJournal { s.journal with threshold := v }
  doneClamped (v != threshold.toNat) (if s.mode = .run then testJournalReturn (testJournalRaise s1) else s1)

end Sys2Proof.Machine
end

