-- ==== Sys2Proof/Machine/Rooms.lean ====
section
/-! DEFINITION. The Room Unit (chapter 2): the vote (R20), smoothing (R22, R23), the high and low timers and their alarms (R27 to
R30), ROOM_PROBES_LOST (R31), retries (R32), CONFIGURE ROOM (R18), READ ROOM (R33) and the port snapshots (R34 to R36). -/

namespace Sys2Proof.Machine

/-- A room's record changed by a function. -/
def State.modifyRoom (s : State) (r : Fin 8) (f : Room → Room) : State := s.setRoom r (f (s.room r))

/-! ### The vote and smoothing -/

/-- A channel counts as a valid probe (R15). -/
def Channel.valid (x : Channel) : Bool := x.role != .unused && x.measured && x.state == .ok

/-- The stored temperatures of a room's valid probes of one role, in ascending channel order. -/
def State.probeTemps (s : State) (role : ChannelRole) (r : Fin 8) : List Temperature :=
  (List.finRange 32).filterMap fun c =>
    let x := s.channel c
    if x.valid && x.role == role && x.room == r then some x.temperature else none

/-- A temperature put in its place in a rising list. -/
def insertTemp (t : Temperature) : List Temperature → List Temperature
  | [] => [t]
  | u :: us => if t ≤ u then t :: u :: us else u :: insertTemp t us

/-- A list of temperatures sorted, coldest first. -/
def sortTemps : List Temperature → List Temperature
  | [] => []
  | t :: ts => insertTemp t (sortTemps ts)

/-- The vote of one to four probes (R20), none with no probe (R21). A room never has more than four (R8). -/
def vote (temps : List Temperature) : Option Temperature :=
  match sortTemps temps with
  | [a] => some a
  | [_, b] => some b
  | [_, b, _] => some b
  | [_, a, b, _] => some ((a + b + 1) / 2)
  | _ => none

/-- The smoothing step from F toward R with weight k (R22). -/
def smoothStep (reading filtered : Temperature) (weight : Nat) : Int :=
  let d := reading - filtered
  let step := (d * weight + 128) / 256
  if step = 0 ∧ d ≠ 0 then (if 0 < d then 1 else -1) else step

/-- A room's record after its vote: the valid count stored; with a vote, F initialised (R23) or smoothed (R22); without one, R
and F held (R21). -/
def Room.voted (x : Room) (temps : List Temperature) : Room :=
  match vote temps with
  | none => { x with validCount := temps.length }
  | some reading =>
    { x with
      validCount := temps.length
      reading := reading
      firstVote := true
      filtered := if x.firstVote then x.filtered + smoothStep reading x.filtered x.weight else reading }

/-! ### Room temperature alarms -/

/-- The defrost states that hold the high timer at 0 (R28). -/
def DefrostState.holdsHighTimer : DefrostState → Bool
  | .heating | .drip | .recovery => true
  | .idle | .queued | .draining | .granted => false

/-- A timer that runs while its condition holds: started when it is stopped and may start, stopped when the condition does
not hold, and otherwise left as it stands (R27, R30). -/
def Timer.follow (t : Timer) (holds mayStart : Bool) (length : Nat) : Timer :=
  if holds then (if t == .stopped && mayStart then .start length else t) else .stopped

/-- ROOM_HIGH's timing and return for a room (R27, R28, R29). -/
def evaluateHigh (r : Fin 8) (s : State) : State :=
  let x := s.room r
  let mayStart := !x.highFlag && !(s.defrost r).state.holdsHighTimer
  let s1 := s.setRoom r
    { x with highTimer := x.highTimer.follow (decide (x.effectiveUpper < x.filtered)) mayStart x.highDelay }
  if x.highFlag && decide (x.filtered ≤ x.effectiveUpper - Config.alarmHysteresis) then
    (s1.modifyRoom r fun x => { x with highFlag := false, highUnposted := false }).returnCondition .roomHigh (.room r)
  else s1

/-- ROOM_LOW's timing and return for a room (R30). -/
def evaluateLow (r : Fin 8) (s : State) : State :=
  let x := s.room r
  let s1 := s.setRoom r
    { x with lowTimer := x.lowTimer.follow (decide (x.filtered < x.lower)) (!x.lowFlag) x.lowDelay }
  if x.lowFlag && decide (x.lower + Config.alarmHysteresis ≤ x.filtered) then
    (s1.modifyRoom r fun x => { x with lowFlag := false, lowUnposted := false }).returnCondition .roomLow (.room r)
  else s1

/-- The alarm steps of a room: in RUN, once it has had its first vote, its high timing and then its low timing (R19, R26). -/
def evaluateRoom (r : Fin 8) (s : State) : State :=
  if s.mode = .run ∧ (s.room r).firstVote then evaluateLow r (evaluateHigh r s) else s

/-- ROOM_PROBES_LOST raised, its flag set whether or not the raise is entered (R31, R32). -/
def raiseProbesLost (r : Fin 8) (s : State) : State :=
  (s.modifyRoom r fun x => { x with lostFlag := true }).raiseCondition .roomProbesLost (.room r) none none fun s =>
    s.modifyRoom r fun x => { x with lostUnposted := true }

/-- The last step of a round-complete event for a room: ROOM_PROBES_LOST (R31). -/
def evaluateLost (r : Fin 8) (s : State) : State :=
  let x := s.room r
  if x.validCount = 0 then
    if !x.lostFlag && (x.firstVote || s.mode == .run) then raiseProbesLost r s else s
  else if x.lostFlag then
    (s.setRoom r { x with lostFlag := false, lostUnposted := false }).returnCondition .roomProbesLost (.room r)
  else s

/-- The Room Unit's update of one room at a round-complete event, its five steps in order (R19). -/
def roundRoom (r : Fin 8) (s : State) : State :=
  evaluateLost r (evaluateRoom r (s.modifyRoom r fun x => x.voted (s.probeTemps .room r)))

/-- The Room Unit's part of a round-complete event: all eight rooms, room 0 first (R19). -/
def roundRooms (s : State) : State := forEach 8 roundRoom s

/-- High timing resumed from 0 as a room leaves RECOVERY for IDLE (R28). A room that has not voted has no timing (R27, R23). -/
def resumeHigh (r : Fin 8) (s : State) : State :=
  s.modifyRoom r fun x =>
    { x with
      highTimer := if x.effectiveUpper < x.filtered ∧ !x.highFlag ∧ x.firstVote then .start x.highDelay else .stopped }

/-- The high timer's expiry, where one is due: ROOM_HIGH is raised with F as detail and the high flag set (R27, R32). -/
def expireHigh (r : Fin 8) (s : State) : State :=
  if (s.room r).highTimer.due then
    (s.modifyRoom r fun x => { x with highTimer := .stopped, highFlag := true }).raiseCondition .roomHigh (.room r) none
      (detailTemp (s.room r).filtered) fun s => s.modifyRoom r fun x => { x with highUnposted := true }
  else s

/-- The low timer's expiry, where one is due: ROOM_LOW is raised with F as detail and the low flag set (R30, R32). -/
def expireLow (r : Fin 8) (s : State) : State :=
  if (s.room r).lowTimer.due then
    (s.modifyRoom r fun x => { x with lowTimer := .stopped, lowFlag := true }).raiseCondition .roomLow (.room r) none
      (detailTemp (s.room r).filtered) fun s => s.modifyRoom r fun x => { x with lowUnposted := true }
  else s

/-- A room's expiries that are due, taken (R3, log entry 30). -/
def settleRoom (r : Fin 8) (s : State) : State := expireLow r (expireHigh r s)

/-- Every room's expiries that are due, taken. -/
def settleRooms (s : State) : State := forEach 8 settleRoom s

/-- The retry of ROOM_HIGH, with F at the retry as detail (R32). -/
def retryHigh (r : Fin 8) (s : State) : State :=
  if (s.room r).highUnposted then
    s.retryCondition .roomHigh (.room r) none (detailTemp (s.room r).filtered) fun s =>
      s.modifyRoom r fun x => { x with highUnposted := false }
  else s

/-- The retry of ROOM_PROBES_LOST (R32). -/
def retryLost (r : Fin 8) (s : State) : State :=
  if (s.room r).lostUnposted then
    s.retryCondition .roomProbesLost (.room r) none none fun s =>
      s.modifyRoom r fun x => { x with lostUnposted := false }
  else s

/-- The retry of ROOM_LOW, with F at the retry as detail (R32). -/
def retryLow (r : Fin 8) (s : State) : State :=
  if (s.room r).lowUnposted then
    s.retryCondition .roomLow (.room r) none (detailTemp (s.room r).filtered) fun s =>
      s.modifyRoom r fun x => { x with lowUnposted := false }
  else s

/-- The Room Unit's retries at a second tick: ascending rooms, each in the code order of R143 (R32). -/
def retryRooms (s : State) : State := forEach 8 (fun r s => retryLow r (retryLost r (retryHigh r s))) s

/-! ### Requests -/

/-- CONFIGURE ROOM (R18): the Room Unit stores the kind and the Defrost Unit the heater load. -/
def configureRoom (room kind heaterLoad : Byte) (s : State) : Answer :=
  onRoom room s fun r =>
    match kind? kind with
    | none => refuse .badArgument s
    | some k =>
      if 1 ≤ heaterLoad.toNat ∧ heaterLoad.toNat ≤ 15 then
        done ((s.modifyRoom r fun x => { x with kind := k }).setDefrost r
          { s.defrost r with heaterLoad := heaterLoad.toNat })
      else refuse .badArgument s

/-- READ ROOM (R33). -/
def readRoom (room : Byte) (s : State) : Answer :=
  onRoom room s fun r =>
    let x := s.room r
    ⟨s, .ok,
      value8 x.kind.place ++ value16 x.weight ++ valueTemp x.reading ++ valueTemp x.filtered ++ value8 x.validCount
        ++ valueFlag x.firstVote ++ valueTemp x.upper ++ valueTemp x.lower ++ valueOptional 2 (x.ceiling.map valueTemp)
        ++ valueTemp x.effectiveUpper ++ value16 x.highDelay ++ value16 x.lowDelay
        ++ valueTimer x.highTimer ++ valueTimer x.lowTimer
        ++ valueFlag x.highFlag ++ valueFlag x.lowFlag ++ valueFlag x.lostFlag
        ++ value8 (s.defrost r).state.place⟩

/-! ### Snapshots -/

/-- A room's values in a snapshot (R34). -/
def State.snapshotEntry (s : State) (r : Fin 8) : SnapshotEntry where
  filtered := (s.room r).filtered
  reading := (s.room r).reading
  validCount := (s.room r).validCount
  effectiveUpper := (s.room r).effectiveUpper
  defrost := (s.defrost r).state

/-- All eight rooms and the dock clock copied as they stand, unread (R34). -/
def State.takeSnapshot (s : State) : Snapshot where
  clock := s.clock
  rooms :=
    #v[s.snapshotEntry 0, s.snapshotEntry 1, s.snapshotEntry 2, s.snapshotEntry 3,
       s.snapshotEntry 4, s.snapshotEntry 5, s.snapshotEntry 6, s.snapshotEntry 7]
  readLow := false
  readHigh := false

/-- Whether a held snapshot is READ: both parts have been read (R34). -/
def Snapshot.isRead (x : Snapshot) : Bool := x.readLow && x.readHigh

/-- LATCH ROOMS (R34): a snapshot for the requesting port, unless one is held UNREAD. -/
def latchRooms (p : Port) (s : State) : Answer :=
  let fresh := done (s.setPort p { s.port p with snapshot := some s.takeSnapshot })
  match (s.port p).snapshot with
  | none => fresh
  | some x => if x.isRead then fresh else refuse .kept s

/-- A room entry of a snapshot as its 8 bytes (R168). -/
def SnapshotEntry.bytes (x : SnapshotEntry) : List Byte :=
  valueTemp x.filtered ++ valueTemp x.reading ++ value8 x.validCount ++ valueTemp x.effectiveUpper
    ++ value8 x.defrost.place

/-- The four room entries of a part (R34, R168): rooms 0 to 3, or 4 to 7. -/
def Snapshot.partBytes (x : Snapshot) (high : Bool) : List Byte :=
  (((if high then x.rooms.toList.drop 4 else x.rooms.toList.take 4)).map SnapshotEntry.bytes).flatten

/-- READ ROOM SNAPSHOT (R35, R168): one part of the port's snapshot, whose read mark is set; NONE where none is held. -/
def readRoomSnapshot (p : Port) (part : Byte) (s : State) : Answer :=
  match flag? part with
  | none => refuse .badArgument s
  | some high =>
    match (s.port p).snapshot with
    | none => refuse .none s
    | some x =>
      let y := if high then { x with readHigh := true } else { x with readLow := true }
      ⟨s.setPort p { s.port p with snapshot := some y }, .ok,
        value8 high.toNat ++ value8 (if y.isRead then 2 else 1) ++ bytes32 y.clock ++ y.partBytes high⟩

end Sys2Proof.Machine
end

