-- ==== Sys2Proof/Machine/Doors.lean ====
section
/-! DEFINITION. The Door Unit (chapter 3): line sampling and edge flags (R38 to R40), the derived state (R45), entering and leaving
states (R44, R54, R57), the transitions on debounced changes and timer expiries (R47 to R55), permits (R51, R52), and the door
requests but for release and clear fault, which settle pallets and moves (Trailers.lean). -/

namespace Sys2Proof.Machine

/-- A door's record changed by a function; its outputs follow (R46). -/
def State.modifyDoor (s : State) (d : Fin 24) (f : Door → Door) : State := s.setDoor d (f (s.door d))

/-! ### Lines, sampling and edge flags -/

/-- One of a door's three inputs. -/
def Door.input (x : Door) : DoorInput → InputLine
  | .tp => x.tp
  | .pc => x.pc
  | .sm => x.sm

/-- A door's record with one input replaced. -/
def Door.setInput (x : Door) (i : DoorInput) (l : InputLine) : Door :=
  match i with
  | .tp => { x with tp := l }
  | .pc => { x with pc := l }
  | .sm => { x with sm := l }

/-- One input sampled at a strobe (R38): the raw level read through the polarity, compared with the debounced level. A change
that reaches the debounce count is marked due; one still due waits to be taken (log entry 1). -/
def InputLine.sample (l : InputLine) (raw polarity : Bool) (debounce : Nat) : InputLine :=
  if l.changeDue then l
  else if (raw == polarity) = l.level then { l with count := 0 }
  else { l with count := min (l.count + 1) 15, changeDue := decide (debounce ≤ l.count + 1) }

/-- A door's three inputs sampled at a strobe. -/
def Door.sample (x : Door) (lines : LineSettings) (tp pc sm : Bool) : Door :=
  { x with
    tp := x.tp.sample tp lines.tp lines.debounce
    pc := x.pc.sample pc lines.pc lines.debounce
    sm := x.sm.sample sm lines.sm lines.debounce }

/-- The sample strobe: every input of every door is sampled, in SETUP and in RUN, enabled or not (R38). -/
def sampleStrobe (tp pc sm : BitVec 24) (s : State) : State :=
  forEach 24 (fun d s => s.modifyDoor d fun x => x.sample s.lines tp[d] pc[d] sm[d]) s

/-- A debounced change (R38, R40): the level changes, the count returns to 0, and the edge flag of the change is set. -/
def InputLine.change (l : InputLine) : InputLine :=
  { level := !l.level
    count := 0
    changeDue := false
    becameActive := l.becameActive || !l.level
    becameInactive := l.becameInactive || l.level }

/-- An input's difference count cleared, with a change not taken yet (R39, log entry 6). -/
def InputLine.clearCount (l : InputLine) : InputLine := { l with count := 0, changeDue := false }

/-- An input's edge flags cleared (R40). -/
def InputLine.clearEdges (l : InputLine) : InputLine := { l with becameActive := false, becameInactive := false }

/-! ### Entering and leaving states -/

/-- A door's record in a new state: the timers of the old state stop, and permit, close mark, breach origin mark and fault cause
take the values they have outside the states that use them (R41, R49 to R57). -/
def Door.enter (x : Door) (state : DoorState) : Door :=
  { x with
    state := state
    permit := .none
    closeMark := false
    breachOrigin := false
    faultCause := .none
    sealTimer := .stopped
    breachTimer := .stopped
    releaseTimer := .stopped }

/-- Entry into VACANT, which clears the trailer temperature (R45, R61). -/
def enterVacant (d : Fin 24) (s : State) : State :=
  s.modifyDoor d fun x => { x.enter .vacant with trailerTemp := none }

/-- Entry into DOCKED (R48). -/
def enterDocked (d : Fin 24) (s : State) : State := s.modifyDoor d fun x => x.enter .docked

/-- Entry into SEALING: the seal timer starts with the seal limit (R49). -/
def enterSealing (d : Fin 24) (s : State) : State :=
  s.modifyDoor d fun x => { x.enter .sealing with sealTimer := .start x.sealLimit }

/-- Entry into SEALED with permit NONE (R48, R49, R53). -/
def enterSealed (d : Fin 24) (s : State) : State := s.modifyDoor d fun x => x.enter .sealed

/-- Entry into WORKING, the close mark clear (R50, R54). -/
def enterWorking (d : Fin 24) (s : State) : State := s.modifyDoor d fun x => x.enter .working

/-- Entry into BREACH: the grace timer starts; the breach origin mark is set when it is entered from WORKING (R53, R54). -/
def enterBreach (origin : Bool) (d : Fin 24) (s : State) : State :=
  s.modifyDoor d fun x => { x.enter .breach with breachOrigin := origin, breachTimer := .start x.breachGrace }

/-- Entry into RELEASING: the trailer temperature is cleared and the release timer starts (R55, R56, R61). -/
def enterReleasing (d : Fin 24) (s : State) : State :=
  s.modifyDoor d fun x => { x.enter .releasing with trailerTemp := none, releaseTimer := .start x.releaseTime }

/-- Entry into FAULT: the cause is recorded, DOOR_FAULT raised with it as detail, and the fault flag set (R57, R64). -/
def enterFault (cause : FaultCause) (d : Fin 24) (s : State) : State :=
  (s.modifyDoor d fun x => { x.enter .fault with faultCause := cause, faultFlag := true }).raiseCondition
    .doorFault (.door d) none (detailNat cause.place) fun s => s.modifyDoor d fun x => { x with faultUnposted := true }

/-- Exit from BREACH: the breach flag and its unposted mark are cleared, and DOOR_BREACH returned if it is active (R54, R64). -/
def leaveBreach (d : Fin 24) (s : State) : State :=
  (s.modifyDoor d fun x => { x with breachFlag := false, breachUnposted := false }).returnCondition .doorBreach (.door d)

/-- A state derived from the lines, with the cause where it is FAULT (R45). -/
inductive Derived
  | fault (cause : FaultCause)
  | breach
  | vacant
  | sealed
  | sealing
  | docked
deriving DecidableEq, Repr

/-- The state of a door derived from its lines and whether it is trailer-held: the first step that applies (R45). -/
def Door.derive (x : Door) (held : Bool) : Derived :=
  if !x.tp.level && held then .fault .trailerLost
  else if !x.pc.level then .breach
  else if !x.tp.level && x.sm.level then .fault .sealWithoutTrailer
  else if !x.tp.level then .vacant
  else if x.sm.level then .sealed
  else if held then .sealing
  else .docked

/-- The derived state of a door entered, with the effects of entering it (R45). -/
def deriveDoor (d : Fin 24) (s : State) : State :=
  match (s.door d).derive (s.trailerHeld d) with
  | .fault cause => enterFault cause d s
  | .breach => enterBreach false d s
  | .vacant => enterVacant d s
  | .sealed => enterSealed d s
  | .sealing => enterSealing d s
  | .docked => enterDocked d s

/-! ### Transitions on debounced changes -/

/-- TP has become active (R47). -/
def doorTrailerArrives (d : Fin 24) (s : State) : State :=
  match (s.door d).state with
  | .vacant => enterDocked d s
  | .docked | .sealing | .sealed | .working | .breach | .releasing | .fault => s

/-- TP has been lost (R48, R49, R50, R53). -/
def doorTrailerLeaves (d : Fin 24) (s : State) : State :=
  match (s.door d).state with
  | .docked => enterVacant d s
  | .sealing => if s.trailerHeld d then enterFault .trailerLost d s else enterVacant d s
  | .sealed | .working => enterFault .trailerLost d s
  | .vacant | .breach | .releasing | .fault => s

/-- The panel has closed (R53, R54). The exit from BREACH, which returns DOOR_BREACH, comes before the entry of the derived state,
which may raise DOOR_FAULT; the manual orders the two in DOOR CLEAR FAULT alone (R58, log entry 29). -/
def doorPanelCloses (d : Fin 24) (s : State) : State :=
  match (s.door d).state with
  | .working => enterSealed d s
  | .breach => deriveDoor d (leaveBreach d s)
  | .vacant | .docked | .sealing | .sealed | .releasing | .fault => s

/-- The panel has opened (R47 to R50, R55). -/
def doorPanelOpens (d : Fin 24) (s : State) : State :=
  let x := s.door d
  match x.state with
  | .vacant | .docked | .sealing | .releasing => enterBreach false d s
  | .sealed => if x.permit = .given ∨ x.override then enterWorking d s else enterBreach false d s
  | .working | .breach | .fault => s

/-- The seal has been made (R47, R48, R49, R54). -/
def doorSealMade (d : Fin 24) (s : State) : State :=
  let x := s.door d
  match x.state with
  | .vacant => enterFault .sealWithoutTrailer d s
  | .docked | .sealing => enterSealed d s
  | .breach => if !x.pc.level && x.tp.level then enterWorking d (leaveBreach d s) else s
  | .sealed | .working | .releasing | .fault => s

/-- The seal has been lost (R50, R53). -/
def doorSealLost (d : Fin 24) (s : State) : State :=
  match (s.door d).state with
  | .sealed => enterSealing d s
  | .working => enterBreach true d s
  | .vacant | .docked | .sealing | .breach | .releasing | .fault => s

/-- The transition a debounced change makes at an enabled door in RUN, from the level the input now has. -/
def doorTransition (i : DoorInput) (level : Bool) (d : Fin 24) (s : State) : State :=
  match i, level with
  | .tp, true => doorTrailerArrives d s
  | .tp, false => doorTrailerLeaves d s
  | .pc, true => doorPanelCloses d s
  | .pc, false => doorPanelOpens d s
  | .sm, true => doorSealMade d s
  | .sm, false => doorSealLost d s

/-- A debounced change that leaves the door in BREACH starts the grace timer again (R54). -/
def restartGrace (before : DoorState) (d : Fin 24) (s : State) : State :=
  if before = .breach ∧ (s.door d).state = .breach then
    s.modifyDoor d fun x => { x with breachTimer := .start x.breachGrace }
  else s

/-- The state machine's part of a debounced change at an enabled door in RUN: a loss of TP clears the trailer temperature
(R61), the transition is made, and the grace starts again where the door stays in BREACH (R44, R54). -/
def doorEvent (i : DoorInput) (level : Bool) (d : Fin 24) (s : State) : State :=
  let before := (s.door d).state
  let s1 := if i = .tp ∧ level = false then s.modifyDoor d fun x => { x with trailerTemp := none } else s
  restartGrace before d (doorTransition i level d s1)

/-! ### Timer expiries -/

/-- The seal timer's expiry at a SEALING door, where one is due: SEAL_TIMEOUT is posted, and the door goes to DOCKED, or stays
with the timer started again where it is trailer-held (R49). -/
def expireSeal (d : Fin 24) (s : State) : State :=
  let x := s.door d
  if x.state = .sealing ∧ x.sealTimer.due then
    let s1 := s.post .sealTimeout (.door d) none
    if s.trailerHeld d then s1.modifyDoor d fun x => { x with sealTimer := .start x.sealLimit } else enterDocked d s1
  else s

/-- The breach grace timer's expiry at a door in BREACH, where one is due: DOOR_BREACH is raised and the breach flag set; the
timer stays stopped (R54, R64). -/
def expireBreach (d : Fin 24) (s : State) : State :=
  let x := s.door d
  if x.state = .breach ∧ x.breachTimer.due then
    (s.modifyDoor d fun x => { x with breachTimer := .stopped, breachFlag := true }).raiseCondition
      .doorBreach (.door d) none none fun s => s.modifyDoor d fun x => { x with breachUnposted := true }
  else s

/-- The release timer's expiry at a RELEASING door, where one is due: FAULT with SEAL_STUCK, DOCKED or VACANT by the lines (R55). -/
def expireRelease (d : Fin 24) (s : State) : State :=
  let x := s.door d
  if x.state = .releasing ∧ x.releaseTimer.due then
    if x.sm.level then enterFault .sealStuck d s
    else if x.tp.level then enterDocked d s
    else enterVacant d s
  else s

/-- A door's expiries that are due, taken (R3, log entry 30). -/
def settleDoor (d : Fin 24) (s : State) : State := expireRelease d (expireBreach d (expireSeal d s))

/-! ### Debounced changes -/

/-- A debounced change taken (R38): the input changes and sets its edge flag; in RUN at an enabled door it goes to the state
machine (R44). -/
def takeChange (d : Fin 24) (i : DoorInput) (s : State) : State :=
  let l := (s.door d).input i
  let s1 := s.modifyDoor d fun x => x.setInput i l.change
  if s.mode = .run ∧ (s.door d).enabled then doorEvent i (!l.level) d s1 else s1

/-- A debounced change, where one is due. An expiry that an earlier second tick brought about at the door has then occurred, so the
stops and starts of the change come after it (R3, log entry 30). -/
def debouncedChange (d : Fin 24) (i : DoorInput) (s : State) : State :=
  if ((s.door d).input i).changeDue then takeChange d i (settleDoor d s) else s

/-! ### Permits -/

/-- The defrost states in which a door-open permit is held (R51). -/
def DefrostState.holdsPermits : DefrostState → Bool
  | .granted | .heating | .drip => true
  | .idle | .queued | .draining | .recovery => false

/-- One held permit given, where the door is enabled, its dock room is `r` and its permit PENDING; OPEN_PERMIT_RELEASED is
posted (R52). -/
def givePermit (r : Fin 8) (d : Fin 24) (s : State) : State :=
  let x := s.door d
  if x.enabled ∧ x.dockRoom = r ∧ x.permit = .pending then
    (s.setDoor d { x with permit := .given }).post .openPermitReleased (.door d) none
  else s

/-- Every held permit at the doors of a room given, in ascending door order (R52). -/
def givePermits (r : Fin 8) (s : State) : State := forEach 24 (givePermit r) s

/-! ### Retries and restarts -/

/-- The retry of a door's DOOR_BREACH while it is in BREACH, or DOOR_FAULT while it is in FAULT (R64). -/
def retryDoor (d : Fin 24) (s : State) : State :=
  let x := s.door d
  if x.state = .breach ∧ x.breachUnposted then
    s.retryCondition .doorBreach (.door d) none none fun s => s.modifyDoor d fun x => { x with breachUnposted := false }
  else if x.state = .fault ∧ x.faultUnposted then
    s.retryCondition .doorFault (.door d) none (detailNat x.faultCause.place) fun s =>
      s.modifyDoor d fun x => { x with faultUnposted := false }
  else s

/-- The Door Unit's retries at a second tick, in ascending door order (R64). -/
def retryDoors (s : State) : State := forEach 24 retryDoor s

/-- The state of every enabled door derived from its lines, in ascending door order (R65). -/
def deriveDoors (s : State) : State := forEach 24 (fun d s => if (s.door d).enabled then deriveDoor d s else s) s

/-- A door's record cleared for a warm restart (R65, steps 1 to 3). -/
def Door.restarted (x : Door) : Door :=
  { x with
    override := false
    permit := .none
    closeMark := false
    breachOrigin := false
    faultCause := .none
    breachFlag := false
    faultFlag := false
    breachUnposted := false
    faultUnposted := false
    sealTimer := .stopped
    breachTimer := .stopped
    releaseTimer := .stopped }

/-- One enabled door at a warm restart: cleared, and derived from its lines; a derived FAULT with cause TRAILER_LOST clears
the trailer temperature, as entry into VACANT does (R61, R65). -/
def restartDoor (d : Fin 24) (s : State) : State :=
  if (s.door d).enabled then
    let s1 := deriveDoor d (s.modifyDoor d Door.restarted)
    if (s1.door d).faultCause = .trailerLost then s1.modifyDoor d fun x => { x with trailerTemp := none } else s1
  else s

/-- The Door Unit's part of a warm restart (R65). The doors are taken in ascending order, which R65 states for the entry into RUN
alone and neither it nor R177 states here: the model's choice (log entry 13). It shows in the raise order and entry numbers of
DOOR_FAULT. -/
def restartDoors (s : State) : State := forEach 24 restartDoor s

/-! ### Lane temperature -/

/-- The penalty a door's state adds to its lane (R62). In SETUP and at a disabled door the state is VACANT (R44). -/
def Door.penalty (x : Door) : Temperature :=
  match x.state with
  | .working => x.workPenalty
  | .breach => x.breachPenalty
  | .vacant | .docked | .sealing | .sealed | .releasing | .fault => 0

/-- The lane temperature of a door: F of its dock room plus the penalty, clamped (R62). -/
def State.laneTemp (s : State) (d : Fin 24) : Temperature :=
  clampTemp ((s.room (s.door d).dockRoom).filtered + (s.door d).penalty)

/-! ### Requests -/

/-- SET DOOR LINES (R39): polarities checked, debounce count forced into 1 to 15. A changed input polarity clears every
difference count; every output is driven again. -/
def setDoorLines (tp pc sm sb pr debounce : Byte) (s : State) : Answer :=
  match flag? tp, flag? pc, flag? sm, flag? sb, flag? pr with
  | some tp, some pc, some sm, some sb, some pr =>
    let n := forceNat 1 15 debounce.toNat
    let inverted := tp != s.lines.tp || pc != s.lines.pc || sm != s.lines.sm
    let s1 := { s with lines := ⟨tp, pc, sm, sb, pr, n⟩ }
    doneClamped (n != debounce.toNat) (forEach 24 (fun d s => s.modifyDoor d fun x =>
      if inverted then { x with tp := x.tp.clearCount, pc := x.pc.clearCount, sm := x.sm.clearCount } else x) s1)
  | _, _, _, _, _ => refuse .badArgument s

/-- CONFIGURE DOOR (R42): structural checks in order, then penalties forced into 0 to 960 and weights into 0 to 4095. -/
def configureDoor (door enabled dockRoom : Byte) (workPenalty breachPenalty workFrost breachFrost : Word16)
    (s : State) : Answer :=
  onDoor door s fun d =>
    match flag? enabled, index? 8 dockRoom with
    | some en, some r =>
      let wp := forceInt 0 960 workPenalty.toInt
      let bp := forceInt 0 960 breachPenalty.toInt
      let wf := forceNat 0 4095 workFrost.toNat
      let bf := forceNat 0 4095 breachFrost.toNat
      doneClamped
        (wp != workPenalty.toInt || bp != breachPenalty.toInt || wf != workFrost.toNat || bf != breachFrost.toNat)
        (s.modifyDoor d fun x =>
          { x with
            enabled := en
            dockRoom := r
            workPenalty := wp
            breachPenalty := bp
            workFrost := wf
            breachFrost := bf })
    | _, _ => refuse .badArgument s

/-- SET DOOR TIMES (R43): a running timer keeps its count. -/
def setDoorTimes (door : Byte) (sealLimit breachGrace releaseTime : Word16) (s : State) : Answer :=
  onDoor door s fun d =>
    let sl := forceNat 1 120 sealLimit.toNat
    let bg := forceNat 0 300 breachGrace.toNat
    let rt := forceNat 1 120 releaseTime.toNat
    doneClamped (sl != sealLimit.toNat || bg != breachGrace.toNat || rt != releaseTime.toNat)
      (s.modifyDoor d fun x => { x with sealLimit := sl, breachGrace := bg, releaseTime := rt })

/-- DOOR ARM SEAL (R48): in DOCKED the door goes to SEALING. -/
def doorArmSeal (door : Byte) (s : State) : Answer :=
  onEnabledDoor door s fun d =>
    if (s.door d).state = .docked then done (enterSealing d s) else refuse .doorState s

/-- DOOR OPEN PERMIT (R51): in SEALED the permit is GIVEN, or held PENDING while the dock room is GRANTED, HEATING or DRIP; a
permit already given or held stays as it is. -/
def doorOpenPermit (door : Byte) (s : State) : Answer :=
  onEnabledDoor door s fun d =>
    let x := s.door d
    if x.state = .sealed then
      match x.permit with
      | .given => done s
      | .pending => ⟨s, .held, []⟩
      | .none =>
        if (s.defrost x.dockRoom).state.holdsPermits then ⟨s.setDoor d { x with permit := .pending }, .held, []⟩
        else done (s.setDoor d { x with permit := .given })
    else refuse .doorState s

/-- DOOR CLOSE (R50, R53): in SEALED the permit becomes NONE; in WORKING the close mark is set. -/
def doorClose (door : Byte) (s : State) : Answer :=
  onEnabledDoor door s fun d =>
    let x := s.door d
    match x.state with
    | .sealed => done (s.setDoor d { x with permit := .none })
    | .working => done (s.setDoor d { x with closeMark := true })
    | .vacant | .docked | .sealing | .breach | .releasing | .fault => refuse .doorState s

/-- DOOR OVERRIDE (R60): set or cleared in every state of an enabled door; the outputs follow (R46). -/
def doorOverride (door on : Byte) (s : State) : Answer :=
  onEnabledDoor door s fun d =>
    match flag? on with
    | none => refuse .badArgument s
    | some b => done (s.modifyDoor d fun x => { x with override := b })

/-- REPORT TRAILER TEMPERATURE (R61): stored, forced into −960 to +960, at a door whose TP is active. -/
def reportTrailerTemperature (door : Byte) (temperature : Word16) (s : State) : Answer :=
  onEnabledDoor door s fun d =>
    if (s.door d).tp.level then
      let t := clampTemp temperature.toInt
      doneClamped (t != temperature.toInt) (s.modifyDoor d fun x => { x with trailerTemp := some t })
    else refuse .doorState s

/-- The values of a READ DOOR reply (R63). A debounced level is sent as 1 for active and 0 for inactive, the model's choice: R166 names no
form for it (log entry 7). -/
def doorValues (d : Fin 24) (s : State) : List Byte :=
  let x := s.door d
  valueFlag x.enabled ++ value8 x.dockRoom ++ value8 x.state.place ++ value8 x.permit.place ++ valueFlag x.override
    ++ valueFlag x.closeMark ++ value8 x.faultCause.place
    ++ valueFlag x.tp.level ++ valueFlag x.pc.level ++ valueFlag x.sm.level ++ valueFlag x.sb ++ valueFlag x.pr
    ++ valueFlag x.tp.becameActive ++ valueFlag x.tp.becameInactive
    ++ valueFlag x.pc.becameActive ++ valueFlag x.pc.becameInactive
    ++ valueFlag x.sm.becameActive ++ valueFlag x.sm.becameInactive
    ++ valueTimer x.sealTimer ++ valueTimer x.breachTimer ++ valueTimer x.releaseTimer
    ++ valueOptional 2 (x.trailerTemp.map valueTemp) ++ valueTemp (s.laneTemp d)
    ++ valueFlag x.breachFlag ++ valueFlag x.faultFlag

/-- READ DOOR (R63): the values as they stand; the six edge flags are then cleared (R40). -/
def readDoor (door : Byte) (s : State) : Answer :=
  onDoor door s fun d =>
    ⟨s.modifyDoor d fun x =>
        { x with tp := x.tp.clearEdges, pc := x.pc.clearEdges, sm := x.sm.clearEdges },
      .ok, doorValues d s⟩

end Sys2Proof.Machine
end

