-- ==== Sys2Proof/Machine/Pallets.lean ====
section
/-! DEFINITION. The Pallet Unit (chapter 5): product classes (R94), location temperature (R102, R103), the charge and the marks (R104
to R106), remaining budget (R108), retries (R109), freeing a slot (R97), and entering, rejecting and reading pallets (R98 to
R100). -/

namespace Sys2Proof.Machine

/-- A pallet slot changed by a function. -/
def State.modifyPallet (s : State) (q : Fin 256) (f : Pallet → Pallet) : State := s.setPallet q (f (s.pallet q))

/-- The move entry a live move handle names. -/
def State.moveOf (s : State) (x : Pallet) : Option Move := x.handle.map fun h => s.move h.slot

/-! ### Budgets and location temperature -/

/-- A pallet's class record. -/
def State.classOf (s : State) (x : Pallet) : ProductClass := s.productClass x.cls

/-- The remaining budget of a pallet in exposure units: the class budget × 960 less the exposure, and not less than 0 (R108). -/
def State.remainingBudget (s : State) (x : Pallet) : Nat :=
  (s.classOf x).budget * Config.unitsPerDegreeMinute - x.exposure

/-- The location temperature of a place (R102). -/
def State.placeTemp (s : State) : Place → Temperature
  | .room r => clampTemp (s.room r).filtered
  | .lane d => s.laneTemp d
  | .trailer d =>
    match (s.door d).trailerTemp with
    | some t => clampTemp t
    | none => s.laneTemp d

/-- The location temperature of an end of a move; an absent end, which no live move has, is the coldest (log entry 15). -/
def State.endTemp (s : State) (p : Option Place) : Temperature := (p.map s.placeTemp).getD Config.tempMin

/-- The location temperature of a pallet: of the place it stands at (R102), or while IN_TRANSIT the warmer of the ends of its
move (R103). -/
def State.locationTemp (s : State) (x : Pallet) : Temperature :=
  match x.location with
  | .at p => s.placeTemp p
  | .inTransit =>
    match s.moveOf x with
    | some m => max (s.endTemp m.origin) (s.endTemp m.destination)
    | none => Config.tempMin
  | .nowhere => Config.tempMin

/-! ### The exposure tick -/

/-- A pallet's exposure after one tick: the excess of its location temperature over its class threshold, times E, added and
stopped at the largest exposure (R104). -/
def State.chargedExposure (s : State) (x : Pallet) : Nat :=
  let excess := s.locationTemp x - (s.classOf x).threshold
  if 0 < excess then min (x.exposure + excess.toNat * s.interval) Config.exposureMax else x.exposure

/-- The detail of an exposure alarm: the exposure in degree-minutes (R105). -/
def exposureDetail (x : Pallet) : Option Word16 := detailNat (degreeMinutes x.exposure)

/-- EXPOSURE_WARNING raised for a pallet; the unposted mark is set where it cannot be entered (R105, R109). -/
def raiseWarning (q : Fin 256) (s : State) : State :=
  s.raiseCondition .exposureWarning (.pallet q) (some (s.pallet q).tag) (exposureDetail (s.pallet q)) fun s =>
    s.modifyPallet q fun x => { x with warnUnposted := true }

/-- EXPOSURE_EXCEEDED raised for a pallet; the unposted mark is set where it cannot be entered (R106, R109). -/
def raiseExceeded (q : Fin 256) (s : State) : State :=
  s.raiseCondition .exposureExceeded (.pallet q) (some (s.pallet q).tag) (exposureDetail (s.pallet q)) fun s =>
    s.modifyPallet q fun x => { x with exceedUnposted := true }

/-- The warning test (R105). -/
def testWarning (q : Fin 256) (s : State) : State :=
  let x := s.pallet q
  if (s.classOf x).warn * Config.unitsPerDegreeMinute ≤ x.exposure ∧ !x.warned then
    raiseWarning q (s.setPallet q { x with warned := true })
  else s

/-- The over-budget test (R106). -/
def testOverBudget (q : Fin 256) (s : State) : State :=
  let x := s.pallet q
  if (s.classOf x).budget * Config.unitsPerDegreeMinute ≤ x.exposure ∧ !x.overBudget then
    raiseExceeded q (s.setPallet q { x with overBudget := true })
  else s

/-- One pallet at an exposure tick: charged where it is live, then tested for warning and over budget (R104). -/
def chargePallet (q : Fin 256) (s : State) : State :=
  let x := s.pallet q
  if x.live then testOverBudget q (testWarning q (s.setPallet q { x with exposure := s.chargedExposure x })) else s

/-- The Pallet Unit's part of an exposure tick: every live pallet, in ascending slot order (R104). -/
def chargePallets (s : State) : State := forEach 256 chargePallet s

/-- The retries of one pallet's exposure raises, the warning first, with the detail at the retry (R109). -/
def retryPallet (q : Fin 256) (s : State) : State :=
  let s1 :=
    if (s.pallet q).warnUnposted then
      s.retryCondition .exposureWarning (.pallet q) (some (s.pallet q).tag) (exposureDetail (s.pallet q)) fun s =>
        s.modifyPallet q fun x => { x with warnUnposted := false }
    else s
  if (s1.pallet q).exceedUnposted then
    s1.retryCondition .exposureExceeded (.pallet q) (some (s1.pallet q).tag) (exposureDetail (s1.pallet q)) fun s =>
      s.modifyPallet q fun x => { x with exceedUnposted := false }
  else s1

/-- The Pallet Unit's retries at a second tick, in ascending slot order (R109). -/
def retryPallets (s : State) : State := forEach 256 retryPallet s

/-- A pallet's exposure conditions raised again at a warm restart, the warning first (R111). -/
def reraisePallet (q : Fin 256) (s : State) : State :=
  let s1 := if (s.pallet q).live ∧ (s.pallet q).warned then raiseWarning q s else s
  if (s1.pallet q).live ∧ (s1.pallet q).overBudget then raiseExceeded q s1 else s1

/-! ### Freeing a slot -/

/-- The record of a pallet that leaves the site's records; the Journal gives it its sequence (R97, R134). -/
def palletRecord (kind : RecordKind) (trailerLost : Bool) (x : Pallet) (now : Word32) : JournalRecord where
  sequence := 0
  kind := kind
  tag := x.tag
  cls := x.cls
  origin := none
  final := x.location
  startTime := x.entryTime
  endTime := now
  exposure := degreeMinutes x.exposure
  flags := { overBudget := x.overBudget, diverted := false, trailerLost := trailerLost, restart := false }

/-- A pallet slot freed: its record is written, its exposure alarms are returned, and every field takes its free value (R97). -/
def freePallet (kind : RecordKind) (trailerLost : Bool) (q : Fin 256) (s : State) : State :=
  let x := s.pallet q
  let s1 := writeRecord (palletRecord kind trailerLost x s.clock) s
  let s2 := if x.warned then s1.returnCondition .exposureWarning (.pallet q) else s1
  let s3 := if x.overBudget then s2.returnCondition .exposureExceeded (.pallet q) else s2
  s3.setPallet q .empty

/-! ### Requests -/

/-- CONFIGURE CLASS (R94): each field checked against its range in R93, then all five stored. -/
def configureClass (cls : Byte) (threshold budget warn transitReserve defrostReserve : Word16) (s : State) : Answer :=
  match index? 8 cls with
  | none => refuse .badArgument s
  | some c =>
    if Config.tempMin ≤ threshold.toInt ∧ threshold.toInt ≤ Config.tempMax ∧ 1 ≤ budget.toNat ∧ 1 ≤ warn.toNat then
      done (s.setClass c
        { threshold := threshold.toInt
          budget := budget.toNat
          warn := warn.toNat
          transitReserve := transitReserve.toNat
          defrostReserve := defrostReserve.toNat })
    else refuse .badArgument s

/-- The lowest-numbered FREE slot of the pallet table (R98). -/
def State.freeSlot (s : State) : Option (Fin 256) := lowest 256 fun q => !(s.pallet q).live

/-- ENTER PALLET (R98): the five checks in order, then the lowest FREE slot filled; the reply carries its number. -/
def enterPallet (tag : Word32) (cls door : Byte) (s : State) : Answer :=
  match index? 8 cls, index? 24 door with
  | some c, some d =>
    if tag = 0 then refuse .badArgument s
    else if !(s.door d).enabled ∨ (s.door d).state ≠ .working then refuse .doorState s
    else if (s.findPallet tag).isSome then refuse .duplicate s
    else
      match s.freeSlot with
      | none => refuse .full s
      | some q =>
        if s.admits then
          ⟨s.setPallet q
            { Pallet.empty with
              state := .inbound
              tag := tag
              cls := c
              location := .at (.trailer d)
              entryTime := s.clock }, .ok, value8 q⟩
        else refuse .journalFull s
  | _, _ => refuse .badArgument s

/-- REJECT PALLET (R99): an INBOUND or PLACED pallet with no live move leaves with a REJECTED record; the reply carries its
sequence. -/
def rejectPallet (tag : Word32) (s : State) : Answer :=
  if tag = 0 then refuse .badArgument s
  else
    match s.findPallet tag with
    | none => refuse .notFound s
    | some q =>
      let x := s.pallet q
      if x.handle.isSome ∨ x.state = .inTransit ∨ x.state = .aboard then refuse .busy s
      else ⟨freePallet .rejected false q s, .ok, bytes32 s.journal.next⟩

/-- The 30 value bytes of a READ PALLET reply (R167); the pick state as its place in its own list (R95, R166, log entry 7). -/
def palletValues (q : Fin 256) (s : State) : List Byte :=
  let x := s.pallet q
  bytes32 x.tag ++ value8 q ++ value8 x.cls ++ value8 x.state.place ++ [x.location.byte]
    ++ valueOptional 1 (x.pickState.map fun p => value8 p.pickPlace) ++ valueOptional 1 (x.handle.map fun h => [h.byte])
    ++ bytes32 x.entryTime ++ value32 x.exposure ++ value16 (degreeMinutes x.exposure)
    ++ value16 (s.classOf x).budget ++ value16 (s.remainingBudget x / Config.unitsPerDegreeMinute)
    ++ valueFlag x.warned ++ valueFlag x.overBudget ++ valueTemp (s.locationTemp x)

/-- READ PALLET (R100). -/
def readPallet (tag : Word32) (s : State) : Answer :=
  if tag = 0 then refuse .badArgument s
  else
    match s.findPallet tag with
    | none => refuse .notFound s
    | some q => ⟨s, .ok, palletValues q s⟩

end Sys2Proof.Machine
end

