-- ==== Sys2Proof/Machine/Defrost.lean ====
section
/-! DEFINITION. The Defrost Unit (chapter 4): frost (R68 to R70), the grant arbiter (R75 to R79), the phases and their expiries (R80
to R86), retries (R90), its part of a warm restart (R92), its requests, and the room limit requests (R24 to R26), which test
a room's recovery (R85). -/

namespace Sys2Proof.Machine

/-- A room's defrost record changed by a function. -/
def State.modifyDefrost (s : State) (r : Fin 8) (f : Defrost → Defrost) : State := s.setDefrost r (f (s.defrost r))

/-- Heater capacity returned (R71). -/
def State.returnLoad (s : State) (r : Fin 8) : State :=
  { s with remainingCapacity := s.remainingCapacity + (s.defrost r).heaterLoad }

/-- Heater capacity taken (R71). -/
def State.takeLoad (s : State) (r : Fin 8) : State :=
  { s with remainingCapacity := s.remainingCapacity - (s.defrost r).heaterLoad }

/-! ### Frost -/

/-- FROST_DUE raised, its flag set whether or not the raise is entered (R69, R90). -/
def raiseFrostDue (r : Fin 8) (s : State) : State :=
  (s.modifyDefrost r fun x => { x with dueFlag := true }).raiseCondition .frostDue (.room r) none
    (detailNat (s.defrost r).frostIndex) fun s => s.modifyDefrost r fun x => { x with dueUnposted := true }

/-- DEFROST_FORCED raised, its flag set whether or not the raise is entered (R70, R90). -/
def raiseForced (r : Fin 8) (s : State) : State :=
  (s.modifyDefrost r fun x => { x with forcedFlag := true }).raiseCondition .defrostForced (.room r) none
    (detailNat (s.defrost r).frostIndex) fun s => s.modifyDefrost r fun x => { x with forcedUnposted := true }

/-- DEFROST_OVERRUN raised, its flag set whether or not the raise is entered (R81, R90). -/
def raiseOverrun (r : Fin 8) (s : State) : State :=
  (s.modifyDefrost r fun x => { x with overrunFlag := true }).raiseCondition .defrostOverrun (.room r) none none fun s =>
    s.modifyDefrost r fun x => { x with overrunUnposted := true }

/-- The states in which frost is neither added nor tested: the coil is warm and the fans are stopped (R68 to R70). -/
def DefrostState.coilWarm : DefrostState → Bool
  | .heating | .drip => true
  | .idle | .queued | .draining | .granted | .recovery => false

/-- The test of FROST_DUE (R69). -/
def testFrostDue (r : Fin 8) (s : State) : State :=
  let x := s.defrost r
  if !x.state.coilWarm ∧ x.threshold ≤ x.frostIndex ∧ !x.dueFlag then raiseFrostDue r s else s

/-- Whether the test of R70 sets a room's forced mark. -/
def Defrost.becomesForced (x : Defrost) : Bool :=
  !x.state.coilWarm && decide (x.hardLimit ≤ x.frostIndex) && !x.forcedMark

/-- The test of the forced mark (R70). -/
def testForced (r : Fin 8) (s : State) : State :=
  if (s.defrost r).becomesForced then raiseForced r (s.modifyDefrost r fun x => { x with forcedMark := true }) else s

/-- The frost weight an enabled door adds to its dock room (R68). -/
def Door.frostWeight (x : Door) (r : Fin 8) : Nat :=
  if x.enabled ∧ x.dockRoom = r then
    match x.state with
    | .working => x.workFrost
    | .breach => x.breachFrost
    | .vacant | .docked | .sealing | .sealed | .releasing | .fault => 0
  else 0

/-- What one exposure tick adds to a room's frost index: its base rate and the weights of its open doors (R68). -/
def State.frostGain (s : State) (r : Fin 8) : Nat :=
  (s.defrost r).baseRate + ((List.finRange 24).map fun d => (s.door d).frostWeight r).sum

/-- One room at an exposure tick: frost added, saturating, unless the room is HEATING or DRIP, then the two tests (R68). -/
def accumulateFrost (r : Fin 8) (s : State) : State :=
  let x := s.defrost r
  if x.state.coilWarm then s
  else testForced r (testFrostDue r (s.setDefrost r
    { x with frostIndex := min (x.frostIndex + s.frostGain r) Config.frostMax }))

/-! ### The grant arbiter -/

/-- A room's inhibit is running (R66, R77). -/
def State.inhibited (s : State) (r : Fin 8) : Bool := decide (0 < (s.defrost r).inhibit)

/-- A live pallet that stands in the room or in a lane of it has a remaining budget below its class's defrost reserve (R77).
A pallet in IN_TRANSIT or at a trailer maps to no room here. -/
def State.budgetBlocks (s : State) (r : Fin 8) : Bool :=
  (lowest 256 fun q =>
    let x := s.pallet q
    x.live && decide (s.remainingBudget x < (s.classOf x).defrostReserve * Config.unitsPerDegreeMinute)
      && match x.location with
        | .at p => s.mapsTo p == some r
        | .inTransit | .nowhere => false).isSome

/-- A live move has a destination that maps to the room (R77). -/
def State.movesBlock (s : State) (r : Fin 8) : Bool :=
  (lowest 32 fun m => (s.move m).live && (s.move m).destination.bind s.mapsTo == some r).isSome

/-- An unforced entry is blocked (R77). -/
def State.blocked (s : State) (r : Fin 8) : Bool := s.inhibited r || s.budgetBlocks r || s.movesBlock r

/-- The state an evaluation gives an entry before its turn for capacity: DRAINING for an unforced one that moves alone block,
QUEUED in every other case (R77). -/
def State.queueState (s : State) (r : Fin 8) : DefrostState :=
  if !(s.defrost r).forcedMark && s.movesBlock r && !s.inhibited r && !s.budgetBlocks r then .draining else .queued

/-- The entries in the arbiter's order: forced ones by age, then the others by age (R76). -/
def State.arbiterOrder (s : State) : List (Fin 8) :=
  s.defrostQueue.filter (fun r => (s.defrost r).forcedMark)
    ++ s.defrostQueue.filter (fun r => !(s.defrost r).forcedMark)

/-- A grant (R79): the entry leaves the queue in GRANTED, its load is taken, the forced cycle mark follows the forced mark, the
grant hold starts, and DEFROST_GRANTED is posted with the cycle count. -/
def grant (r : Fin 8) (s : State) : State :=
  let x := s.defrost r
  let s1 := { s with defrostQueue := s.defrostQueue.erase r }.takeLoad r
  (s1.setDefrost r { x with state := .granted, forcedCycle := x.forcedMark, phaseTimer := .start x.grantHold }).post
    .defrostGranted (.room r) (some x.cycleCount)

/-- One entry's turn in an evaluation, with the capacity bar (R77, R78). -/
def arbiterTurn (a : State × Bool) (r : Fin 8) : State × Bool :=
  let (s, bar) := a
  let s1 := s.modifyDefrost r fun x => { x with state := s.queueState r }
  if bar then (s1, true)
  else if s.remainingCapacity < (s.defrost r).heaterLoad then (s1, true)
  else if !(s.defrost r).forcedMark && s.blocked r then (s1, false)
  else (grant r s1, false)

/-- One evaluation of the defrost queue, taken whole (R75 to R79); the bar is clear at its start (R76). -/
def evaluateQueue (s : State) : State := (s.arbiterOrder.foldl arbiterTurn (s, false)).1

/-- The Defrost Unit's part of an exposure tick: frost in every room, then one evaluation (R68). -/
def accumulateAll (s : State) : State := evaluateQueue (forEach 8 accumulateFrost s)

/-! ### Phases -/

/-- The grant hold's expiry at a GRANTED room, where one is due: the grant lapses (R80). -/
def expireGrantHold (r : Fin 8) (s : State) : State :=
  let x := s.defrost r
  if x.state = .granted ∧ x.phaseTimer.due then
    let s1 := (s.setDefrost r { x with state := .idle, phaseTimer := .stopped, forcedCycle := false }).returnLoad r
    evaluateQueue (givePermits r (s1.post .grantLapsed (.room r) none))
  else s

/-- The heating limit's expiry at a HEATING room, where one is due: DEFROST_OVERRUN is raised, and the room stays HEATING (R81). -/
def expireHeating (r : Fin 8) (s : State) : State :=
  let x := s.defrost r
  if x.state = .heating ∧ x.phaseTimer.due then raiseOverrun r (s.setDefrost r { x with phaseTimer := .stopped }) else s

/-- The drip time's expiry at a DRIP room, where one is due: RECOVERY, and the held permits are given (R84). -/
def expireDrip (r : Fin 8) (s : State) : State :=
  let x := s.defrost r
  if x.state = .drip ∧ x.phaseTimer.due then
    givePermits r (s.setDefrost r
      { x with state := .recovery, forcedCycle := false, phaseTimer := .start x.recoveryLimit })
  else s

/-- A room out of RECOVERY into IDLE: the timer stops and the cycle count rises, passing from 65535 to 0 (R85, R86). -/
def Defrost.recovered (x : Defrost) : Defrost :=
  { x with state := .idle, phaseTimer := .stopped, cycleCount := x.cycleCount + 1 }

/-- The recovery limit's expiry at a RECOVERY room, where one is due: IDLE, RECOVERY_LATE with F as detail, and high timing
resumes (R86). -/
def expireRecovery (r : Fin 8) (s : State) : State :=
  let x := s.defrost r
  if x.state = .recovery ∧ x.phaseTimer.due then
    resumeHigh r ((s.setDefrost r x.recovered).post .recoveryLate (.room r) (detailTemp (s.room r).filtered))
  else s

/-- The recovery test of a room: RECOVERY ends where F is at or below the effective upper limit (R85). -/
def testRecovery (r : Fin 8) (s : State) : State :=
  if (s.defrost r).state = .recovery ∧ (s.room r).filtered ≤ (s.room r).effectiveUpper then
    resumeHigh r (s.modifyDefrost r Defrost.recovered)
  else s

/-- The inhibit's expiry, where one is due: the queue is evaluated (R74). -/
def expireInhibit (r : Fin 8) (s : State) : State :=
  if (s.defrost r).inhibitDue then evaluateQueue (s.modifyDefrost r fun x => { x with inhibitDue := false }) else s

/-- A room's defrost expiries that are due, taken (R3, log entry 30). -/
def settleDefrost (r : Fin 8) (s : State) : State :=
  expireInhibit r (expireRecovery r (expireDrip r (expireHeating r (expireGrantHold r s))))

/-- The coldest of a list of temperatures. -/
def coldest : List Temperature → Option Temperature
  | [] => none
  | t :: ts => some (ts.foldl min t)

/-- A HEATING room's coil test at a round-complete event: TERMINATE_REACHED is posted once in a heating phase, when the coldest
valid COIL probe is at or above the terminate temperature (R82). -/
def testTerminate (r : Fin 8) (s : State) : State :=
  let x := s.defrost r
  match coldest (s.probeTemps .coil r) with
  | none => s
  | some t =>
    if x.state = .heating ∧ !x.terminateMark ∧ x.terminateTemp ≤ t then
      (s.setDefrost r { x with terminateMark := true }).post .terminateReached (.room r) (detailTemp t)
    else s

/-- The Defrost Unit's part of a round-complete event in RUN: coil tests and recovery tests (R82, R85). -/
def roundDefrost (s : State) : State :=
  if s.mode = .run then forEach 8 (fun r s => testRecovery r (testTerminate r s)) s else s

/-! ### Retries and restarts -/

/-- The retries of one room's defrost conditions, in the code order of R143, with the frost index at the retry (R90). -/
def retryDefrostRoom (r : Fin 8) (s : State) : State :=
  let s1 :=
    if (s.defrost r).overrunUnposted ∧ (s.defrost r).overrunFlag then
      s.retryCondition .defrostOverrun (.room r) none none fun s =>
        s.modifyDefrost r fun x => { x with overrunUnposted := false }
    else s
  let s2 :=
    if (s1.defrost r).forcedUnposted ∧ (s1.defrost r).forcedFlag then
      s1.retryCondition .defrostForced (.room r) none (detailNat (s1.defrost r).frostIndex) fun s =>
        s.modifyDefrost r fun x => { x with forcedUnposted := false }
    else s1
  if (s2.defrost r).dueUnposted ∧ (s2.defrost r).dueFlag then
    s2.retryCondition .frostDue (.room r) none (detailNat (s2.defrost r).frostIndex) fun s =>
      s.modifyDefrost r fun x => { x with dueUnposted := false }
  else s2

/-- The Defrost Unit's retries at a second tick, in ascending room order (R90). -/
def retryDefrost (s : State) : State := forEach 8 retryDefrostRoom s

/-- A defrost record's part of a warm restart, before its flags are cleared: QUEUED, DRAINING and GRANTED go to IDLE; HEATING,
DRIP and RECOVERY are kept; the inhibit is 0 (R92). -/
def Defrost.restarted (x : Defrost) : Defrost :=
  let y := match x.state with
    | .queued | .draining | .granted => { x with state := .idle, phaseTimer := .stopped, forcedCycle := false }
    | .idle | .heating | .drip | .recovery => x
  { y with inhibit := 0, inhibitDue := false }

/-- The heater loads of the rooms in a set of states, summed. -/
def State.loadIn (s : State) (states : List DefrostState) : Nat :=
  ((List.finRange 8).map fun r => if (s.defrost r).state ∈ states then (s.defrost r).heaterLoad else 0).sum

/-- The Defrost Unit's part of a warm restart: records settled, the queue emptied, and the remaining capacity recomputed from
the rooms in HEATING (R92). -/
def restartDefrost (s : State) : State :=
  let s1 := { s with defrosts := mapTable Defrost.restarted s.defrosts, defrostQueue := [] }
  { s1 with remainingCapacity := s1.heaterCapacity - s1.loadIn [.heating] }

/-- A defrost record's alarm flags and unposted marks cleared (R92). -/
def Defrost.clearAlarms (x : Defrost) : Defrost :=
  { x with
    dueFlag := false
    forcedFlag := false
    overrunFlag := false
    dueUnposted := false
    forcedUnposted := false
    overrunUnposted := false }

/-- A room's defrost conditions raised again at step 7 of a warm restart (R92). -/
def reraiseDefrost (r : Fin 8) (s : State) : State :=
  let x := s.defrost r
  let s1 := if x.threshold ≤ x.frostIndex ∧ x.state ≠ .drip then raiseFrostDue r s else s
  let s2 := if x.forcedMark ∧ !x.state.coilWarm then raiseForced r s1 else s1
  if x.state = .heating ∧ x.phaseTimer = .stopped then raiseOverrun r s2 else s2

/-- A defrost record at entry into RUN: IDLE, frost index 0 (R92, R176). -/
def Defrost.entered (x : Defrost) : Defrost :=
  { x with state := .idle, frostIndex := 0, phaseTimer := .stopped }

/-! ### Requests of the Plant port -/

/-- SET FROST PARAMETERS (R67): forced into range in order; in RUN the frost index is then tested, and a forced mark set here
leads to an evaluation (R70). -/
def setFrostParameters (room baseRate : Byte) (threshold hardLimit : Word16) (s : State) : Answer :=
  onRoom room s fun r =>
    let th := forceNat 1 65535 threshold.toNat
    let hl := max (forceNat 1 65535 hardLimit.toNat) th
    let s1 := s.modifyDefrost r fun x =>
      { x with baseRate := baseRate.toNat, threshold := th, hardLimit := hl }
    let s2 :=
      if s.mode = .run then
        let s3 := testForced r (testFrostDue r s1)
        if (s1.defrost r).becomesForced then evaluateQueue s3 else s3
      else s1
    doneClamped (th != threshold.toNat || hl != hardLimit.toNat) s2

/-- SET DEFROST TIMES (R87): a running phase timer keeps its count. -/
def setDefrostTimes (room : Byte) (heatingLimit dripTime recoveryLimit terminate grantHold : Word16) (s : State) :
    Answer :=
  onRoom room s fun r =>
    let hl := forceNat 60 3600 heatingLimit.toNat
    let dt := forceNat 0 900 dripTime.toNat
    let rl := forceNat 60 7200 recoveryLimit.toNat
    let tt := clampTemp terminate.toInt
    let gh := forceNat 30 900 grantHold.toNat
    doneClamped
      (hl != heatingLimit.toNat || dt != dripTime.toNat || rl != recoveryLimit.toNat || tt != terminate.toInt
        || gh != grantHold.toNat)
      (s.modifyDefrost r fun x =>
        { x with heatingLimit := hl, dripTime := dt, recoveryLimit := rl, terminateTemp := tt, grantHold := gh })

/-- SET HEATER CAPACITY (R71): structural, 1 to 63. -/
def setHeaterCapacity (capacity : Byte) (s : State) : Answer :=
  if 1 ≤ capacity.toNat ∧ capacity.toNat ≤ 63 then done { s with heaterCapacity := capacity.toNat }
  else refuse .badArgument s

/-- REQUEST DEFROST (R72): an IDLE room is appended to the queue and the queue evaluated. -/
def requestDefrost (room : Byte) (s : State) : Answer :=
  onRoom room s fun r =>
    match (s.defrost r).state with
    | .idle =>
      done (evaluateQueue
        { s.modifyDefrost r fun x => { x with state := .queued } with defrostQueue := s.defrostQueue ++ [r] })
    | .queued | .draining => refuse .duplicate s
    | .granted | .heating | .drip | .recovery => refuse .defrost s

/-- WITHDRAW DEFROST (R73): a queued entry is removed, or a grant taken back; the queue is evaluated. -/
def withdrawDefrost (room : Byte) (s : State) : Answer :=
  onRoom room s fun r =>
    match (s.defrost r).state with
    | .queued | .draining =>
      done (evaluateQueue
        { s.modifyDefrost r fun x => { x with state := .idle } with defrostQueue := s.defrostQueue.erase r })
    | .granted =>
      let s1 := (s.modifyDefrost r fun x =>
        { x with state := .idle, phaseTimer := .stopped, forcedCycle := false }).returnLoad r
      done (evaluateQueue (givePermits r s1))
    | .idle => refuse .none s
    | .heating | .drip | .recovery => refuse .defrost s

/-- DEFROST BEGUN (R80): a GRANTED room goes to HEATING; DEFROST_FORCED is returned; the high timer is held at 0 (R28). -/
def defrostBegun (room : Byte) (s : State) : Answer :=
  onRoom room s fun r =>
    let x := s.defrost r
    if x.state = .granted then
      let s1 := s.setDefrost r { x with state := .heating, terminateMark := false, phaseTimer := .start x.heatingLimit }
      let s2 :=
        if x.forcedFlag then
          (s1.modifyDefrost r fun x => { x with forcedFlag := false, forcedUnposted := false }).returnCondition
            .defrostForced (.room r)
        else s1
      done (s2.modifyRoom r fun x => { x with highTimer := .stopped })
    else refuse .defrost s

/-- HEATING ENDED (R83): a HEATING room goes to DRIP, its eight steps in order. -/
def heatingEnded (room cause : Byte) (s : State) : Answer :=
  onRoom room s fun r =>
    match cause? cause with
    | none => refuse .badArgument s
    | some c =>
      let x := s.defrost r
      if x.state = .heating then
        let s1 := (s.setDefrost r
          { x with state := .drip, phaseTimer := .stopped, forcedMark := false, lastTermination := c }).returnLoad r
        let s2 :=
          if x.overrunFlag then
            (s1.modifyDefrost r fun x => { x with overrunFlag := false, overrunUnposted := false }).returnCondition
              .defrostOverrun (.room r)
          else s1
        let s3 := s2.modifyDefrost r fun x => { x with frostIndex := 0 }
        let s4 :=
          if x.dueFlag then
            (s3.modifyDefrost r fun x => { x with dueFlag := false, dueUnposted := false }).returnCondition
              .frostDue (.room r)
          else s3
        done (evaluateQueue (s4.modifyDefrost r fun x => { x with phaseTimer := .start x.dripTime }))
      else refuse .defrost s

/-- INHIBIT DEFROST (R74): never shortened by a value of 1 or more; ended at once by 0, with an evaluation if it was running. The
reply carries the inhibit remaining. -/
def inhibitDefrost (room : Byte) (seconds : Word16) (s : State) : Answer :=
  onRoom room s fun r =>
    let x := s.defrost r
    let n := forceNat 0 3600 seconds.toNat
    let s1 :=
      if n = 0 then
        let cleared := s.setDefrost r { x with inhibit := 0 }
        if 0 < x.inhibit then evaluateQueue cleared else cleared
      else s.setDefrost r { x with inhibit := max x.inhibit n }
    ⟨s1, if n != seconds.toNat then .clamped else .ok, value16 (s1.defrost r).inhibit⟩

/-! ### Room limits -/

/-- The effective upper limit: the lower of the plant upper limit and the ceiling, where one is set (R17, R25). -/
def Room.withEffective (x : Room) : Room :=
  { x with
    effectiveUpper := match x.ceiling with
      | some c => min x.upper c
      | none => x.upper }

/-- A limit change of a room: its alarm steps (R26), and the recovery test (R85), within the request. -/
def limitChanged (r : Fin 8) (s : State) : State := testRecovery r (evaluateRoom r s)

/-- SET ROOM LIMITS (R24): forced into range in order, all five stored together, and the limit change evaluated at once. -/
def setRoomLimits (room : Byte) (upper lower highDelay lowDelay weight : Word16) (s : State) : Answer :=
  onRoom room s fun r =>
    let up := clampTemp upper.toInt
    let lo := min (clampTemp lower.toInt) up
    let hd := forceNat 0 3600 highDelay.toNat
    let ld := forceNat 0 3600 lowDelay.toNat
    let k := forceNat 1 256 weight.toNat
    doneClamped
      (up != upper.toInt || lo != lower.toInt || hd != highDelay.toNat || ld != lowDelay.toNat || k != weight.toNat)
      (limitChanged r (s.modifyRoom r fun x => Room.withEffective
        { x with upper := up, lower := lo, highDelay := hd, lowDelay := ld, weight := k }))

/-- SET PRODUCT CEILING (R25): a ceiling stored, forced into range, or made absent; the limit change is evaluated at once. -/
def setProductCeiling (room present : Byte) (ceiling : Word16) (s : State) : Answer :=
  onRoom room s fun r =>
    match flag? present with
    | none => refuse .badArgument s
    | some true =>
      let c := clampTemp ceiling.toInt
      doneClamped (c != ceiling.toInt)
        (limitChanged r (s.modifyRoom r fun x => Room.withEffective { x with ceiling := some c }))
    | some false =>
      done (limitChanged r (s.modifyRoom r fun x => Room.withEffective { x with ceiling := none }))

end Sys2Proof.Machine
end

