-- ==== Sys2Proof/Machine/Moves.lean ====
section
/-! DEFINITION. The Move Unit (chapter 6): permitting a move (R116, R117), the shared end of a move (R119), PICK, PUT and CANCEL MOVE
(R120, R122, R123, R125, R126), the timer expiries (R121, R124), retries, and the cancellations of a warm restart (R127). -/

namespace Sys2Proof.Machine

/-- A move entry changed by a function. -/
def State.modifyMove (s : State) (m : Fin 32) (f : Move → Move) : State := s.setMove m (f (s.move m))

/-- The handle of a slot of the move table in its present life (R113). -/
def State.handleAt (s : State) (m : Fin 32) : Handle := ⟨m, (s.move m).generation⟩

/-- The live entry a handle argument names: none where its slot is FREE or its generation is of another life (R113). -/
def State.resolve (s : State) (b : Byte) : Option (Fin 32) :=
  let h := handleOf b
  if (s.move h.slot).live ∧ (s.move h.slot).generation = h.generation then some h.slot else none

/-! ### The end of a move -/

/-- The circumstances an end of a move adds to its record. -/
structure EndFlags where
  diverted : Bool
  trailerLost : Bool
  restart : Bool
deriving DecidableEq, Repr

/-- No circumstance. -/
def EndFlags.plain : EndFlags := ⟨false, false, false⟩

/-- A pallet settled at the end of its move: placed in a state at a place, or left where it stands; its live move handle and
pick state are cleared (R119, step 1). -/
def Pallet.settle (x : Pallet) : Option (PalletState × Place) → Pallet
  | none => { x with handle := none, pickState := none }
  | some (st, p) => { x with handle := none, pickState := none, state := st, location := .at p }

/-- The pallet a live entry names settled; every live entry names one (R114). -/
def settleMoved (m : Fin 32) (settle : Option (PalletState × Place)) (s : State) : State :=
  match s.findPallet (s.move m).tag with
  | some q => s.modifyPallet q fun x => x.settle settle
  | none => s

/-- The pallet record a live entry names; every live entry names one (R114). -/
def State.movedPallet (s : State) (m : Fin 32) : Pallet :=
  match s.findPallet (s.move m).tag with
  | some q => s.pallet q
  | none => .empty

/-- The record of an end of a move, from its entry and its settled pallet; the Journal gives it its sequence (R119, step 2). -/
def moveRecord (kind : RecordKind) (f : EndFlags) (x : Move) (pallet : Pallet) (now : Word32) : JournalRecord where
  sequence := 0
  kind := kind
  tag := pallet.tag
  cls := pallet.cls
  origin := x.origin
  final := pallet.location
  startTime := x.pickTime.getD x.permitTime
  endTime := now
  exposure := degreeMinutes pallet.exposure
  flags := { overBudget := pallet.overBudget, diverted := f.diverted, trailerLost := f.trailerLost, restart := f.restart }

/-- An end of a live move, its five steps in order: pallet, record, alarm, entry, defrost (R119). -/
def endMove (kind : RecordKind) (f : EndFlags) (settle : Option (PalletState × Place)) (m : Fin 32) (s : State) : State :=
  let x := s.move m
  let s1 := settleMoved m settle s
  let s2 := writeRecord (moveRecord kind f x (s1.movedPallet m) s.clock) s1
  let s3 := if x.overdueFlag then s2.returnCondition .moveOverdue (.move m) else s2
  evaluateQueue (s3.setMove m (.empty (x.generation + 1)))

/-! ### Expiries, retries and restarts -/

/-- The lapse timer's expiry of a PERMITTED entry, where one is due: the move ends as MOVE_LAPSED, its pallet where it stands,
and the MOVE_LAPSED notice is posted with the handle (R121). -/
def expireLapse (m : Fin 32) (s : State) : State :=
  let x := s.move m
  if x.state = .permitted ∧ x.lapseTimer.due then
    (endMove .moveLapsed .plain none m s).post .moveLapsed (.move m) (detailHandle (s.handleAt m))
  else s

/-- The transit timer's expiry of an IN_TRANSIT entry, where one is due: MOVE_OVERDUE is raised with the handle, and the overdue
flag set (R124). -/
def expireTransit (m : Fin 32) (s : State) : State :=
  let x := s.move m
  if x.state = .inTransit ∧ x.transitTimer.due then
    (s.setMove m { x with transitTimer := .stopped, overdueFlag := true }).raiseCondition .moveOverdue (.move m) none
      (detailHandle (s.handleAt m)) fun s => s.modifyMove m fun x => { x with overdueUnposted := true }
  else s

/-- A move's expiries that are due, taken (R3, log entry 30). -/
def settleMove (m : Fin 32) (s : State) : State := expireTransit m (expireLapse m s)

/-- The retry of one entry's MOVE_OVERDUE, while it is IN_TRANSIT with its overdue flag set (R124). -/
def retryMove (m : Fin 32) (s : State) : State :=
  let x := s.move m
  if x.overdueUnposted ∧ x.state = .inTransit ∧ x.overdueFlag then
    s.retryCondition .moveOverdue (.move m) none (detailHandle (s.handleAt m)) fun s =>
      s.modifyMove m fun x => { x with overdueUnposted := false }
  else s

/-- The Move Unit's retries at a second tick, in ascending slot order (R124). -/
def retryMoves (s : State) : State := forEach 32 retryMove s

/-- Where an IN_TRANSIT move's pallet goes back to: its origin, in its pick state (R126, R127). -/
def State.backToOrigin (s : State) (m : Fin 32) : Option (PalletState × Place) :=
  (s.move m).origin.map fun o => ((s.movedPallet m).pickState.getD .placed, o)

/-- One live move cancelled by a warm restart (R127). -/
def restartMove (m : Fin 32) (s : State) : State :=
  match (s.move m).state with
  | .free => s
  | .permitted => endMove .moveCancelled ⟨false, false, true⟩ none m s
  | .inTransit => endMove .moveCancelled ⟨false, false, true⟩ (s.backToOrigin m) m s

/-- Every live move cancelled by a warm restart, in ascending slot order (R127). -/
def restartMoves (s : State) : State := forEach 32 restartMove s

/-! ### Requests -/

/-- A location is a place on the site: a room, or a lane or trailer of an enabled door (R116, check 4). -/
def State.onSite (s : State) : Place → Bool
  | .room _ => true
  | .lane d => (s.door d).enabled
  | .trailer d => (s.door d).enabled

/-- A TRAILER end of a move stands at a WORKING door; other ends ask for none (R116, check 5). -/
def State.endWorking (s : State) : Place → Bool
  | .room _ => true
  | .lane _ => true
  | .trailer d => (s.door d).state == .working

/-- The defrost states that refuse moves into a room (R88). -/
def DefrostState.refusesMoves : DefrostState → Bool
  | .draining | .granted | .heating | .drip => true
  | .idle | .queued | .recovery => false

/-- The destination maps to no room, or to one whose defrost state refuses no move (R116, check 6). -/
def State.endOpen (s : State) (p : Place) : Bool :=
  match s.mapsTo p with
  | none => true
  | some r => !(s.defrost r).state.refusesMoves

/-- A TRAILER location. -/
def Place.isTrailer : Place → Bool
  | .trailer _ => true
  | .room _ => false
  | .lane _ => false

/-- SET MOVE TIMES (R115): running timers keep their counts. -/
def setMoveTimes (permitLimit transitLimit : Word16) (s : State) : Answer :=
  let pl := forceNat 10 600 permitLimit.toNat
  let tl := forceNat 30 1800 transitLimit.toNat
  doneClamped (pl != permitLimit.toNat || tl != transitLimit.toNat) { s with permitLimit := pl, transitLimit := tl }

/-- A free entry filled by a permitted move, and its handle stored in the pallet record (R117). -/
def permitMove (q : Fin 256) (m : Fin 32) (origin destination : Place) (s : State) : State :=
  (s.setMove m
    { Move.empty (s.move m).generation with
      state := .permitted
      tag := (s.pallet q).tag
      origin := some origin
      destination := some destination
      permitTime := s.clock
      lapseTimer := .start s.permitLimit }).modifyPallet q fun x => { x with handle := some (s.handleAt m) }

/-- The checks of REQUEST MOVE from the fifth on, for a pallet, its place and a destination; the move permitted where all pass
(R116, R117). -/
def requestMoveTo (q : Fin 256) (origin destination : Place) (s : State) : Answer :=
  let x := s.pallet q
  if !s.endWorking origin ∨ !s.endWorking destination then refuse .doorState s
  else if !s.endOpen destination then refuse .defrost s
  else if destination.isTrailer ∧ x.overBudget then refuse .quarantined s
  else if destination.isTrailer ∧ s.remainingBudget x < (s.classOf x).transitReserve * Config.unitsPerDegreeMinute then
    refuse .lowBudget s
  else
    match lowest 32 fun m => !(s.move m).live with
    | none => refuse .full s
    | some m =>
      if s.admits then ⟨permitMove q m origin destination s, .ok, [(s.handleAt m).byte]⟩ else refuse .journalFull s

/-- REQUEST MOVE (R116): its ten checks in order; the reply carries the handle (R117). A live pallet with no live move always
stands at a place (R96). -/
def requestMove (tag : Word32) (destination : Byte) (s : State) : Answer :=
  if tag = 0 then refuse .badArgument s
  else
    match s.findPallet tag with
    | none => refuse .notFound s
    | some q =>
      let x := s.pallet q
      if x.state = .inTransit ∨ x.handle.isSome then refuse .busy s
      else
        match x.location, place? destination with
        | .at origin, some dest =>
          if !s.onSite dest ∨ dest = origin then refuse .badArgument s else requestMoveTo q origin dest s
        | .at _, none => refuse .badArgument s
        | .inTransit, _ => refuse .busy s
        | .nowhere, _ => refuse .busy s

/-- The pallet of a picked move: its state is kept as its pick state, and it is IN_TRANSIT (R120). -/
def Pallet.picked (x : Pallet) : Pallet :=
  { x with pickState := some x.state, state := .inTransit, location := .inTransit }

/-- PICK (R120): a PERMITTED entry becomes IN_TRANSIT, its transit timer started; the reply carries the tag and the pick time. -/
def pick (handle : Byte) (s : State) : Answer :=
  match s.resolve handle with
  | none => refuse .notFound s
  | some m =>
    let x := s.move m
    if x.state = .permitted then
      let s1 := match s.findPallet x.tag with
        | some q => s.modifyPallet q Pallet.picked
        | none => s
      ⟨s1.setMove m
        { x with
          state := .inTransit
          lapseTimer := .stopped
          pickTime := some s.clock
          transitTimer := .start s.transitLimit },
        .ok, bytes32 x.tag ++ bytes32 s.clock⟩
    else refuse .busy s

/-- A location argument that sets a pallet down: a ROOM, or a LANE at an enabled door; never a TRAILER (R123, R126). -/
def State.setDownPlace (s : State) (b : Byte) : Option Place :=
  match place? b with
  | some p => if s.onSite p ∧ !p.isTrailer then some p else none
  | none => none

/-- Where a PUT sets the pallet down, and whether it is diverted; none where the actual location is refused (R122, R123). -/
def State.putPlace (s : State) (m : Fin 32) : Option Byte → Option (Place × Bool)
  | none => (s.move m).destination.map fun p => (p, false)
  | some b => (s.setDownPlace b).map fun p => (p, (s.move m).destination != some p)

/-- PUT (R122): an IN_TRANSIT move completed, with a MOVE_DONE record whose sequence the reply carries. -/
def put (handle : Byte) (actual : Option Byte) (s : State) : Answer :=
  match s.resolve handle with
  | none => refuse .notFound s
  | some m =>
    if (s.move m).state = .inTransit then
      match s.putPlace m actual with
      | none => refuse .badArgument s
      | some (p, diverted) =>
        ⟨endMove .moveDone ⟨diverted, false, false⟩ (some (if p.isTrailer then .aboard else .placed, p)) m s, .ok,
          bytes32 s.journal.next⟩
    else refuse .busy s

/-- CANCEL MOVE (R125, R126): a PERMITTED move ends with its pallet where it stands; an IN_TRANSIT one with its pallet at the
given location, or back at its origin in its pick state. The reply carries the record's sequence. -/
def cancelMove (handle : Byte) (location : Option Byte) (s : State) : Answer :=
  match s.resolve handle with
  | none => refuse .notFound s
  | some m =>
    if (s.move m).state = .permitted then
      ⟨endMove .moveCancelled .plain none m s, .ok, bytes32 s.journal.next⟩
    else
      match location with
      | none => ⟨endMove .moveCancelled .plain (s.backToOrigin m) m s, .ok, bytes32 s.journal.next⟩
      | some b =>
        match s.setDownPlace b with
        | none => refuse .badArgument s
        | some p => ⟨endMove .moveCancelled .plain (some (.placed, p)) m s, .ok, bytes32 s.journal.next⟩

end Sys2Proof.Machine
end

