-- ==== Sys2Proof/Machine/Trailers.lean ====
section
/-! DEFINITION. The settling of a trailer by its door: release (R56), write-off (R59) and the clearing of a fault (R58). -/

namespace Sys2Proof.Machine

/-- A pallet at TRAILER(d) in a given state leaves with a record of a given kind; any other pallet stays (R56, R59). -/
def settleTrailerPallet (state : PalletState) (kind : RecordKind) (trailerLost : Bool) (d : Fin 24) (q : Fin 256)
    (s : State) : State :=
  if (s.pallet q).state = state ∧ (s.pallet q).location = .at (.trailer d) then freePallet kind trailerLost q s else s

/-- Every pallet in ABOARD at TRAILER(d) shipped, in ascending slot order (R56, R59). -/
def shipAboard (trailerLost : Bool) (d : Fin 24) (s : State) : State :=
  forEach 256 (settleTrailerPallet .aboard .shipped trailerLost d) s

/-- Every pallet in INBOUND at TRAILER(d) rejected with the TRAILER_LOST flag, in ascending slot order (R59). -/
def rejectInbound (d : Fin 24) (s : State) : State :=
  forEach 256 (settleTrailerPallet .inbound .rejected true d) s

/-- What refuses a release with BUSY: a pallet in INBOUND at TRAILER(d), or a live move that names it (R56). -/
def State.releaseHeld (s : State) (d : Fin 24) : Bool :=
  (lowest 256 fun q => (s.pallet q).state == .inbound && (s.pallet q).location == .at (.trailer d)).isSome
    || (lowest 32 fun m => (s.move m).namesTrailer d).isSome

/-- DOOR RELEASE (R56): in SEALED or SEALING, with nothing that holds the trailer, the pallets aboard are shipped and the door
goes to RELEASING. -/
def doorRelease (door : Byte) (s : State) : Answer :=
  onEnabledDoor door s fun d =>
    if (s.door d).state = .sealed ∨ (s.door d).state = .sealing then
      if s.releaseHeld d then refuse .busy s else done (enterReleasing d (shipAboard false d s))
    else refuse .doorState s

/-- One move at a write-off: cancelled where it names TRAILER(d); an IN_TRANSIT move's pallet is placed at LANE(d) (R59, R127). -/
def writeOffMove (d : Fin 24) (m : Fin 32) (s : State) : State :=
  let x := s.move m
  if x.namesTrailer d then
    endMove .moveCancelled ⟨false, true, false⟩ (if x.state = .inTransit then some (.placed, .lane d) else none) m s
  else s

/-- The write-off of the trailer at a door: moves, pallets aboard, inbound pallets, then the trailer temperature (R59). -/
def writeOff (d : Fin 24) (s : State) : State :=
  (rejectInbound d (shipAboard true d (forEach 32 (writeOffMove d) s))).modifyDoor d fun x => { x with trailerTemp := none }

/-- DOOR CLEAR FAULT (R58): refused while SM is active with TP inactive; with TP inactive the trailer is written off first. The
fault is returned, and the state derived from the lines. -/
def doorClearFault (door : Byte) (s : State) : Answer :=
  onEnabledDoor door s fun d =>
    let x := s.door d
    if x.state = .fault then
      if x.sm.level ∧ !x.tp.level then refuse .doorState s
      else
        let s1 := if x.tp.level then s else writeOff d s
        let s2 := (s1.modifyDoor d fun x =>
          { x with faultCause := .none, faultFlag := false, faultUnposted := false }).returnCondition .doorFault (.door d)
        done (deriveDoor d s2)
    else refuse .doorState s

end Sys2Proof.Machine
end

