-- ==== Sys2Proof/Machine/Expiries.lean ====
section
/-! DEFINITION. The expiries that second ticks have brought about and that no command has taken yet (R3): when one stands, and all of
them taken. -/

namespace Sys2Proof.Machine

/-- An expiry of the room's timers stands to be taken. -/
def Room.expiryDue (x : Room) : Bool := x.highTimer.due || x.lowTimer.due

/-- An expiry of the door's timers stands to be taken: that of the timer its state runs (R49, R54, R55). -/
def Door.expiryDue (x : Door) : Bool :=
  match x.state with
  | .sealing => x.sealTimer.due
  | .breach => x.breachTimer.due
  | .releasing => x.releaseTimer.due
  | .vacant | .docked | .sealed | .working | .fault => false

/-- An expiry of the room's inhibit or of its phase timer stands to be taken (R74, R80, R81, R84, R86). -/
def Defrost.expiryDue (x : Defrost) : Bool :=
  x.inhibitDue || (match x.state with
    | .granted | .heating | .drip | .recovery => x.phaseTimer.due
    | .idle | .queued | .draining => false)

/-- An expiry of the move's timers stands to be taken: that of the timer its state runs (R121, R124). -/
def Move.expiryDue (x : Move) : Bool :=
  match x.state with
  | .permitted => x.lapseTimer.due
  | .inTransit => x.transitTimer.due
  | .free => false

/-- No expiry stands to be taken. -/
def State.settled (s : State) : Prop :=
  (∀ r : Fin 8, (s.room r).expiryDue = false) ∧ (∀ d : Fin 24, (s.door d).expiryDue = false)
    ∧ (∀ r : Fin 8, (s.defrost r).expiryDue = false) ∧ ∀ m : Fin 32, (s.move m).expiryDue = false

/-- Every expiry that stands, taken. The second tick that brought it about came before whatever is taken now, so it has occurred and
its effect stands (R3). The commands of the expiries take them in any order; those left go rooms, doors, defrosts, moves, each in
ascending order (log entry 30). -/
def settleTimers (s : State) : State :=
  forEach 32 settleMove (forEach 8 settleDefrost (forEach 24 settleDoor (settleRooms s)))

end Sys2Proof.Machine
end

