-- ==== Sys2Proof/Machine/Flags.lean ====
section
/-! DEFINITION. The port flags byte of a reply (R162), computed from the state when the reply is built. -/

namespace Sys2Proof.Machine

/-- The port flags (R162): bit 0 OVERRUN, bit 1 the ATTN level, bit 2 the mode, bit 3 the port's setup-complete flag, bits 4–7 zero. -/
def State.portFlags (s : State) (p : Port) : Byte :=
  BitVec.ofNat 8 ((s.port p).overrun.toNat + 2 * (s.attn.get p).toNat + 4 * s.mode.place
    + 8 * (s.port p).setupComplete.toNat)

end Sys2Proof.Machine
end

