-- ==== Sys2Proof/Machine/Probes.lean ====
section
/-! DEFINITION. The Probe Scan Unit (chapter 1): the conversion round and its transactions (R11, R12), classification (R13) and
calibration (R14) of a code, PROBE_FAULT (R16), and the requests on probe channels (R8 to R10). -/

namespace Sys2Proof.Machine

/-- A channel record changed by a function. -/
def State.modifyChannel (s : State) (c : Fin 32) (f : Channel → Channel) : State := s.setChannel c (f (s.channel c))

/-! ### The conversion round -/

/-- The command byte of a transaction: 1, 0, 0 in its high three bits, the channel in its low five (R12). -/
def commandByte (c : Fin 32) : Byte := (0b100 : BitVec 3) ++ BitVec.ofNat 5 c

/-- Whether select is asserted: exactly while a transaction is in flight (R12). -/
def State.converterSelect (s : State) : Bool :=
  match s.round with
  | .converting _ => true
  | .idle => false
  | .ended => false

/-- The next channel at or after a number whose role is ROOM or COIL, roles read as they stand (R11). -/
def State.nextChannel (s : State) (start : Nat) : Option (Fin 32) :=
  lowest 32 fun c => decide (start ≤ c.val) && (s.channel c).role != .unused

/-- The round goes on at channel `start`: the next transaction starts, or the round ends after channel 31's turn (R11, R12). -/
def continueRound (start : Nat) (s : State) : State :=
  match s.nextChannel start with
  | some c => { s with round := .converting { channel := c, command := commandByte c, discarded := false } }
  | none => { s with round := .ended }

/-- A second tick starts a round. A round of the second before has always ended and been taken by then (R11); one that has
not stays as it is (log entry 9). -/
def startRound (s : State) : State :=
  match s.round with
  | .idle => continueRound 0 s
  | .converting _ => s
  | .ended => s

/-! ### Classification and calibration -/

/-- The temperature of a good code from a gain and offset (R14). -/
def codeTemp (code : BitVec 12) (gain : Nat) (offset : Temperature) : Temperature :=
  clampTemp (offset + ((code.toNat : Int) - 2048) * gain / 1024)

/-- A channel's record after a good code (R13, R14). -/
def Channel.good (x : Channel) (code : BitVec 12) : Channel :=
  { x with
    state := .ok
    suspect := 0
    lastCode := some code
    temperature := codeTemp code x.gain x.offset
    measured := true }

/-- A channel's record after a failing outcome of a class: the suspect count rises to at most 3, and at 3 the state takes the
class; the temperature is held (R13). -/
def Channel.failed (x : Channel) (cls : ChannelState) (code : Option (BitVec 12)) : Channel :=
  { x with
    suspect := min (x.suspect + 1) 3
    state := if min (x.suspect + 1) 3 = 3 then cls else x.state
    lastCode := code.or x.lastCode }

/-- PROBE_FAULT raised for a channel with its state as the cause; the unposted mark is set where it cannot be entered (R16). -/
def raiseProbeFault (c : Fin 32) (s : State) : State :=
  s.raiseCondition .probeFault (.probe c) none (detailNat (s.channel c).state.place) fun s =>
    s.modifyChannel c fun x => { x with unposted := true }

/-- A good outcome classified; a channel that was failing returns PROBE_FAULT and clears its unposted mark (R13, R16). -/
def classifyGood (c : Fin 32) (code : BitVec 12) (s : State) : State :=
  let x := s.channel c
  let s1 := s.setChannel c (x.good code)
  if x.state = .ok then s1
  else (s1.modifyChannel c fun x => { x with unposted := false }).returnCondition .probeFault (.probe c)

/-- A failing outcome classified; PROBE_FAULT is raised when the state moves to a failure class or between two (R13, R16). -/
def classifyFailure (c : Fin 32) (cls : ChannelState) (code : Option (BitVec 12)) (s : State) : State :=
  let x := s.channel c
  let y := x.failed cls code
  let s1 := s.setChannel c y
  if y.state = x.state then s1 else raiseProbeFault c s1

/-- The outcome of a transaction that read a code: 4095 is OPEN, 0 is SHORT, every other code is good (R13). -/
def classifyCode (c : Fin 32) (code : BitVec 12) (s : State) : State :=
  if code = 4095 then classifyFailure c .opened (some code) s
  else if code = 0 then classifyFailure c .short (some code) s
  else classifyGood c code s

/-- The transaction in flight completes with a code, the low twelve of the 16 bits clocked in: it is classified unless it is
discarded, and the round goes on (R8, R11, R12, R13). -/
def completeTransaction (bits : Word16) (s : State) : State :=
  match s.round with
  | .converting t =>
    continueRound (t.channel + 1)
      (if t.discarded then s else classifyCode t.channel (bits.extractLsb' 0 12) s)
  | .idle => s
  | .ended => s

/-- The transaction in flight completes with NO_REPLY, and the round goes on (R12, R13). -/
def expireReplyLimit (s : State) : State :=
  match s.round with
  | .converting t =>
    continueRound (t.channel + 1) (if t.discarded then s else classifyFailure t.channel .noReply none s)
  | .idle => s
  | .ended => s

/-- The retry of one channel's PROBE_FAULT, while its state is not OK (R16). -/
def retryProbe (c : Fin 32) (s : State) : State :=
  let x := s.channel c
  if x.unposted ∧ x.state ≠ .ok then
    s.retryCondition .probeFault (.probe c) none (detailNat x.state.place) fun s =>
      s.modifyChannel c fun x => { x with unposted := false }
  else s

/-- The Probe Scan Unit's retries at a second tick, in ascending channel order (R16). -/
def retryProbes (s : State) : State := forEach 32 retryProbe s

/-! ### Requests -/

/-- How many channels other than `c` have a role and room. -/
def State.othersWith (s : State) (c : Fin 32) (role : ChannelRole) (r : Fin 8) : Nat :=
  countWhere 32 fun i => i != c && (s.channel i).role == role && (s.channel i).room == r

/-- Whether a room has a place for channel `c` in a role: fewer than 4 other ROOM probes, or 2 other COIL probes (R8). -/
def State.hasPlace (s : State) (c : Fin 32) (role : ChannelRole) (r : Fin 8) : Bool :=
  match role with
  | .unused => true
  | .room => s.othersWith c .room r < 4
  | .coil => s.othersWith c .coil r < 2

/-- A transaction in flight whose outcome is discarded when it is of a channel that has started afresh (R8). -/
def Round.discard (x : Round) (c : Fin 32) : Round :=
  match x with
  | .converting t => if t.channel = c then .converting { t with discarded := true } else .converting t
  | .idle => .idle
  | .ended => .ended

/-- A channel started afresh in a role and room; gain and offset are kept (R8). -/
def Channel.afresh (x : Channel) (role : ChannelRole) (r : Fin 8) : Channel :=
  { Channel.initial with role := role, room := r, gain := x.gain, offset := x.offset }

/-- CONFIGURE PROBE (R8): five checks in order; where role or room changes, the channel starts afresh, an active PROBE_FAULT is
returned, and a conversion in flight is discarded. -/
def configureProbe (channel role room : Byte) (s : State) : Answer :=
  match index? 32 channel, role? role, index? 8 room with
  | some c, some ro, some r =>
    if s.hasPlace c ro r then
      let x := s.channel c
      if x.role = ro ∧ x.room = r then done s
      else
        done (({ s with round := s.round.discard c }.setChannel c (x.afresh ro r)).returnCondition
          .probeFault (.probe c))
    else refuse .badArgument s
  | _, _, _ => refuse .badArgument s

/-- SET PROBE CALIBRATION (R9): gain and offset forced into range; the stored temperature is not recomputed. -/
def setProbeCalibration (channel : Byte) (gain offset : Word16) (s : State) : Answer :=
  match index? 32 channel with
  | none => refuse .badArgument s
  | some c =>
    let g := forceNat 1 4095 gain.toNat
    let o := clampTemp offset.toInt
    doneClamped (g != gain.toNat || o != offset.toInt) (s.modifyChannel c fun x => { x with gain := g, offset := o })

/-- READ PROBE (R10). -/
def readProbe (channel : Byte) (s : State) : Answer :=
  match index? 32 channel with
  | none => refuse .badArgument s
  | some c =>
    let x := s.channel c
    ⟨s, .ok,
      value8 x.role.place ++ value8 x.room ++ value16 x.gain ++ valueTemp x.offset ++ value8 x.state.place
        ++ value8 x.suspect ++ valueOptional 2 (x.lastCode.map fun code => value16 code.toNat)
        ++ valueTemp x.temperature ++ valueFlag x.measured⟩

end Sys2Proof.Machine
end

