-- ==== Sys2Proof/Machine/Setup.lean ====
section
/-! DEFINITION. Setup completion and validation (R174, R175), entry into RUN (R176), warm restart (R177), cold reset (R172), SET EXPOSURE TICK (R4),
and the reads of the clock (R6) and of the status (R171). -/

namespace Sys2Proof.Machine

/-! ### Reads of the whole part -/

/-- READ CLOCK (R6). The phase counts seconds, so it takes the 2 bytes of a count of seconds (R166). -/
def readClock (s : State) : Answer :=
  ⟨s, .ok, bytes32 s.clock ++ value8 s.mode.place ++ value8 s.interval ++ value16 s.phase⟩

/-- SET EXPOSURE TICK (R4): the interval E, 1 to 60; the phase keeps its value. -/
def setExposureTick (interval : Byte) (s : State) : Answer :=
  if 1 ≤ interval.toNat ∧ interval.toNat ≤ 60 then done { s with interval := interval.toNat } else refuse .badArgument s

/-- A queue entry in READ STATUS: room in bits 2–0, state in bit 3, forced mark in bit 4 (R171). -/
def State.queueByte (s : State) (r : Fin 8) : Byte :=
  BitVec.ofNat 8 (r.val + 8 * (decide ((s.defrost r).state = .draining)).toNat + 16 * (s.defrost r).forcedMark.toNat)

/-- A room in part 0 of READ STATUS: defrost state, frost index, and forced mark, inhibit running and last termination (R171). -/
def State.defrostBytes (s : State) (r : Fin 8) : List Byte :=
  let x := s.defrost r
  value8 x.state.place ++ value16 x.frostIndex
    ++ value8 (x.forcedMark.toNat + 2 * (s.inhibited r).toNat + 4 * x.lastTermination.place)

/-- A list of bytes padded to a length with 0xFF (R171). -/
def padded (n : Nat) (bytes : List Byte) : List Byte := bytes ++ List.replicate (n - bytes.length) 0xFF

/-- Part 0 of READ STATUS: the Defrost Unit (R91, R171). -/
def statusDefrost (s : State) : List Byte :=
  value8 s.heaterCapacity ++ value8 s.remainingCapacity ++ value8 s.defrostQueue.length
    ++ padded 8 (s.arbiterOrder.map s.queueByte) ++ ((List.finRange 8).map s.defrostBytes).flatten

/-- Part 1 of READ STATUS: pallets, moves and the Journal (R101, R131, R141, R171). -/
def statusRecords (s : State) : List Byte :=
  value16 s.livePallets
    ++ value16 (countWhere 256 fun q => (s.pallet q).live && (s.pallet q).warned)
    ++ value16 (countWhere 256 fun q => (s.pallet q).live && (s.pallet q).overBudget)
    ++ value8 (countWhere 32 fun m => (s.move m).state == .permitted)
    ++ value8 (countWhere 32 fun m => (s.move m).state == .inTransit)
    ++ value8 (countWhere 32 fun m => (s.move m).overdueFlag)
    ++ value16 s.permitLimit ++ value16 s.transitLimit
    ++ value16 s.journal.held ++ bytes32 s.journal.next ++ value16 s.accounting
    ++ value16 s.journal.threshold ++ valueFlag s.journal.highFlag

/-- Whether an entry is PENDING for a port. -/
def AlarmTable.pendingFor (t : AlarmTable) (p : Port) (i : Fin 48) : Bool :=
  match t.entries[i] with
  | some e => e.delivery.get p == .pending
  | none => false

/-- Part 2 of READ STATUS: the Alarm and Notice Table for the requesting port (R153, R171). -/
def statusAlarms (p : Port) (s : State) : List Byte :=
  let t := s.alarms
  let x := t.ports.get p
  value8 (countWhere 48 fun i => i != 0 && t.entries[i].isSome)
    ++ (match t.entries[(0 : Fin 48)] with
      | some e => valueFlag true ++ value8 e.condition.place ++ bytes16 (e.detail.getD 0)
      | none => valueFlag false ++ value8 0 ++ value16 0)
    ++ value8 x.floor ++ value8 x.stack.length
    ++ padded 3 (x.stack.reverse.map fun i => BitVec.ofNat 8 (t.urgencyOf i))
    ++ value8 (countWhere 48 fun i => t.pendingFor p i)
    ++ value8 (countWhere 48 fun i => t.presentable p i)

/-- READ STATUS (R171): one of three parts. -/
def readStatus (p : Port) (part : Byte) (s : State) : Answer :=
  match part.toNat with
  | 0 => ⟨s, .ok, statusDefrost s⟩
  | 1 => ⟨s, .ok, statusRecords s⟩
  | 2 => ⟨s, .ok, statusAlarms p s⟩
  | _ => refuse .badArgument s

/-! ### Setup completion -/

/-- Check 1 fails at a door: enabled, on a dock room that is not of kind DOCK (R175). -/
def State.doorMisplaced (s : State) (d : Fin 24) : Bool :=
  (s.door d).enabled && (s.room (s.door d).dockRoom).kind != .dock

/-- Check 2 fails at a room: no channel with role ROOM (R175). -/
def State.roomUnprobed (s : State) (r : Fin 8) : Bool :=
  (lowest 32 fun c => (s.channel c).role == .room && (s.channel c).room == r).isNone

/-- Check 3 fails at a room: a heater load above the heater capacity (R175). -/
def State.roomOverloaded (s : State) (r : Fin 8) : Bool := s.heaterCapacity < (s.defrost r).heaterLoad

/-- Check 4 fails at a class: a warn level above its budget (R175). -/
def State.classInverted (s : State) (c : Fin 8) : Bool := (s.productClass c).budget < (s.productClass c).warn

/-- The validation (R175): the number of the first failing check and the lowest failing index, none where all pass. -/
def State.validate (s : State) : Option (Nat × Nat) :=
  match lowest 24 s.doorMisplaced, lowest 8 s.roomUnprobed, lowest 8 s.roomOverloaded, lowest 8 s.classInverted with
  | some d, _, _, _ => some (1, d)
  | none, some r, _, _ => some (2, r)
  | none, none, some r, _ => some (3, r)
  | none, none, none, some c => some (4, c)
  | none, none, none, none => none

/-- Entry into RUN, its six steps in order (R176). -/
def enterRun (s : State) : State :=
  let s1 := { s with
    mode := .run
    phase := 0
    defrosts := mapTable Defrost.entered s.defrosts
    remainingCapacity := s.heaterCapacity
    defrostQueue := [] }
  (forEach 8 evaluateRoom (deriveDoors s1)).post .operationStarted .none none

/-- Every port's setup-complete flag cleared (R175). -/
def State.clearSetupFlags (s : State) : State :=
  { s with ports := .of fun p => { s.port p with setupComplete := false } }

/-- The three setup-complete flags as reply values, for ports A, B and C (R174). -/
def State.setupFlags (s : State) : List Byte :=
  valueFlag (s.port .dock).setupComplete ++ valueFlag (s.port .plant).setupComplete
    ++ valueFlag (s.port .movement).setupComplete

/-- SETUP COMPLETE in SETUP (R174): the port's flag is set; when all three are set, the validation rejects or the part enters RUN. -/
def setupComplete (p : Port) (s : State) : Answer :=
  let s1 := s.setPort p { s.port p with setupComplete := true }
  if (s1.port .dock).setupComplete && (s1.port .plant).setupComplete && (s1.port .movement).setupComplete then
    match s1.validate with
    | none => let s2 := enterRun s1; ⟨s2, .ok, value8 1 ++ s2.setupFlags ++ value8 0 ++ value8 0⟩
    | some (check, index) =>
      let s2 := s1.clearSetupFlags.post .setupRejected .none (detailNat check)
      ⟨s2, .ok, value8 2 ++ s2.setupFlags ++ value8 check ++ value8 index⟩
  else ⟨s1, .ok, value8 0 ++ s1.setupFlags ++ value8 0 ++ value8 0⟩

/-! ### Warm restart and cold reset -/

/-- A channel's unposted mark cleared (R177, step 3). -/
def Channel.clearUnposted (x : Channel) : Channel := { x with unposted := false }

/-- A room's alarm flags and unposted marks cleared (R37). -/
def Room.clearAlarms (x : Room) : Room :=
  { x with
    highFlag := false
    lowFlag := false
    lostFlag := false
    highUnposted := false
    lowUnposted := false
    lostUnposted := false }

/-- A room's two timers stopped (R37). -/
def Room.stopTimers (x : Room) : Room := { x with highTimer := .stopped, lowTimer := .stopped }

/-- A pallet's unposted marks cleared (R111). -/
def Pallet.clearUnposted (x : Pallet) : Pallet := { x with warnUnposted := false, exceedUnposted := false }

/-- Step 3 of a warm restart: the table cleared, with it every owner's alarm flags and unposted marks, and the three snapshots
made EMPTY (R177, R155). The Door Unit's flags and marks are cleared with its records in step 5 (R65). -/
def clearTable (s : State) : State :=
  { s with
    channels := mapTable Channel.clearUnposted s.channels
    rooms := mapTable Room.clearAlarms s.rooms
    defrosts := mapTable Defrost.clearAlarms s.defrosts
    pallets := mapTable Pallet.clearUnposted s.pallets
    journal := { s.journal with highFlag := false, highUnposted := false }
    ports := .of fun p => { s.port p with snapshot := none } }.setAlarms s.alarms.clear

/-- Step 6 of a warm restart: every room's timers stopped, then evaluated (R37). -/
def restartRooms (s : State) : State :=
  forEach 8 (fun r s => evaluateRoom r (s.modifyRoom r Room.stopTimers)) s

/-- A channel's PROBE_FAULT raised again where its state is not OK (R16). -/
def reraiseProbe (c : Fin 32) (s : State) : State := if (s.channel c).state = .ok then s else raiseProbeFault c s

/-- JOURNAL_HIGH raised again where the held count is at or above the threshold (R142). -/
def reraiseJournal (s : State) : State := if s.journal.threshold ≤ s.journal.held then raiseJournalHigh s else s

/-- Step 7 of a warm restart: the conditions that still hold raised again, in the order of R177. Within a block the rooms of the
defrost conditions and the pallets go in ascending order (R92, R111); that the channels of PROBE_FAULT and the rooms of
ROOM_PROBES_LOST do too is the model's choice, for R16, R37 and R177 give them no order (log entry 13). It shows in the raise
order and the entry numbers. -/
def reraiseConditions (s : State) : State :=
  reraiseJournal (forEach 256 reraisePallet (forEach 8 reraiseDefrost (forEach 8 evaluateLost
    (forEach 32 reraiseProbe s))))

/-- WARM RESTART in RUN (R177): its seven steps in order, within one event. -/
def restartPart (s : State) : State :=
  reraiseConditions (restartRooms (restartDoors ((clearTable (restartDefrost (restartMoves s))).post
    .warmRestart .none none)))

/-- The request WARM RESTART (R177). -/
def warmRestart (s : State) : Answer := done (restartPart s)

/-- A cold reset: every record at its cold reset value, in SETUP (R172). The commands that wait are the outside's, and stay. -/
def resetPart (s : State) : State := { State.reset with pending := s.pending }

end Sys2Proof.Machine
end

