-- ==== Sys2Proof/Machine/Ports.lean ====
section
/-! DEFINITION. The Port Controllers (chapter 9): a request performed by its owner block, the checks of a request taken (R161) and its
reply (R162), good frames, waiting frames and OVERRUN (R160), the receive assembly (R159), and link reset (R164). -/

namespace Sys2Proof.Machine

/-! ### A request taken -/

/-- A request that has passed the checks of R161 and the mode columns of R163, performed by the block that owns it. -/
def perform (p : Port) (r : Request) (s : State) : Answer :=
  match r with
  | .readStatus part => readStatus p part s
  | .readClock => readClock s
  | .readRoom room => readRoom room s
  | .latchRooms => latchRooms p s
  | .readRoomSnapshot part => readRoomSnapshot p part s
  | .readDoor door => readDoor door s
  | .readPallet pallet => readPallet pallet s
  | .readProbe channel => readProbe channel s
  | .takeAlarm => takeAlarm p s
  | .endAlarm => endAlarm p s
  | .setAlarmRoutes alarm routed => setAlarmRoutes p alarm routed s
  | .setAlarmFloor floor => setAlarmFloor p floor s
  | .setupComplete => setupComplete p s
  | .warmRestart => warmRestart s
  | .configureDoor door enabled dockRoom wp bp wf bf => configureDoor door enabled dockRoom wp bp wf bf s
  | .setDoorLines tp pc sm sb pr debounce => setDoorLines tp pc sm sb pr debounce s
  | .setDoorTimes door sl bg rt => setDoorTimes door sl bg rt s
  | .doorArmSeal door => doorArmSeal door s
  | .doorOpenPermit door => doorOpenPermit door s
  | .doorClose door => doorClose door s
  | .doorRelease door => doorRelease door s
  | .doorOverride door on => doorOverride door on s
  | .doorClearFault door => doorClearFault door s
  | .reportTrailerTemperature door temperature => reportTrailerTemperature door temperature s
  | .configureRoom room kind heaterLoad => configureRoom room kind heaterLoad s
  | .configureProbe channel role room => configureProbe channel role room s
  | .setProbeCalibration channel gain offset => setProbeCalibration channel gain offset s
  | .setRoomLimits room upper lower hd ld weight => setRoomLimits room upper lower hd ld weight s
  | .setFrostParameters room baseRate threshold hardLimit => setFrostParameters room baseRate threshold hardLimit s
  | .setDefrostTimes room hl dt rl terminate gh => setDefrostTimes room hl dt rl terminate gh s
  | .setHeaterCapacity capacity => setHeaterCapacity capacity s
  | .requestDefrost room => requestDefrost room s
  | .withdrawDefrost room => withdrawDefrost room s
  | .defrostBegun room => defrostBegun room s
  | .heatingEnded room cause => heatingEnded room cause s
  | .configureClass cls threshold budget warn tr dr => configureClass cls threshold budget warn tr dr s
  | .setExposureTick interval => setExposureTick interval s
  | .setMoveTimes permitLimit transitLimit => setMoveTimes permitLimit transitLimit s
  | .setJournalThreshold threshold => setJournalThreshold threshold s
  | .enterPallet pallet cls door => enterPallet pallet cls door s
  | .rejectPallet pallet => rejectPallet pallet s
  | .requestMove pallet destination => requestMove pallet destination s
  | .pick handle => pick handle s
  | .put handle actual => put handle actual s
  | .cancelMove handle location => cancelMove handle location s
  | .readJournal count => readJournal count s
  | .releaseJournal count => releaseJournal count s
  | .setProductCeiling room present ceiling => setProductCeiling room present ceiling s
  | .inhibitDefrost room seconds => inhibitDefrost room seconds s

/-- Whether a mode column takes a request from a port, whose setup-complete flag is `complete` (R163). -/
def columnTakes (complete : Bool) : Availability → Bool
  | .taken => true
  | .untilComplete => !complete
  | .wrongMode => false

/-- Whether a row of the request table is taken from a port in the present mode (R163). -/
def State.takes (s : State) (p : Port) (row : RequestRow) : Bool :=
  columnTakes (s.port p).setupComplete (match s.mode with
    | .setup => row.setup
    | .run => row.run)

/-- A request whose code is in the table: its role, then its length, are checked (R161), then its mode (R163); where all pass
it is performed. `r` is the request its payload stands for, none where the length is wrong. -/
def answerRow (p : Port) (row : RequestRow) (r : Option Request) (s : State) : Answer :=
  if row.role = none ∨ row.role = some p then
    match r with
    | none => refuse .badArgument s
    | some r => if s.takes p row then perform p r s else refuse .wrongMode s
  else refuse .notPermitted s

/-- A frame taken as a request: the checks of R161, the first that fails giving the answer. -/
def answerFrame (p : Port) (f : Frame) (s : State) : Answer :=
  match requestRow f.code with
  | none => refuse .unknownRequest s
  | some row => answerRow p row (row.parse f.payload) s

/-- The reply frame of an answer (R162): the code with its high bit set, the tag echoed, the status, the port flags, the values. -/
def replyFrame (p : Port) (f : Frame) (a : Answer) : Frame :=
  ⟨f.code ||| 0x80, f.tag, a.status.byte :: a.state.portFlags p :: a.values⟩

/-- The answer's reply built from the state it leaves, OVERRUN copied into it and cleared; the request is in service until the
reply has been sent (R160, R162). -/
def serve (p : Port) (f : Frame) (a : Answer) : State :=
  a.state.setPort p
    { a.state.port p with overrun := false, inService := some { request := f, reply := replyFrame p f a } }

/-- A request taken whole, within one event (R161), after the expiries of the second ticks before it (R3). -/
def takeFrame (p : Port) (f : Frame) (s : State) : State := serve p f (answerFrame p f (settleTimers s))

/-- A good frame completed (R160): taken at once, stored as the waiting frame, or discarded with OVERRUN set. -/
def frameCompletes (p : Port) (f : Frame) (s : State) : State :=
  match (s.port p).inService, (s.port p).waiting with
  | none, _ => takeFrame p f s
  | some _, none => s.setPort p { s.port p with waiting := some f }
  | some _, some _ => s.setPort p { s.port p with overrun := true }

/-- A good frame arrives whole on a port and leaves its receiver hunting (R159); during a break no frame completes (R164). -/
def frameArrives (p : Port) (f : Frame) (s : State) : State :=
  if (s.port p).inBreak then s else frameCompletes p f (s.setPort p { s.port p with receiver := .hunting })

/-- A request arrives: its good frame completes (R160, R166). -/
def requestArrives (p : Port) (tag : Byte) (r : Request) (s : State) : State := frameArrives p (r.frame tag) s

/-- A good frame with a code of its own arrives (R161). No frame carries a payload of more than 56 bytes (R158), so none
arrives then (log entry 20). -/
def unknownArrives (p : Port) (code tag : Byte) (payload : List Byte) (s : State) : State :=
  if payload.length ≤ payloadMax then frameArrives p ⟨code, tag, payload⟩ s else s

/-! ### Bytes, gaps, replies and breaks -/

/-- One byte handed to frame reception (R159): the assembly after it, and the frame it completes, if good. -/
def Receiver.feed (x : Receiver) (b : Byte) : Receiver × Option Frame :=
  match x with
  | .hunting => (if b = Config.startByte then .length else .hunting, none)
  | .length => (if 2 ≤ b.toNat ∧ b.toNat ≤ payloadMax + 2 then .body b [] else .hunting, none)
  | .body len got =>
    let all := got ++ [b]
    if all.length < len.toNat + 2 then (.body len all, none) else (.hunting, Frame.check len all)

/-- A byte received (R157, R159): none during a break (R164); a framing error discards it with any partial frame; otherwise it is
handed to frame reception, and a good frame it completes goes to R160. -/
def receiveByte (p : Port) (b : Byte) (stopMark : Bool) (s : State) : State :=
  let x := s.port p
  if x.inBreak then s
  else if !stopMark then s.setPort p { x with receiver := .hunting }
  else
    let (receiver, frame) := x.receiver.feed b
    let s1 := s.setPort p { x with receiver := receiver }
    match frame with
    | none => s1
    | some f => frameCompletes p f s1

/-- A gap of more than 20 ms discards a frame partly received; the next byte is examined as a possible start byte (R159). -/
def gapTimeout (p : Port) (s : State) : State := s.setPort p { s.port p with receiver := .hunting }

/-- The last byte of a reply has been sent: the request in service ends, and a waiting frame is taken (R160). With no request
in service no reply is being sent. -/
def endReply (p : Port) (s : State) : State :=
  let x := s.port p
  match x.inService, x.waiting with
  | none, _ => s
  | some _, none => s.setPort p { x with inService := none }
  | some _, some f => takeFrame p f (s.setPort p { x with inService := none, waiting := none })

/-- A link reset, its six steps (R164); a break is one link reset however long it lasts. -/
def resetLink (p : Port) (s : State) : State :=
  let x := s.port p
  if x.inBreak then s
  else
    (s.setPort p
      { x with
        receiver := .hunting
        inBreak := true
        inService := none
        waiting := none
        overrun := false
        snapshot := none }).setAlarms (s.alarms.putBack p)

/-- RX returns to mark: the receiver hunts for a start byte again (R164). -/
def endBreak (p : Port) (s : State) : State :=
  let x := s.port p
  if x.inBreak then s.setPort p { x with inBreak := false, receiver := .hunting } else s

end Sys2Proof.Machine
end

