-- ==== Sys2Proof/Machine/Ticks.lean ====
section
/-! DEFINITION. The second tick (R1 to R4), the exposure tick (R4) and the round-complete event (R11, R19), each handed to the blocks
that receive it. -/

namespace Sys2Proof.Machine

/-! ### The second tick -/

/-- A room's timers at a second tick (R3). -/
def Room.tick (x : Room) : Room := { x with highTimer := x.highTimer.tick, lowTimer := x.lowTimer.tick }

/-- A door's timers at a second tick (R3). -/
def Door.tick (x : Door) : Door :=
  { x with
    sealTimer := x.sealTimer.tick
    breachTimer := x.breachTimer.tick
    releaseTimer := x.releaseTimer.tick }

/-- A defrost record at a second tick: its phase timer (R3), and its inhibit, whose expiry falls due as it reaches 0 (R74). -/
def Defrost.tick (x : Defrost) : Defrost :=
  { x with
    phaseTimer := x.phaseTimer.tick
    inhibit := x.inhibit - 1
    inhibitDue := x.inhibitDue || x.inhibit == 1 }

/-- A move entry's timers at a second tick (R3). -/
def Move.tick (x : Move) : Move := { x with lapseTimer := x.lapseTimer.tick, transitTimer := x.transitTimer.tick }

/-- Every running timer and inhibit counted down (R3, R74). -/
def tickTimers (s : State) : State :=
  { s with
    rooms := mapTable Room.tick s.rooms
    doors := mapTable Door.tick s.doors
    defrosts := mapTable Defrost.tick s.defrosts
    moves := mapTable Move.tick s.moves }

/-- The exposure tick phase at a second tick: in RUN it rises by 1, and where it reaches E the exposure tick falls due and the
phase returns to 0; in SETUP it stays at 0 (R4). -/
def advancePhase (s : State) : State :=
  match s.mode with
  | .setup => s
  | .run =>
    if s.phase + 1 < s.interval then { s with phase := s.phase + 1 } else { s with phase := 0, exposureDue := true }

/-- The retries of one owner block at a second tick (R148). -/
def retryBlock : RetryBlock → State → State
  | .probes => retryProbes
  | .rooms => retryRooms
  | .doors => retryDoors
  | .defrost => retryDefrost
  | .pallets => retryPallets
  | .moves => retryMoves
  | .journal => retryJournal

/-- The owner blocks that retry, in the order of their chapters. -/
def retryBlocks : List RetryBlock := [.probes, .rooms, .doors, .defrost, .pallets, .moves, .journal]

/-- A list with only the first place of each block kept. -/
def keepFirst : List RetryBlock → List RetryBlock
  | [] => []
  | b :: bs => b :: (keepFirst bs).filter (· != b)

/-- The order in which the owner blocks retry: those the tick names, then the others. Each block retries once (log entry 3). -/
def retryOrder (order : List RetryBlock) : List RetryBlock :=
  keepFirst order ++ retryBlocks.filter fun b => !order.contains b

/-- The retries of every owner block at a second tick (R148). -/
def retryAll (order : List RetryBlock) (s : State) : State := (retryOrder order).foldl (fun s b => retryBlock b s) s

/-- The second tick (R1): the dock clock advances, timers count, the phase advances, a conversion round starts, and raises not
yet entered are retried, all at the new clock value (R2). The expiries of the tick before have occurred (R3). -/
def tickSecond (order : List RetryBlock) (s : State) : State :=
  let s1 := settleTimers s
  retryAll order (startRound (advancePhase (tickTimers { s1 with clock := s1.clock + 1 })))

/-! ### The exposure tick and the round-complete event -/

/-- The exposure tick, where one is due in RUN: the Pallet Unit charges, and the Defrost Unit accumulates frost and evaluates the
queue, in either order (R4, R75). -/
def tickExposure (defrostFirst : Bool) (s : State) : State :=
  if s.mode = .run ∧ s.exposureDue then
    let s1 := { s with exposureDue := false }
    if defrostFirst then chargePallets (accumulateAll s1) else accumulateAll (chargePallets s1)
  else s

/-- The round-complete event, where the round has ended: the Room Unit and the Defrost Unit take it, in either order (R11,
R19, R85). The high and low timers' expiries of the tick that started the round have occurred (R3); the recovery limit's, which R86 lets
come after the recovery test, is left to its command (log entry 30). -/
def completeRound (defrostFirst : Bool) (s : State) : State :=
  match s.round with
  | .ended =>
    let s1 := settleRooms { s with round := .idle }
    if defrostFirst then roundRooms (roundDefrost s1) else roundDefrost (roundRooms s1)
  | .idle => s
  | .converting _ => s

end Sys2Proof.Machine
end

