-- ==== Sys2Proof/Machine/Events.lean ====
section
/-! DEFINITION. The meanings of the event rows of the table: one definition for each, over the operation of the block that takes
the event. Every event is taken, so each answers a next state. -/

namespace Sys2Proof.Machine

/-- COLD_RESET (R172): power-on, or RESET held low and released. -/
def execColdReset (s : State) : Host.Outcome State Fault Refusal :=
  .next (resetPart s)

/-- SECOND_TICK (R1): the second tick. `order` names the owner blocks that retry unposted raises first; the manual orders the retries within a block only. -/
def execSecondTick (order : List RetryBlock) (s : State) : Host.Outcome State Fault Refusal :=
  .next (tickSecond order s)

/-- SAMPLE_STROBE (R38): the sample strobe, with the raw level of each of the 72 door inputs: bit d is door d, 1 is a high line. -/
def execSampleStrobe (tp : BitVec 24) (pc : BitVec 24) (sm : BitVec 24) (s : State) : Host.Outcome State Fault Refusal :=
  .next (sampleStrobe tp pc sm s)

/-- DEBOUNCED_CHANGE (R38): the debounced change that an earlier strobe completed at one input is taken. -/
def execDebouncedChange (door : Fin 24) (input : DoorInput) (s : State) : Host.Outcome State Fault Refusal :=
  .next (debouncedChange door input s)

/-- EXPOSURE_TICK (R4): the exposure tick. R75 lets the Defrost Unit handle it before or after the Pallet Unit; `defrostFirst` says which. -/
def execExposureTick (defrostFirst : Bool) (s : State) : Host.Outcome State Fault Refusal :=
  .next (tickExposure defrostFirst s)

/-- CONVERTER_TRANSACTION_COMPLETE (R13): the converter's 16 bits have been clocked in; the code is the low twelve (R12). -/
def execConverterTransactionComplete (bits : Word16) (s : State) : Host.Outcome State Fault Refusal :=
  .next (completeTransaction bits s)

/-- CONVERTER_REPLY_LIMIT_EXPIRY (R12): 5 ms have passed with no data-ready: the transaction completes with NO_REPLY. -/
def execConverterReplyLimitExpiry (s : State) : Host.Outcome State Fault Refusal :=
  .next (expireReplyLimit s)

/-- ROUND_COMPLETE (R11): the round-complete event. R85 lets the Defrost Unit take it before or after the Room Unit; `defrostFirst` says which. -/
def execRoundComplete (defrostFirst : Bool) (s : State) : Host.Outcome State Fault Refusal :=
  .next (completeRound defrostFirst s)

/-- HIGH_TIMER_EXPIRY (R27): the expiry of a room's high timer is taken. -/
def execHighTimerExpiry (room : Fin 8) (s : State) : Host.Outcome State Fault Refusal :=
  .next (expireHigh room s)

/-- LOW_TIMER_EXPIRY (R30): the expiry of a room's low timer is taken. -/
def execLowTimerExpiry (room : Fin 8) (s : State) : Host.Outcome State Fault Refusal :=
  .next (expireLow room s)

/-- SEAL_TIMER_EXPIRY (R49): the expiry of a door's seal timer is taken. -/
def execSealTimerExpiry (door : Fin 24) (s : State) : Host.Outcome State Fault Refusal :=
  .next (expireSeal door s)

/-- BREACH_GRACE_EXPIRY (R54): the expiry of a door's breach grace timer is taken. -/
def execBreachGraceExpiry (door : Fin 24) (s : State) : Host.Outcome State Fault Refusal :=
  .next (expireBreach door s)

/-- RELEASE_TIMER_EXPIRY (R55): the expiry of a door's release timer is taken. -/
def execReleaseTimerExpiry (door : Fin 24) (s : State) : Host.Outcome State Fault Refusal :=
  .next (expireRelease door s)

/-- GRANT_HOLD_EXPIRY (R80): the expiry of the grant hold of a GRANTED room is taken. -/
def execGrantHoldExpiry (room : Fin 8) (s : State) : Host.Outcome State Fault Refusal :=
  .next (expireGrantHold room s)

/-- HEATING_LIMIT_EXPIRY (R81): the expiry of the heating limit of a HEATING room is taken. -/
def execHeatingLimitExpiry (room : Fin 8) (s : State) : Host.Outcome State Fault Refusal :=
  .next (expireHeating room s)

/-- DRIP_TIME_EXPIRY (R84): the expiry of the drip time of a DRIP room is taken. -/
def execDripTimeExpiry (room : Fin 8) (s : State) : Host.Outcome State Fault Refusal :=
  .next (expireDrip room s)

/-- RECOVERY_LIMIT_EXPIRY (R86): the expiry of the recovery limit of a RECOVERY room is taken. -/
def execRecoveryLimitExpiry (room : Fin 8) (s : State) : Host.Outcome State Fault Refusal :=
  .next (expireRecovery room s)

/-- INHIBIT_EXPIRY (R74): the expiry of a room's inhibit is taken. -/
def execInhibitExpiry (room : Fin 8) (s : State) : Host.Outcome State Fault Refusal :=
  .next (expireInhibit room s)

/-- LAPSE_TIMER_EXPIRY (R121): the expiry of the lapse timer of a PERMITTED move is taken. -/
def execLapseTimerExpiry (slot : Fin 32) (s : State) : Host.Outcome State Fault Refusal :=
  .next (expireLapse slot s)

/-- TRANSIT_TIMER_EXPIRY (R124): the expiry of the transit timer of an IN_TRANSIT move is taken. -/
def execTransitTimerExpiry (slot : Fin 32) (s : State) : Host.Outcome State Fault Refusal :=
  .next (expireTransit slot s)

/-- BYTE_RECEIVED (R157): a byte has arrived on a port's RX line; `stopMark` says that its stop bit was at mark. -/
def execByteReceived (port : Port) (byte : Byte) (stopMark : Bool) (s : State) : Host.Outcome State Fault Refusal :=
  .next (receiveByte port byte stopMark s)

/-- UNKNOWN_REQUEST (R161): a good frame completes on a port, whose code is no request of the table. -/
def execUnknownRequest (port : Port) (code : Byte) (tag : Byte) (payload : List Byte) (s : State) : Host.Outcome State Fault Refusal :=
  .next (unknownArrives port code tag payload s)

/-- FRAME_GAP_TIMEOUT (R159): more than 20 ms have passed since the last byte of a frame partly received. -/
def execFrameGapTimeout (port : Port) (s : State) : Host.Outcome State Fault Refusal :=
  .next (gapTimeout port s)

/-- REPLY_SENT (R160): the last byte of the reply in service on a port has been sent. -/
def execReplySent (port : Port) (s : State) : Host.Outcome State Fault Refusal :=
  .next (endReply port s)

/-- LINK_RESET (R164): a port's RX line has stayed at space for 2 ms. -/
def execLinkReset (port : Port) (s : State) : Host.Outcome State Fault Refusal :=
  .next (resetLink port s)

/-- RX_RETURN_TO_MARK (R164): a port's RX line returns to mark after a break. -/
def execRxReturnToMark (port : Port) (s : State) : Host.Outcome State Fault Refusal :=
  .next (endBreak port s)

end Sys2Proof.Machine
end

