-- ==== Sys2Proof/Machine/Requests.lean ====
section
/-! DEFINITION. The meanings of the request rows of the table: one definition for each. A request reaches the part as a good frame
that completes on a master port (R160): it is checked in the order of R161 and performed (`perform`, Machine/Ports.lean), or
stored as the waiting frame, or discarded with OVERRUN set. Every request is answered with a status, so each answers a next
state. -/

namespace Sys2Proof.Machine

/-- READ STATUS (R171): one part of the defrost, pallet, move, journal or alarm table status. -/
def execReadStatus (port : Port) (tag : Byte) (part : Byte) (s : State) :
    Host.Outcome State Fault Refusal :=
  .next (requestArrives port tag (.readStatus part) s)

/-- READ CLOCK (R6): the dock clock, mode, E and exposure tick phase. -/
def execReadClock (port : Port) (tag : Byte) (s : State) :
    Host.Outcome State Fault Refusal :=
  .next (requestArrives port tag (.readClock) s)

/-- READ ROOM (R33): the live room record. -/
def execReadRoom (port : Port) (tag : Byte) (room : Byte) (s : State) :
    Host.Outcome State Fault Refusal :=
  .next (requestArrives port tag (.readRoom room) s)

/-- LATCH ROOMS (R34): takes a snapshot of all eight rooms for the port. -/
def execLatchRooms (port : Port) (tag : Byte) (s : State) :
    Host.Outcome State Fault Refusal :=
  .next (requestArrives port tag (.latchRooms) s)

/-- READ ROOM SNAPSHOT (R35): one part of the port's snapshot. -/
def execReadRoomSnapshot (port : Port) (tag : Byte) (part : Byte) (s : State) :
    Host.Outcome State Fault Refusal :=
  .next (requestArrives port tag (.readRoomSnapshot part) s)

/-- READ DOOR (R63): the door record and lines; clears the six edge flags. -/
def execReadDoor (port : Port) (tag : Byte) (door : Byte) (s : State) :
    Host.Outcome State Fault Refusal :=
  .next (requestArrives port tag (.readDoor door) s)

/-- READ PALLET (R100): the pallet record named by a tag. -/
def execReadPallet (port : Port) (tag : Byte) (pallet : Word32) (s : State) :
    Host.Outcome State Fault Refusal :=
  .next (requestArrives port tag (.readPallet pallet) s)

/-- READ PROBE (R10): a probe channel record. -/
def execReadProbe (port : Port) (tag : Byte) (channel : Byte) (s : State) :
    Host.Outcome State Fault Refusal :=
  .next (requestArrives port tag (.readProbe channel) s)

/-- TAKE ALARM (R151): pushes the chosen presentable entry onto the port's in-service stack. -/
def execTakeAlarm (port : Port) (tag : Byte) (s : State) :
    Host.Outcome State Fault Refusal :=
  .next (requestArrives port tag (.takeAlarm) s)

/-- END ALARM (R152): pops the top in-service entry and marks it DONE for the port. -/
def execEndAlarm (port : Port) (tag : Byte) (s : State) :
    Host.Outcome State Fault Refusal :=
  .next (requestArrives port tag (.endAlarm) s)

/-- SET ALARM ROUTES (R149): sets whether one alarm code is routed to the requesting port. -/
def execSetAlarmRoutes (port : Port) (tag : Byte) (alarm : Byte) (routed : Byte) (s : State) :
    Host.Outcome State Fault Refusal :=
  .next (requestArrives port tag (.setAlarmRoutes alarm routed) s)

/-- SET ALARM FLOOR (R150): sets the requesting port's presentation floor. -/
def execSetAlarmFloor (port : Port) (tag : Byte) (floor : Byte) (s : State) :
    Host.Outcome State Fault Refusal :=
  .next (requestArrives port tag (.setAlarmFloor floor) s)

/-- SETUP COMPLETE (R174): sets the port's setup-complete flag; validates when all three are set. -/
def execSetupComplete (port : Port) (tag : Byte) (s : State) :
    Host.Outcome State Fault Refusal :=
  .next (requestArrives port tag (.setupComplete) s)

/-- WARM RESTART (R177): settles everything in flight and clears the alarm table. -/
def execWarmRestart (port : Port) (tag : Byte) (s : State) :
    Host.Outcome State Fault Refusal :=
  .next (requestArrives port tag (.warmRestart) s)

/-- CONFIGURE DOOR (R42): a door's enabled flag, dock room, penalties and frost weights. -/
def execConfigureDoor (port : Port) (tag : Byte) (door : Byte) (enabled : Byte) (dockRoom : Byte) (workPenalty : Word16) (breachPenalty : Word16) (workFrost : Word16) (breachFrost : Word16) (s : State) :
    Host.Outcome State Fault Refusal :=
  .next (requestArrives port tag (.configureDoor door enabled dockRoom workPenalty breachPenalty workFrost breachFrost) s)

/-- SET DOOR LINES (R39): the five line polarities and the debounce count. -/
def execSetDoorLines (port : Port) (tag : Byte) (tp : Byte) (pc : Byte) (sm : Byte) (sb : Byte) (pr : Byte) (debounce : Byte) (s : State) :
    Host.Outcome State Fault Refusal :=
  .next (requestArrives port tag (.setDoorLines tp pc sm sb pr debounce) s)

/-- SET DOOR TIMES (R43): a door's seal limit, breach grace and release time. -/
def execSetDoorTimes (port : Port) (tag : Byte) (door : Byte) (sealLimit : Word16) (breachGrace : Word16) (releaseTime : Word16) (s : State) :
    Host.Outcome State Fault Refusal :=
  .next (requestArrives port tag (.setDoorTimes door sealLimit breachGrace releaseTime) s)

/-- DOOR ARM SEAL (R48): moves a DOCKED door to SEALING. -/
def execDoorArmSeal (port : Port) (tag : Byte) (door : Byte) (s : State) :
    Host.Outcome State Fault Refusal :=
  .next (requestArrives port tag (.doorArmSeal door) s)

/-- DOOR OPEN PERMIT (R51): gives or holds a permit for a SEALED door's panel. -/
def execDoorOpenPermit (port : Port) (tag : Byte) (door : Byte) (s : State) :
    Host.Outcome State Fault Refusal :=
  .next (requestArrives port tag (.doorOpenPermit door) s)

/-- DOOR CLOSE (R53): cancels a SEALED door's permit or sets a WORKING door's close mark. -/
def execDoorClose (port : Port) (tag : Byte) (door : Byte) (s : State) :
    Host.Outcome State Fault Refusal :=
  .next (requestArrives port tag (.doorClose door) s)

/-- DOOR RELEASE (R56): ships ABOARD pallets and moves the door to RELEASING. -/
def execDoorRelease (port : Port) (tag : Byte) (door : Byte) (s : State) :
    Host.Outcome State Fault Refusal :=
  .next (requestArrives port tag (.doorRelease door) s)

/-- DOOR OVERRIDE (R60): sets or clears a door's override. -/
def execDoorOverride (port : Port) (tag : Byte) (door : Byte) (on : Byte) (s : State) :
    Host.Outcome State Fault Refusal :=
  .next (requestArrives port tag (.doorOverride door on) s)

/-- DOOR CLEAR FAULT (R58): ends a FAULT, writing the trailer off if it has gone. -/
def execDoorClearFault (port : Port) (tag : Byte) (door : Byte) (s : State) :
    Host.Outcome State Fault Refusal :=
  .next (requestArrives port tag (.doorClearFault door) s)

/-- REPORT TRAILER TEMPERATURE (R61): the air temperature inside the trailer at a door. -/
def execReportTrailerTemperature (port : Port) (tag : Byte) (door : Byte) (temperature : Word16) (s : State) :
    Host.Outcome State Fault Refusal :=
  .next (requestArrives port tag (.reportTrailerTemperature door temperature) s)

/-- CONFIGURE ROOM (R18): a room's kind and heater load. -/
def execConfigureRoom (port : Port) (tag : Byte) (room : Byte) (kind : Byte) (heaterLoad : Byte) (s : State) :
    Host.Outcome State Fault Refusal :=
  .next (requestArrives port tag (.configureRoom room kind heaterLoad) s)

/-- CONFIGURE PROBE (R8): a channel's role and room. -/
def execConfigureProbe (port : Port) (tag : Byte) (channel : Byte) (role : Byte) (room : Byte) (s : State) :
    Host.Outcome State Fault Refusal :=
  .next (requestArrives port tag (.configureProbe channel role room) s)

/-- SET PROBE CALIBRATION (R9): a channel's gain and offset. -/
def execSetProbeCalibration (port : Port) (tag : Byte) (channel : Byte) (gain : Word16) (offset : Word16) (s : State) :
    Host.Outcome State Fault Refusal :=
  .next (requestArrives port tag (.setProbeCalibration channel gain offset) s)

/-- SET ROOM LIMITS (R24): a room's plant limits, delays and smoothing weight. -/
def execSetRoomLimits (port : Port) (tag : Byte) (room : Byte) (upper : Word16) (lower : Word16) (highDelay : Word16) (lowDelay : Word16) (weight : Word16) (s : State) :
    Host.Outcome State Fault Refusal :=
  .next (requestArrives port tag (.setRoomLimits room upper lower highDelay lowDelay weight) s)

/-- SET FROST PARAMETERS (R67): a room's base rate, threshold and hard limit. -/
def execSetFrostParameters (port : Port) (tag : Byte) (room : Byte) (baseRate : Byte) (threshold : Word16) (hardLimit : Word16) (s : State) :
    Host.Outcome State Fault Refusal :=
  .next (requestArrives port tag (.setFrostParameters room baseRate threshold hardLimit) s)

/-- SET DEFROST TIMES (R87): a room's defrost lengths and terminate temperature. -/
def execSetDefrostTimes (port : Port) (tag : Byte) (room : Byte) (heatingLimit : Word16) (dripTime : Word16) (recoveryLimit : Word16) (terminate : Word16) (grantHold : Word16) (s : State) :
    Host.Outcome State Fault Refusal :=
  .next (requestArrives port tag (.setDefrostTimes room heatingLimit dripTime recoveryLimit terminate grantHold) s)

/-- SET HEATER CAPACITY (R71): the site heater capacity. -/
def execSetHeaterCapacity (port : Port) (tag : Byte) (capacity : Byte) (s : State) :
    Host.Outcome State Fault Refusal :=
  .next (requestArrives port tag (.setHeaterCapacity capacity) s)

/-- REQUEST DEFROST (R72): appends an IDLE room to the defrost queue. -/
def execRequestDefrost (port : Port) (tag : Byte) (room : Byte) (s : State) :
    Host.Outcome State Fault Refusal :=
  .next (requestArrives port tag (.requestDefrost room) s)

/-- WITHDRAW DEFROST (R73): removes a queued room or takes back a grant. -/
def execWithdrawDefrost (port : Port) (tag : Byte) (room : Byte) (s : State) :
    Host.Outcome State Fault Refusal :=
  .next (requestArrives port tag (.withdrawDefrost room) s)

/-- DEFROST BEGUN (R80): moves a GRANTED room to HEATING. -/
def execDefrostBegun (port : Port) (tag : Byte) (room : Byte) (s : State) :
    Host.Outcome State Fault Refusal :=
  .next (requestArrives port tag (.defrostBegun room) s)

/-- HEATING ENDED (R83): moves a HEATING room to DRIP. -/
def execHeatingEnded (port : Port) (tag : Byte) (room : Byte) (cause : Byte) (s : State) :
    Host.Outcome State Fault Refusal :=
  .next (requestArrives port tag (.heatingEnded room cause) s)

/-- CONFIGURE CLASS (R94): a product class's threshold, budget, warn level and reserves. -/
def execConfigureClass (port : Port) (tag : Byte) (cls : Byte) (threshold : Word16) (budget : Word16) (warn : Word16) (transitReserve : Word16) (defrostReserve : Word16) (s : State) :
    Host.Outcome State Fault Refusal :=
  .next (requestArrives port tag (.configureClass cls threshold budget warn transitReserve defrostReserve) s)

/-- SET EXPOSURE TICK (R5): the exposure tick interval E. -/
def execSetExposureTick (port : Port) (tag : Byte) (interval : Byte) (s : State) :
    Host.Outcome State Fault Refusal :=
  .next (requestArrives port tag (.setExposureTick interval) s)

/-- SET MOVE TIMES (R115): the permit limit and transit limit. -/
def execSetMoveTimes (port : Port) (tag : Byte) (permitLimit : Word16) (transitLimit : Word16) (s : State) :
    Host.Outcome State Fault Refusal :=
  .next (requestArrives port tag (.setMoveTimes permitLimit transitLimit) s)

/-- SET JOURNAL THRESHOLD (R140): the JOURNAL_HIGH threshold. -/
def execSetJournalThreshold (port : Port) (tag : Byte) (threshold : Word16) (s : State) :
    Host.Outcome State Fault Refusal :=
  .next (requestArrives port tag (.setJournalThreshold threshold) s)

/-- ENTER PALLET (R98): registers a new INBOUND pallet at the trailer of a WORKING door. -/
def execEnterPallet (port : Port) (tag : Byte) (pallet : Word32) (cls : Byte) (door : Byte) (s : State) :
    Host.Outcome State Fault Refusal :=
  .next (requestArrives port tag (.enterPallet pallet cls door) s)

/-- REJECT PALLET (R99): removes an INBOUND or PLACED pallet with no live move. -/
def execRejectPallet (port : Port) (tag : Byte) (pallet : Word32) (s : State) :
    Host.Outcome State Fault Refusal :=
  .next (requestArrives port tag (.rejectPallet pallet) s)

/-- REQUEST MOVE (R116): checks and permits a pallet move to a destination. -/
def execRequestMove (port : Port) (tag : Byte) (pallet : Word32) (destination : Byte) (s : State) :
    Host.Outcome State Fault Refusal :=
  .next (requestArrives port tag (.requestMove pallet destination) s)

/-- PICK (R120): a permitted move's pallet has been lifted. -/
def execPick (port : Port) (tag : Byte) (handle : Byte) (s : State) :
    Host.Outcome State Fault Refusal :=
  .next (requestArrives port tag (.pick handle) s)

/-- PUT (R122): an IN_TRANSIT move's pallet has been set down. -/
def execPut (port : Port) (tag : Byte) (handle : Byte) (actual : Option Byte) (s : State) :
    Host.Outcome State Fault Refusal :=
  .next (requestArrives port tag (.put handle actual) s)

/-- CANCEL MOVE (R125): cancels a live move. -/
def execCancelMove (port : Port) (tag : Byte) (handle : Byte) (location : Option Byte) (s : State) :
    Host.Outcome State Fault Refusal :=
  .next (requestArrives port tag (.cancelMove handle location) s)

/-- READ JOURNAL (R137): up to two of the oldest held journal records. -/
def execReadJournal (port : Port) (tag : Byte) (count : Byte) (s : State) :
    Host.Outcome State Fault Refusal :=
  .next (requestArrives port tag (.readJournal count) s)

/-- RELEASE JOURNAL (R138): removes the oldest n journal records. -/
def execReleaseJournal (port : Port) (tag : Byte) (count : Word16) (s : State) :
    Host.Outcome State Fault Refusal :=
  .next (requestArrives port tag (.releaseJournal count) s)

/-- SET PRODUCT CEILING (R25): sets or clears a room's product ceiling. -/
def execSetProductCeiling (port : Port) (tag : Byte) (room : Byte) (present : Byte) (ceiling : Word16) (s : State) :
    Host.Outcome State Fault Refusal :=
  .next (requestArrives port tag (.setProductCeiling room present ceiling) s)

/-- INHIBIT DEFROST (R74): sets or lengthens a room's inhibit, or ends it with 0. -/
def execInhibitDefrost (port : Port) (tag : Byte) (room : Byte) (seconds : Word16) (s : State) :
    Host.Outcome State Fault Refusal :=
  .next (requestArrives port tag (.inhibitDefrost room seconds) s)

end Sys2Proof.Machine
end

