-- ==== Sys2Proof/Machine/Dispatch.lean ====
section
/-! DEFINITION. The dispatch: one arm for each command of the table. -/

namespace Sys2Proof.Machine

open Sys2Proof

/-- A command's effect on everything but the queue. -/
def exec (i : Instr) (s : State) : Host.Outcome State Fault Refusal :=
  match i with
  | .coldReset => Sys2Proof.Machine.execColdReset s
  | .secondTick order => Sys2Proof.Machine.execSecondTick order s
  | .sampleStrobe tp pc sm => Sys2Proof.Machine.execSampleStrobe tp pc sm s
  | .debouncedChange door input => Sys2Proof.Machine.execDebouncedChange door input s
  | .exposureTick defrostFirst => Sys2Proof.Machine.execExposureTick defrostFirst s
  | .converterTransactionComplete bits => Sys2Proof.Machine.execConverterTransactionComplete bits s
  | .converterReplyLimitExpiry => Sys2Proof.Machine.execConverterReplyLimitExpiry s
  | .roundComplete defrostFirst => Sys2Proof.Machine.execRoundComplete defrostFirst s
  | .highTimerExpiry room => Sys2Proof.Machine.execHighTimerExpiry room s
  | .lowTimerExpiry room => Sys2Proof.Machine.execLowTimerExpiry room s
  | .sealTimerExpiry door => Sys2Proof.Machine.execSealTimerExpiry door s
  | .breachGraceExpiry door => Sys2Proof.Machine.execBreachGraceExpiry door s
  | .releaseTimerExpiry door => Sys2Proof.Machine.execReleaseTimerExpiry door s
  | .grantHoldExpiry room => Sys2Proof.Machine.execGrantHoldExpiry room s
  | .heatingLimitExpiry room => Sys2Proof.Machine.execHeatingLimitExpiry room s
  | .dripTimeExpiry room => Sys2Proof.Machine.execDripTimeExpiry room s
  | .recoveryLimitExpiry room => Sys2Proof.Machine.execRecoveryLimitExpiry room s
  | .inhibitExpiry room => Sys2Proof.Machine.execInhibitExpiry room s
  | .lapseTimerExpiry slot => Sys2Proof.Machine.execLapseTimerExpiry slot s
  | .transitTimerExpiry slot => Sys2Proof.Machine.execTransitTimerExpiry slot s
  | .byteReceived port byte stopMark => Sys2Proof.Machine.execByteReceived port byte stopMark s
  | .unknownRequest port code tag payload => Sys2Proof.Machine.execUnknownRequest port code tag payload s
  | .frameGapTimeout port => Sys2Proof.Machine.execFrameGapTimeout port s
  | .replySent port => Sys2Proof.Machine.execReplySent port s
  | .linkReset port => Sys2Proof.Machine.execLinkReset port s
  | .rxReturnToMark port => Sys2Proof.Machine.execRxReturnToMark port s
  | .readStatus port tag part => Sys2Proof.Machine.execReadStatus port tag part s
  | .readClock port tag => Sys2Proof.Machine.execReadClock port tag s
  | .readRoom port tag room => Sys2Proof.Machine.execReadRoom port tag room s
  | .latchRooms port tag => Sys2Proof.Machine.execLatchRooms port tag s
  | .readRoomSnapshot port tag part => Sys2Proof.Machine.execReadRoomSnapshot port tag part s
  | .readDoor port tag door => Sys2Proof.Machine.execReadDoor port tag door s
  | .readPallet port tag pallet => Sys2Proof.Machine.execReadPallet port tag pallet s
  | .readProbe port tag channel => Sys2Proof.Machine.execReadProbe port tag channel s
  | .takeAlarm port tag => Sys2Proof.Machine.execTakeAlarm port tag s
  | .endAlarm port tag => Sys2Proof.Machine.execEndAlarm port tag s
  | .setAlarmRoutes port tag alarm routed => Sys2Proof.Machine.execSetAlarmRoutes port tag alarm routed s
  | .setAlarmFloor port tag floor => Sys2Proof.Machine.execSetAlarmFloor port tag floor s
  | .setupComplete port tag => Sys2Proof.Machine.execSetupComplete port tag s
  | .warmRestart port tag => Sys2Proof.Machine.execWarmRestart port tag s
  | .configureDoor port tag door enabled dockRoom workPenalty breachPenalty workFrost breachFrost => Sys2Proof.Machine.execConfigureDoor port tag door enabled dockRoom workPenalty breachPenalty workFrost breachFrost s
  | .setDoorLines port tag tp pc sm sb pr debounce => Sys2Proof.Machine.execSetDoorLines port tag tp pc sm sb pr debounce s
  | .setDoorTimes port tag door sealLimit breachGrace releaseTime => Sys2Proof.Machine.execSetDoorTimes port tag door sealLimit breachGrace releaseTime s
  | .doorArmSeal port tag door => Sys2Proof.Machine.execDoorArmSeal port tag door s
  | .doorOpenPermit port tag door => Sys2Proof.Machine.execDoorOpenPermit port tag door s
  | .doorClose port tag door => Sys2Proof.Machine.execDoorClose port tag door s
  | .doorRelease port tag door => Sys2Proof.Machine.execDoorRelease port tag door s
  | .doorOverride port tag door on => Sys2Proof.Machine.execDoorOverride port tag door on s
  | .doorClearFault port tag door => Sys2Proof.Machine.execDoorClearFault port tag door s
  | .reportTrailerTemperature port tag door temperature => Sys2Proof.Machine.execReportTrailerTemperature port tag door temperature s
  | .configureRoom port tag room kind heaterLoad => Sys2Proof.Machine.execConfigureRoom port tag room kind heaterLoad s
  | .configureProbe port tag channel role room => Sys2Proof.Machine.execConfigureProbe port tag channel role room s
  | .setProbeCalibration port tag channel gain offset => Sys2Proof.Machine.execSetProbeCalibration port tag channel gain offset s
  | .setRoomLimits port tag room upper lower highDelay lowDelay weight => Sys2Proof.Machine.execSetRoomLimits port tag room upper lower highDelay lowDelay weight s
  | .setFrostParameters port tag room baseRate threshold hardLimit => Sys2Proof.Machine.execSetFrostParameters port tag room baseRate threshold hardLimit s
  | .setDefrostTimes port tag room heatingLimit dripTime recoveryLimit terminate grantHold => Sys2Proof.Machine.execSetDefrostTimes port tag room heatingLimit dripTime recoveryLimit terminate grantHold s
  | .setHeaterCapacity port tag capacity => Sys2Proof.Machine.execSetHeaterCapacity port tag capacity s
  | .requestDefrost port tag room => Sys2Proof.Machine.execRequestDefrost port tag room s
  | .withdrawDefrost port tag room => Sys2Proof.Machine.execWithdrawDefrost port tag room s
  | .defrostBegun port tag room => Sys2Proof.Machine.execDefrostBegun port tag room s
  | .heatingEnded port tag room cause => Sys2Proof.Machine.execHeatingEnded port tag room cause s
  | .configureClass port tag cls threshold budget warn transitReserve defrostReserve => Sys2Proof.Machine.execConfigureClass port tag cls threshold budget warn transitReserve defrostReserve s
  | .setExposureTick port tag interval => Sys2Proof.Machine.execSetExposureTick port tag interval s
  | .setMoveTimes port tag permitLimit transitLimit => Sys2Proof.Machine.execSetMoveTimes port tag permitLimit transitLimit s
  | .setJournalThreshold port tag threshold => Sys2Proof.Machine.execSetJournalThreshold port tag threshold s
  | .enterPallet port tag pallet cls door => Sys2Proof.Machine.execEnterPallet port tag pallet cls door s
  | .rejectPallet port tag pallet => Sys2Proof.Machine.execRejectPallet port tag pallet s
  | .requestMove port tag pallet destination => Sys2Proof.Machine.execRequestMove port tag pallet destination s
  | .pick port tag handle => Sys2Proof.Machine.execPick port tag handle s
  | .put port tag handle actual => Sys2Proof.Machine.execPut port tag handle actual s
  | .cancelMove port tag handle location => Sys2Proof.Machine.execCancelMove port tag handle location s
  | .readJournal port tag count => Sys2Proof.Machine.execReadJournal port tag count s
  | .releaseJournal port tag count => Sys2Proof.Machine.execReleaseJournal port tag count s
  | .setProductCeiling port tag room present ceiling => Sys2Proof.Machine.execSetProductCeiling port tag room present ceiling s
  | .inhibitDefrost port tag room seconds => Sys2Proof.Machine.execInhibitDefrost port tag room seconds s

end Sys2Proof.Machine
end

