-- ==== Sys2Proof/Safety.lean ====
section
/-! DEFINITION. What claims about the part rest on: when a port can take a request, and the invariants of the whole part, each one
a condition every step keeps and the state after cold reset meets. No step of this machine faults or refuses, so a run is
safe exactly as long as these conditions hold. -/

namespace Sys2Proof.Machine

/-- A port can take a request at once: no break, no frame partly received, no request in service (R159, R160, R164); and no expiry
stands to be taken, which the request would find taken first (R3, `settleTimers`). -/
def State.ready (s : State) (p : Port) : Prop :=
  (s.port p).inBreak = false ∧ (s.port p).receiver = .hunting ∧ (s.port p).inService = none ∧ s.settled

/-- A command delivers no request to the part: it neither is one nor can complete or take a frame (R160). -/
def Instr.deliversNoRequest (c : Instr) : Prop :=
  match c with
  | .byteReceived _ _ _ | .replySent _ | .unknownRequest _ _ _ _ => False
  | _ => c.request? = none

/-! ### Attention lines and door outputs -/

/-- Every ATTN line is asserted exactly while an entry is presentable to its port (R150). -/
def State.attentionKept (s : State) : Prop := s.attn = .of fun p => s.alarms.attention p

/-- Every door's SB and PR, and the levels of their pins, are those its record and the line settings give (R46). -/
def State.outputsKept (s : State) : Prop := ∀ d : Fin 24, s.door d = (s.door d).driven s.lines

/-! ### The Journal -/

/-- The held count is the number of records, and the records carry consecutive sequences up to the one before the next
sequence (R133). -/
def State.journalKept (s : State) : Prop :=
  s.journal.held = s.journal.records.length ∧
    s.journal.records.map (·.sequence)
      = (List.range s.journal.held).map fun i => s.journal.next - BitVec.ofNat 32 (s.journal.held - i)

/-- The journal accounting never exceeds the Journal's 512 places (R136). -/
def State.accountingKept (s : State) : Prop := s.accounting ≤ Config.journalCapacity

/-! ### Defrost queue and heater capacity -/

/-- The queue holds each room at most once, and exactly the rooms in QUEUED or DRAINING (R72); in RUN the remaining capacity and
the loads of the rooms in GRANTED or HEATING make up the heater capacity (R71); and no live move has a destination in a room
in GRANTED, HEATING or DRIP whose forced cycle mark is clear (R88), nor is any move live in SETUP (R132). -/
def State.defrostKept (s : State) : Prop :=
  s.defrostQueue.Nodup
    ∧ (∀ r : Fin 8, r ∈ s.defrostQueue ↔ (s.defrost r).state = .queued ∨ (s.defrost r).state = .draining)
    ∧ (s.mode = .run → s.remainingCapacity + s.loadIn [.granted, .heating] = s.heaterCapacity)
    ∧ (∀ r : Fin 8, (s.defrost r).state.holdsPermits = true → (s.defrost r).forcedCycle = false → s.movesBlock r = false)
    ∧ (s.mode = .setup → ∀ m : Fin 32, (s.move m).live = false)

/-! ### Door records -/

/-- A door record of a door whose state machine does not run (R44): VACANT, nothing set, no timer, both outputs off. -/
def Door.quiet (x : Door) : Prop :=
  x.state = .vacant ∧ x.permit = .none ∧ x.override = false ∧ x.trailerTemp = none ∧ x.sb = false ∧ x.pr = false

/-- The fields of a door record agree with its state (R41, R44, R49 to R57, R61). -/
def Door.agrees (x : Door) : Prop :=
  (x.permit ≠ .none → x.state = .sealed) ∧ (x.closeMark = true → x.state = .working)
    ∧ (x.breachOrigin = true → x.state = .breach) ∧ (x.faultCause ≠ .none ↔ x.state = .fault)
    ∧ (x.sealTimer ≠ .stopped ↔ x.state = .sealing) ∧ (x.releaseTimer ≠ .stopped ↔ x.state = .releasing)
    ∧ (x.breachTimer ≠ .stopped → x.state = .breach)
    ∧ (x.breachFlag = true → x.state = .breach) ∧ (x.faultFlag = true ↔ x.state = .fault)
    ∧ (x.breachUnposted = true → x.breachFlag = true) ∧ (x.faultUnposted = true → x.faultFlag = true)
    ∧ (x.trailerTemp.isSome = true → x.tp.level = true)

/-- What a derived state is, with its fault cause (R45). -/
def Derived.stateAndCause : Derived → DoorState × FaultCause
  | .fault cause => (.fault, cause)
  | .breach => (.breach, .none)
  | .vacant => (.vacant, .none)
  | .sealed => (.sealed, .none)
  | .sealing => (.sealing, .none)
  | .docked => (.docked, .none)

/-- The table after R55, for the debounced changes: the state and fault cause that a change of one input, to a level, leads to
from a door record whose input has already changed. A change that no row names leaves the state as it is (R44). -/
def Door.tableAfter (x : Door) (held : Bool) (i : DoorInput) (level : Bool) : DoorState × FaultCause :=
  match x.state, i, level with
  | .vacant, .tp, true => (.docked, .none)
  | .vacant, .sm, true => (.fault, .sealWithoutTrailer)
  | .vacant, .pc, false => (.breach, .none)
  | .docked, .pc, false => (.breach, .none)
  | .sealing, .pc, false => (.breach, .none)
  | .releasing, .pc, false => (.breach, .none)
  | .docked, .sm, true => (.sealed, .none)
  | .docked, .tp, false => (.vacant, .none)
  | .sealing, .sm, true => (.sealed, .none)
  | .sealing, .tp, false => if held then (.fault, .trailerLost) else (.vacant, .none)
  | .sealed, .pc, false => if x.permit = .given ∨ x.override = true then (.working, .none) else (.breach, .none)
  | .sealed, .sm, false => (.sealing, .none)
  | .sealed, .tp, false => (.fault, .trailerLost)
  | .working, .tp, false => (.fault, .trailerLost)
  | .working, .pc, true => (.sealed, .none)
  | .working, .sm, false => (.breach, .none)
  | .breach, .pc, true => (x.derive held).stateAndCause
  | .breach, .sm, true => if x.pc.level = false ∧ x.tp.level = true then (.working, .none) else (.breach, x.faultCause)
  | state, _, _ => (state, x.faultCause)

/-- Every door record agrees with its state, and a door is quiet in SETUP and while it is disabled (R41, R44). -/
def State.doorsKept (s : State) : Prop :=
  ∀ d : Fin 24, (s.door d).agrees ∧ (s.mode = .setup ∨ (s.door d).enabled = false → (s.door d).quiet)

/-! ### Pallets, moves and trailers -/

/-- A pallet's state and location agree, and its pick state is present exactly in IN_TRANSIT (R95, R96). -/
def Pallet.agrees (x : Pallet) : Prop :=
  match x.state with
  | .free => x = .empty
  | .inbound | .aboard => (∃ d, x.location = .at (.trailer d)) ∧ x.pickState = none
  | .placed => (∃ p, x.location = .at p ∧ p.isTrailer = false) ∧ x.pickState = none
  | .inTransit => x.location = .inTransit ∧ x.handle.isSome = true
      ∧ (x.pickState = some .inbound ∨ x.pickState = some .placed ∨ x.pickState = some .aboard)

/-- No two live pallets carry one tag, and no live pallet carries the tag 0 (R98). -/
def State.tagsKept (s : State) : Prop :=
  (∀ q : Fin 256, (s.pallet q).live = true → (s.pallet q).tag ≠ 0)
    ∧ ∀ q q' : Fin 256, (s.pallet q).live = true → (s.pallet q').live = true → (s.pallet q).tag = (s.pallet q').tag →
      q = q'

/-- A live move entry and the pallet it names point at one another, and agree on where the pallet is (R112, R114, R120). -/
def State.moveAgrees (s : State) (m : Fin 32) : Prop :=
  match (s.move m).state with
  | .free => s.move m = .empty (s.move m).generation
  | .permitted => (∃ o d, (s.move m).origin = some o ∧ (s.move m).destination = some d
      ∧ ∃ q, (s.pallet q).live = true ∧ (s.pallet q).tag = (s.move m).tag ∧ (s.pallet q).handle = some (s.handleAt m)
        ∧ (s.pallet q).location = .at o)
      ∧ (s.move m).pickTime = none ∧ (s.move m).lapseTimer ≠ .stopped ∧ (s.move m).transitTimer = .stopped
      ∧ (s.move m).overdueFlag = false
  | .inTransit => (∃ o d, (s.move m).origin = some o ∧ (s.move m).destination = some d
      ∧ ∃ q, (s.pallet q).tag = (s.move m).tag ∧ (s.pallet q).handle = some (s.handleAt m)
        ∧ (s.pallet q).state = .inTransit ∧ ((s.pallet q).pickState = some .placed ↔ o.isTrailer = false))
      ∧ (s.move m).pickTime.isSome = true ∧ (s.move m).lapseTimer = .stopped

/-- A pallet's live move handle names a live entry in its present life, which names the pallet (R113, R114). -/
def State.handlesKept (s : State) : Prop :=
  ∀ q : Fin 256, ∀ h, (s.pallet q).handle = some h →
    (s.move h.slot).live = true ∧ (s.move h.slot).generation = h.generation ∧ (s.move h.slot).tag = (s.pallet q).tag

/-- The pallet table, the move table and the doors agree: states and locations (R96), tags (R98), handles (R114), no trailer-held
door in VACANT, DOCKED or RELEASING (R45), and in SETUP both tables and the Journal are empty (R110, R132, R142). -/
def State.recordsKept (s : State) : Prop :=
  s.tagsKept ∧ s.handlesKept ∧ (∀ q : Fin 256, (s.pallet q).agrees) ∧ (∀ m : Fin 32, s.moveAgrees m)
    ∧ (∀ d : Fin 24, s.trailerHeld d = true → (s.door d).enabled = true
        ∧ (s.door d).state ≠ .vacant ∧ (s.door d).state ≠ .docked ∧ (s.door d).state ≠ .releasing)
    ∧ (s.mode = .setup → (∀ q : Fin 256, (s.pallet q).live = false) ∧ (∀ m : Fin 32, (s.move m).live = false)
        ∧ s.journal.records = [])

/-! ### Ranges -/

/-- A temperature within −60.0 °C to +60.0 °C (00_scope.md, "Temperature"). -/
def inTempRange (t : Temperature) : Prop := Config.tempMin ≤ t ∧ t ≤ Config.tempMax

/-- A channel record's fields within the ranges of R7. -/
def Channel.inRange (x : Channel) : Prop :=
  1 ≤ x.gain ∧ x.gain ≤ 4095 ∧ inTempRange x.offset ∧ inTempRange x.temperature ∧ x.suspect ≤ 3

/-- A room record's fields within the ranges of R17, the effective upper limit as its definition says. -/
def Room.inRange (x : Room) : Prop :=
  1 ≤ x.weight ∧ x.weight ≤ 256 ∧ inTempRange x.reading ∧ inTempRange x.filtered ∧ x.validCount ≤ 4
    ∧ inTempRange x.upper ∧ inTempRange x.lower ∧ x.lower ≤ x.upper ∧ (∀ c, x.ceiling = some c → inTempRange c)
    ∧ x.effectiveUpper = x.withEffective.effectiveUpper ∧ x.highDelay ≤ 3600 ∧ x.lowDelay ≤ 3600

/-- Every channel and room record is in range, and no room has more than 4 ROOM or 2 COIL probes (R7, R8, R17). -/
def State.temperaturesKept (s : State) : Prop :=
  (∀ c : Fin 32, (s.channel c).inRange) ∧ (∀ r : Fin 8, (s.room r).inRange)
    ∧ ∀ r : Fin 8, countWhere 32 (fun c => (s.channel c).role == .room && (s.channel c).room == r) ≤ 4
      ∧ countWhere 32 (fun c => (s.channel c).role == .coil && (s.channel c).room == r) ≤ 2

/-- A defrost record's fields within the ranges of R66. -/
def Defrost.inRange (x : Defrost) : Prop :=
  x.frostIndex ≤ 65535 ∧ x.baseRate ≤ 255 ∧ 1 ≤ x.threshold ∧ x.threshold ≤ x.hardLimit ∧ x.hardLimit ≤ 65535
    ∧ 1 ≤ x.heaterLoad ∧ x.heaterLoad ≤ 15 ∧ 60 ≤ x.heatingLimit ∧ x.heatingLimit ≤ 3600 ∧ x.dripTime ≤ 900
    ∧ 60 ≤ x.recoveryLimit ∧ x.recoveryLimit ≤ 7200 ∧ inTempRange x.terminateTemp ∧ 30 ≤ x.grantHold
    ∧ x.grantHold ≤ 900 ∧ x.inhibit ≤ 3600

/-- A product class record's fields within the ranges of R93. -/
def ProductClass.inRange (x : ProductClass) : Prop :=
  inTempRange x.threshold ∧ 1 ≤ x.budget ∧ x.budget ≤ 65535 ∧ 1 ≤ x.warn ∧ x.warn ≤ 65535
    ∧ x.transitReserve ≤ 65535 ∧ x.defrostReserve ≤ 65535

/-- Defrost and class records in range, exposures stopped at the largest, and every live pallet that has used its budget marked
over budget (R66, R93, R95, R104, R106). -/
def State.budgetsKept (s : State) : Prop :=
  (∀ r : Fin 8, (s.defrost r).inRange) ∧ (∀ c : Fin 8, (s.productClass c).inRange)
    ∧ ∀ q : Fin 256, (s.pallet q).exposure ≤ Config.exposureMax
      ∧ ((s.pallet q).live = true →
        (s.classOf (s.pallet q)).budget * Config.unitsPerDegreeMinute ≤ (s.pallet q).exposure →
          (s.pallet q).overBudget = true)
      ∧ (s.mode = .setup → (s.pallet q).live = false)

/-! ### The Alarm and Notice Table -/

/-- The classes of a stack rise strictly from the top to the bottom (R151). -/
def AlarmTable.stackRises (t : AlarmTable) : List (Fin 48) → Prop
  | [] => True
  | i :: rest => (∀ j ∈ rest, t.urgencyOf i < t.urgencyOf j) ∧ t.stackRises rest

/-- The table's parts agree (R143, R144, R147, R150, R151): the raise order holds each occupied entry once and no other; a pair of code and
subject occupies one entry, and TABLE_FULL entry 0 alone; no occupied entry is one to be freed; a notice is RETURNED; a
port's stack holds exactly its entries IN_SERVICE, once each, in rising classes; and a floor is at most 2. -/
def AlarmTable.kept (t : AlarmTable) : Prop :=
  t.order.Nodup ∧ (∀ i : Fin 48, i ∈ t.order ↔ t.entries[i].isSome = true)
    ∧ (∀ (i j : Fin 48) (a b : AlarmEntry), t.entries[i] = some a → t.entries[j] = some b → a.code = b.code →
        a.subject = b.subject → i = j)
    ∧ (∀ (i : Fin 48) (a : AlarmEntry), t.entries[i] = some a →
        (a.code = .tableFull ↔ i = 0) ∧ a.freeable = false ∧ a.repeatCount ≤ 255
        ∧ (a.code.isNotice = true → a.condition = .returned))
    ∧ ∀ p : Port, (t.ports.get p).stack.Nodup ∧ (t.ports.get p).floor ≤ 2 ∧ t.stackRises (t.ports.get p).stack
        ∧ ∀ i : Fin 48, i ∈ (t.ports.get p).stack ↔ ∃ a, t.entries[i] = some a ∧ a.delivery.get p = .inService

/-- The table of the part is in order. -/
def State.tableKept (s : State) : Prop := s.alarms.kept

end Sys2Proof.Machine
end

