-- ==== Sys2Proof/Certificates/Slice0/Obligations.lean ====
section
/-! DEFINITION. The statements for the provers. A request's statement says what the part answers when the port can take it: `exec`
gives the next state in which the reply frame of the answer is in service (`serve`), over the state with the request's effect
and nothing else changed. -/

section

open Sys2Proof Sys2Proof.Machine

/-! ### The step, requests and frames -/

/-- O1. The command at the front of the queue is executed with the queue's rest; an empty queue idles (log entries 18 and 22). -/
def Obligations.StepRunsTheFrontCommand : Prop :=
  ∀ (c : Instr) (rest : List Instr) (s : State),
    step { s with pending := c :: rest } = exec c { s with pending := rest }
      ∧ step { s with pending := [] } = .next { s with pending := [] }

/-- O2. A request row is a good frame completing on its port (R160): lost in a break (R164), taken, stored as the waiting frame or
discarded with OVERRUN set; the receiver is left hunting (log entry 16). The last byte of a reply ends the request in service,
and the waiting frame is taken at that moment. -/
def Obligations.FramesAreTakenStoredOrLost : Prop :=
  (∀ (c : Instr) (p : Port) (tag : Byte) (r : Request) (s : State), c.request? = some (p, tag, r) →
    ((s.port p).inBreak = true → exec c s = .next s)
    ∧ ((s.port p).inBreak = false →
      ((s.port p).inService = none →
        exec c s = .next (takeFrame p (r.frame tag) (s.setPort p { s.port p with receiver := .hunting })))
      ∧ ((s.port p).inService.isSome = true → (s.port p).waiting = none →
        exec c s = .next (s.setPort p { s.port p with receiver := .hunting, waiting := some (r.frame tag) }))
      ∧ ((s.port p).inService.isSome = true → (s.port p).waiting.isSome = true →
        exec c s = .next (s.setPort p { s.port p with receiver := .hunting, overrun := true }))))
  ∧ ∀ (p : Port) (s : State),
    ((s.port p).inService = none → exec (.replySent p) s = .next s)
    ∧ ((s.port p).inService.isSome = true → (s.port p).waiting = none →
      exec (.replySent p) s = .next (s.setPort p { s.port p with inService := none }))
    ∧ (∀ f, (s.port p).inService.isSome = true → (s.port p).waiting = some f →
      exec (.replySent p) s
        = .next (takeFrame p f (s.setPort p { s.port p with inService := none, waiting := none })))

/-- O3. Every request is read back from the frame it is sent as: its code is its place in the request table (R163), its payload
holds its arguments and no more than a frame carries (R158, R166). -/
def Obligations.RequestsReadBackFromTheirFrames : Prop :=
  ∀ (r : Request) (tag : Byte), Request.parse (r.frame tag).code (r.frame tag).payload = some r
    ∧ 1 ≤ r.code.toNat ∧ r.code.toNat ≤ requestCount ∧ r.payload.length ≤ payloadMax

/-- O4. The bytes of a frame, received one after the other from a hunting receiver, complete that frame and nothing else
happens before the last of them (R158, R159). -/
def Obligations.FrameBytesCompleteTheFrame : Prop :=
  ∀ (p : Port) (f : Frame) (s : State), f.payload.length ≤ payloadMax → (s.port p).inBreak = false →
    (s.port p).receiver = .hunting →
    Host.Core.run core f.bytes.length ({ s with pending := f.bytes.map fun b => .byteReceived p b true } : State)
      = .next (frameCompletes p f { s with pending := [] })

/-- O5. A frame whose CRC is wrong is discarded and leaves no trace: no reply, no OVERRUN, no record changed (R159). -/
def Obligations.BadFrameLeavesNoTrace : Prop :=
  ∀ (p : Port) (body : List Byte) (high low : Byte) (s : State), 2 ≤ body.length → body.length ≤ payloadMax + 2 →
    (s.port p).inBreak = false → (s.port p).receiver = .hunting →
    crc16 (BitVec.ofNat 8 body.length :: body) ≠ join16 high low →
    Host.Core.run core (body.length + 4)
        ({ s with
          pending := (Config.startByte :: BitVec.ofNat 8 body.length :: (body ++ [high, low])).map fun b =>
            .byteReceived p b true } : State)
      = .next ({ s with pending := [] } : State)

/-- O6. The receive assembly byte by byte (R157, R159), the gap that discards a partial frame (R159), and the end of a break
(R164). A gap while hunting, and a return to mark without a break, change nothing (log entry 21). -/
def Obligations.ReceiverFollowsTheLine : Prop :=
  ∀ (p : Port) (b : Byte) (s : State),
    ((s.port p).inBreak = true → exec (.byteReceived p b true) s = .next s ∧ exec (.byteReceived p b false) s = .next s
      ∧ exec (.rxReturnToMark p) s = .next (s.setPort p { s.port p with inBreak := false, receiver := .hunting }))
    ∧ exec (.frameGapTimeout p) s = .next (s.setPort p { s.port p with receiver := .hunting })
    ∧ ((s.port p).inBreak = false → exec (.rxReturnToMark p) s = .next s
      ∧ exec (.byteReceived p b false) s = .next (s.setPort p { s.port p with receiver := .hunting })
      ∧ ((s.port p).receiver = .hunting → exec (.byteReceived p b true) s
          = .next (s.setPort p { s.port p with receiver := if b = 0xA5 then .length else .hunting }))
      ∧ ((s.port p).receiver = .length → exec (.byteReceived p b true) s
          = .next (s.setPort p
              { s.port p with receiver := if 2 ≤ b.toNat ∧ b.toNat ≤ 58 then .body b [] else .hunting }))
      ∧ (∀ (len : Byte) (got : List Byte), (s.port p).receiver = .body len got → got.length + 1 < len.toNat + 2 →
          exec (.byteReceived p b true) s = .next (s.setPort p { s.port p with receiver := .body len (got ++ [b]) })))

/-- O7. An unknown code is answered UNKNOWN_REQUEST, and no record but the port's reply changes (R161). -/
def Obligations.UnknownCodeIsAnswered : Prop :=
  ∀ (p : Port) (code tag : Byte) (payload : List Byte) (s : State), s.ready p →
    (code.toNat = 0 ∨ requestCount < code.toNat) → payload.length ≤ payloadMax →
    exec (.unknownRequest p code tag payload) s = .next (serve p ⟨code, tag, payload⟩ ⟨s, .unknownRequest, []⟩)

/-- O8. The checks of R161 in their order, then the mode column (R163): the role first, then the length, then the mode; a request
that passes all is performed by its owner. Every one of the 49 requests has the role and the two mode columns of the table of R163,
written out here: the ports it is taken from, and whether in the present mode it is taken in both modes, in SETUP alone, in RUN
alone, or in SETUP until the port's setup-complete flag is set. -/
def Obligations.RequestChecksInOrder : Prop :=
  (∀ (c : Instr) (p : Port) (tag : Byte) (r : Request) (row : RequestRow) (s : State),
    c.request? = some (p, tag, r) → requestRow r.code = some row → s.ready p →
    (row.role.isSome = true → row.role ≠ some p →
      exec c s = .next (serve p (r.frame tag) ⟨s, .notPermitted, []⟩))
    ∧ (row.role = none ∨ row.role = some p → s.takes p row = false →
      exec c s = .next (serve p (r.frame tag) ⟨s, .wrongMode, []⟩))
    ∧ (row.role = none ∨ row.role = some p → s.takes p row = true →
      exec c s = .next (serve p (r.frame tag) (perform p r s))))
  ∧ (∀ (p : Port) (r : Request) (s : State), ∃ row, requestRow r.code = some row
    ∧ (let setup := decide (s.mode = .setup)
      let run := decide (s.mode = .run)
      let untilComplete := setup && !(s.port p).setupComplete
      (row.role, s.takes p row) = match r with
        | .readStatus _ | .readClock | .readRoom _ | .latchRooms | .readRoomSnapshot _ | .readDoor _ | .readPallet _
        | .readProbe _ | .takeAlarm | .endAlarm | .setAlarmRoutes _ _ | .setAlarmFloor _ => (none, true)
        | .setupComplete => (none, setup)
        | .warmRestart => (none, run)
        | .configureDoor _ _ _ _ _ _ _ | .setDoorLines _ _ _ _ _ _ => (some .dock, untilComplete)
        | .setDoorTimes _ _ _ _ => (some .dock, true)
        | .doorArmSeal _ | .doorOpenPermit _ | .doorClose _ | .doorRelease _ | .doorOverride _ _ | .doorClearFault _
        | .reportTrailerTemperature _ _ => (some .dock, run)
        | .configureRoom _ _ _ | .configureProbe _ _ _ | .setHeaterCapacity _ => (some .plant, untilComplete)
        | .setProbeCalibration _ _ _ | .setRoomLimits _ _ _ _ _ _ | .setFrostParameters _ _ _ _
        | .setDefrostTimes _ _ _ _ _ _ => (some .plant, true)
        | .requestDefrost _ | .withdrawDefrost _ | .defrostBegun _ | .heatingEnded _ _ => (some .plant, run)
        | .configureClass _ _ _ _ _ _ | .setExposureTick _ => (some .movement, untilComplete)
        | .setMoveTimes _ _ | .setJournalThreshold _ | .setProductCeiling _ _ _ => (some .movement, true)
        | .enterPallet _ _ _ | .rejectPallet _ | .requestMove _ _ | .pick _ | .put _ _ | .cancelMove _ _
        | .readJournal _ | .releaseJournal _ | .inhibitDefrost _ _ => (some .movement, run)))
  ∧ ∀ (p : Port) (f : Frame) (row : RequestRow) (s : State), requestRow f.code = some row →
    (row.role.isSome = true → row.role ≠ some p → takeFrame p f s = serve p f ⟨settleTimers s, .notPermitted, []⟩)
    ∧ (row.role = none ∨ row.role = some p → row.parse f.payload = none →
      takeFrame p f s = serve p f ⟨settleTimers s, .badArgument, []⟩)

/-- O9. A reply (R162): the request's code with its high bit set, its tag, the status, the port flags, the values; OVERRUN is
copied into the flags and cleared (R160). -/
def Obligations.ReplyIsBuiltFromTheAnswer : Prop :=
  (∀ (p : Port) (f : Frame) (a : Answer), serve p f a
      = a.state.setPort p
          { a.state.port p with
            overrun := false
            inService := some
              ⟨f, ⟨f.code ||| 0x80, f.tag, a.status.byte :: a.state.portFlags p :: a.values⟩⟩ })
  ∧ ∀ (s : State) (p : Port), (s.portFlags p).getLsbD 0 = (s.port p).overrun
      ∧ (s.portFlags p).getLsbD 1 = s.attn.get p ∧ (s.portFlags p).getLsbD 2 = decide (s.mode = .run)
      ∧ (s.portFlags p).getLsbD 3 = (s.port p).setupComplete ∧ ∀ i, 4 ≤ i → (s.portFlags p).getLsbD i = false

/-- O10. A link reset (R164, R154, R36): frames, reply, OVERRUN and snapshot of the port are gone, its entries in service are
PENDING again and its stack is empty, its setup-complete flag, routes and floor are kept; the other ports' controllers,
delivery states and stacks stay, and a break that lasts is one link reset. -/
def Obligations.LinkResetClearsOnePort : Prop :=
  ∀ (p : Port) (s : State),
    ((s.port p).inBreak = true → exec (.linkReset p) s = .next s)
    ∧ (s.alarms.kept → (s.port p).inBreak = false → ∃ t, exec (.linkReset p) s = .next t
      ∧ t = { s with alarms := t.alarms, attn := t.attn, ports := t.ports }
      ∧ t.port p = ⟨.hunting, true, none, none, false, none, (s.port p).setupComplete⟩
      ∧ (∀ q, q ≠ p → t.port q = s.port q ∧ t.alarms.ports.get q = s.alarms.ports.get q)
      ∧ t.alarms.ports.get p = { s.alarms.ports.get p with stack := [] }
      ∧ t.alarms.order = s.alarms.order
      ∧ (∀ i : Fin 48, t.alarms.entries[i] = (s.alarms.entries[i]).map fun e =>
          if e.delivery.get p = .inService then { e with delivery := e.delivery.set p .pending } else e)
      ∧ ∀ q, t.attn.get q = t.alarms.attention q)

/-! ### Resets -/

/-- O11. A cold reset leaves every record at its cold reset value, in SETUP (R172): clock, E and phase (R2, R4), channels (R7), rooms
(R17), line settings and inputs (R38, R39), doors (R41), defrost records and heater capacities (R66, R71, R92), classes and
pallet slots (R93, R95), moves and their limits (R112, R115), Journal (R133, R139), alarm table, routes and floors (R143, R149, R150)
and ports (R36, R165). The commands that wait are the model's queue and stay (log entry 17); the marks exposureDue, changeDue and
inhibitDue are the model's own (log entry 1). -/
def Obligations.ColdResetSetsEveryRecord : Prop :=
  (∀ s : State, exec .coldReset s = .next { State.reset with pending := s.pending })
    ∧ State.reset.mode = .setup ∧ State.reset.clock = 0 ∧ State.reset.interval = 10 ∧ State.reset.phase = 0
    ∧ State.reset.exposureDue = false ∧ State.reset.round = .idle
    ∧ State.reset.heaterCapacity = 8 ∧ State.reset.remainingCapacity = 8 ∧ State.reset.defrostQueue = []
    ∧ State.reset.permitLimit = 120 ∧ State.reset.transitLimit = 300
    ∧ State.reset.journal = ⟨[], 0, 0, 384, false, false⟩
    ∧ State.reset.lines = ⟨false, false, false, false, false, 5⟩
    ∧ (∀ c : Fin 32, State.reset.channel c = ⟨.unused, 0, 480, 0, .ok, 0, none, 0, false, false⟩)
    ∧ (∀ r : Fin 8,
      State.reset.room r
        = { kind := .store, weight := 32, reading := 0, filtered := 0, validCount := 0, firstVote := false
            upper := -288, lower := -480, ceiling := none, effectiveUpper := -288, highDelay := 900, lowDelay := 900
            highTimer := .stopped, lowTimer := .stopped, highFlag := false, lowFlag := false, lostFlag := false
            highUnposted := false, lowUnposted := false, lostUnposted := false }
      ∧ State.reset.defrost r
        = { frostIndex := 0, baseRate := 10, threshold := 20000, hardLimit := 30000, heaterLoad := 4
            heatingLimit := 1800, dripTime := 300, recoveryLimit := 2700, terminateTemp := 160, grantHold := 300
            state := .idle, phaseTimer := .stopped, forcedMark := false, forcedCycle := false, inhibit := 0
            inhibitDue := false, terminateMark := false, cycleCount := 0, lastTermination := .none
            dueFlag := false, forcedFlag := false, overrunFlag := false
            dueUnposted := false, forcedUnposted := false, overrunUnposted := false }
      ∧ State.reset.productClass r = ⟨-288, 60, 45, 10, 15⟩)
    ∧ (∀ d : Fin 24, State.reset.door d
        = { enabled := false, dockRoom := 0, state := .vacant, permit := .none, override := false, closeMark := false
            breachOrigin := false, faultCause := .none, trailerTemp := none
            sealTimer := .stopped, breachTimer := .stopped, releaseTimer := .stopped
            sealLimit := 30, breachGrace := 20, releaseTime := 15
            workPenalty := 16, breachPenalty := 128, workFrost := 20, breachFrost := 200
            breachFlag := false, faultFlag := false, breachUnposted := false, faultUnposted := false
            tp := ⟨false, 0, false, false, false⟩, pc := ⟨false, 0, false, false, false⟩
            sm := ⟨false, 0, false, false, false⟩, sb := false, pr := false, sbPin := true, prPin := true })
    ∧ (∀ q : Fin 256, State.reset.pallet q
        = { state := .free, tag := 0, cls := 0, location := .nowhere, pickState := none, exposure := 0, entryTime := 0
            handle := none, warned := false, overBudget := false, warnUnposted := false, exceedUnposted := false })
    ∧ (∀ m : Fin 32, State.reset.move m
        = { state := .free, generation := 0, tag := 0, origin := none, destination := none, permitTime := 0
            pickTime := none, lapseTimer := .stopped, transitTimer := .stopped, overdueFlag := false
            overdueUnposted := false })
    ∧ (∀ i : Fin 48, State.reset.alarms.entries[i] = none) ∧ State.reset.alarms.order = []
    ∧ (∀ p, (State.reset.alarms.ports.get p).stack = [] ∧ (State.reset.alarms.ports.get p).floor = 2
      ∧ ∀ code : AlarmCode, (State.reset.alarms.ports.get p).routes[code.place] = true ↔
        code ∈ [.tableFull, .roomHigh, .defrostOverrun, .defrostForced, .exposureExceeded, .operationStarted,
            .setupRejected, .warmRestart]
          ++ match p with
            | .dock => [.doorBreach, .doorFault, .sealTimeout, .openPermitReleased]
            | .plant => [.roomLow, .roomProbesLost, .probeFault, .recoveryLate, .frostDue, .defrostGranted, .grantLapsed,
                .terminateReached]
            | .movement => [.doorBreach, .doorFault, .moveOverdue, .moveLapsed, .exposureWarning, .journalHigh])
    ∧ ∀ p, State.reset.port p = ⟨.hunting, false, none, none, false, none, false⟩ ∧ State.reset.attn.get p = false

/-- O12. A WARM RESTART (R177), WRONG_MODE in SETUP. In RUN: every live move is cancelled in slot order, its record with the
RESTART flag, a pallet IN_TRANSIT back at its origin in its pick state (R111, R127); QUEUED, DRAINING and GRANTED go to IDLE,
inhibits to 0, and the remaining capacity is recomputed (R92); the table is cleared, WARM_RESTART its first entry (R155), the
snapshots EMPTY; every enabled door is cleared and derived from its lines (R65; the trailer temperature by R61, log entry 28);
the rooms' timing starts afresh (R37); and what still holds is raised again, or marked unposted where the table is full (log
entry 12 for the overrun of a HEATING room). Kept are the clock, E, phase, configuration, exposures and marks, the Journal's
records, routes, floors, setup-complete flags, frost indices, forced marks, cycle counts, rooms in HEATING, DRIP and RECOVERY
with their timers, R and F, probe records, levels and edge flags, and every other field. The ascending order of the doors, of
the channels and of the rooms that raise again, which shows in entry numbers and in what a full table leaves out, is log entry
13's; exposureDue and changeDue, which stay as they are, are log entry 1's marks. -/
def Obligations.WarmRestartSettlesThePart : Prop :=
  (∀ (p : Port) (tag : Byte) (s : State), s.ready p →
    exec (.warmRestart p tag) s = .next (serve p (Request.warmRestart.frame tag)
      (if s.mode = .run then ⟨restartPart s, .ok, []⟩ else ⟨s, .wrongMode, []⟩)))
  ∧ ∀ s : State, s.mode = .run → let u := restartPart s
    u = { s with
      channels := u.channels, rooms := u.rooms, doors := u.doors, defrosts := u.defrosts, defrostQueue := []
      remainingCapacity := s.heaterCapacity - u.loadIn [.heating], pallets := u.pallets, moves := u.moves
      journal := u.journal, alarms := u.alarms, attn := u.attn, ports := u.ports }
    ∧ (∀ q, u.port q = { s.port q with snapshot := none })
    ∧ (∀ m : Fin 32, u.move m = if (s.move m).live = true then .empty ((s.move m).generation + 1) else s.move m)
    ∧ u.journal.threshold = s.journal.threshold ∧ u.journal.held = s.journal.held + s.liveMoves
    ∧ u.journal.next = s.journal.next + BitVec.ofNat 32 s.liveMoves
    ∧ (∃ records, u.journal.records = s.journal.records ++ records ∧ records.length = s.liveMoves
      ∧ (∀ j ∈ records, j.kind = .moveCancelled ∧ j.endTime = s.clock ∧ j.flags.restart = true
        ∧ j.flags.diverted = false ∧ j.flags.trailerLost = false)
      ∧ (s.recordsKept → records.map (·.tag)
        = ((List.finRange 32).filter fun m => (s.move m).live).map fun m => (s.move m).tag))
    ∧ (∀ q : Fin 256, u.pallet q
        = { s.pallet q with
            state := (u.pallet q).state, location := (u.pallet q).location, pickState := (u.pallet q).pickState
            handle := (u.pallet q).handle, warnUnposted := (u.pallet q).warnUnposted
            exceedUnposted := (u.pallet q).exceedUnposted }
      ∧ (s.recordsKept → (u.pallet q).handle = none ∧ (u.pallet q).pickState = none
        ∧ ((s.pallet q).state ≠ .inTransit →
          (u.pallet q).state = (s.pallet q).state ∧ (u.pallet q).location = (s.pallet q).location)
        ∧ ∀ h, (s.pallet q).state = .inTransit → (s.pallet q).handle = some h →
          some (u.pallet q).state = (s.pallet q).pickState
            ∧ ∃ o, (s.move h.slot).origin = some o ∧ (u.pallet q).location = .at o))
    ∧ (∀ r : Fin 8, u.defrost r
        = { s.defrost r with
            state := (u.defrost r).state, phaseTimer := (u.defrost r).phaseTimer
            forcedCycle := (u.defrost r).forcedCycle, inhibit := 0, inhibitDue := false
            dueFlag := decide ((s.defrost r).threshold ≤ (s.defrost r).frostIndex ∧ (u.defrost r).state ≠ .drip)
            forcedFlag := decide ((s.defrost r).forcedMark = true ∧ (u.defrost r).state ≠ .heating
              ∧ (u.defrost r).state ≠ .drip)
            overrunFlag := decide ((u.defrost r).state = .heating ∧ (u.defrost r).phaseTimer = .stopped)
            dueUnposted := (u.defrost r).dueUnposted, forcedUnposted := (u.defrost r).forcedUnposted
            overrunUnposted := (u.defrost r).overrunUnposted }
      ∧ (u.defrost r).state ≠ .queued ∧ (u.defrost r).state ≠ .draining ∧ (u.defrost r).state ≠ .granted
      ∧ (s.defrostKept → ((u.defrost r).state, (u.defrost r).phaseTimer, (u.defrost r).forcedCycle)
        = match (s.defrost r).state with
          | .queued | .draining | .granted => (.idle, .stopped, false)
          | kept => (kept, (s.defrost r).phaseTimer, (s.defrost r).forcedCycle)))
    ∧ (∀ r : Fin 8, u.room r
        = { s.room r with
            highTimer :=
              if (s.room r).firstVote = true ∧ (s.room r).effectiveUpper < (s.room r).filtered
                ∧ (u.defrost r).state ≠ .heating ∧ (u.defrost r).state ≠ .drip ∧ (u.defrost r).state ≠ .recovery
              then .start (s.room r).highDelay else .stopped
            lowTimer :=
              if (s.room r).firstVote = true ∧ (s.room r).filtered < (s.room r).lower then .start (s.room r).lowDelay
              else .stopped
            highFlag := false, lowFlag := false, lostFlag := decide ((s.room r).validCount = 0)
            highUnposted := false, lowUnposted := false, lostUnposted := (u.room r).lostUnposted })
    ∧ (∀ d : Fin 24, u.door d = if (s.door d).enabled = true then
          { s.door d with
            state := (u.door d).state, faultCause := (u.door d).faultCause
            permit := .none, override := false, closeMark := false, breachOrigin := false
            trailerTemp := if (u.door d).state = .vacant ∨ (u.door d).faultCause = .trailerLost then none
              else (s.door d).trailerTemp
            sealTimer := if (u.door d).state = .sealing then .start (s.door d).sealLimit else .stopped
            breachTimer := if (u.door d).state = .breach then .start (s.door d).breachGrace else .stopped
            releaseTimer := .stopped, breachFlag := false, faultFlag := decide ((u.door d).state = .fault)
            breachUnposted := false, faultUnposted := (u.door d).faultUnposted
            sb := (u.door d).sb, pr := (u.door d).pr, sbPin := (u.door d).sbPin, prPin := (u.door d).prPin }
        else s.door d)
    ∧ (∀ d : Fin 24, (s.door d).enabled = true →
      ((u.door d).state, (u.door d).faultCause)
        = ((s.door d).derive (decide (∃ q : Fin 256, (u.pallet q).live = true
            ∧ (u.pallet q).location = .at (.trailer d)))).stateAndCause)
    ∧ (∀ c : Fin 32, u.channel c = { s.channel c with unposted := (u.channel c).unposted })
    ∧ (u.journal.highFlag = true ↔ s.journal.threshold ≤ u.journal.held)
    ∧ (∀ q, u.alarms.ports.get q = { s.alarms.ports.get q with stack := [] } ∧ u.attn.get q = u.alarms.attention q)
    ∧ (∀ (i : Fin 48) (e : AlarmEntry), u.alarms.entries[i] = some e → e.firstRaised = s.clock)
    ∧ (let routed := fun q => (s.alarms.ports.get q).routes[(23 : Fin 24)]
      if routed .dock = true ∨ routed .plant = true ∨ routed .movement = true then
        u.alarms.order.head? = some 1 ∧ u.alarms.entries[(1 : Fin 48)]
          = some ⟨.warmRestart, .none, none, none, s.clock, s.clock, 0, .returned,
              .of fun q => if routed q = true then .pending else .notRouted⟩
      else ∀ (i : Fin 48) (e : AlarmEntry), u.alarms.entries[i] = some e → e.code ≠ .warmRestart)
    ∧ (let again := fun (holds unposted : Bool) (code : AlarmCode) (subject : Subject) (tag : Option Word32)
          (detail : Option Word16) =>
        (holds = false → unposted = false ∧ ∀ (i : Fin 48) (e : AlarmEntry), u.alarms.entries[i] = some e →
          e.code = code → e.subject ≠ subject)
        ∧ (holds = true → unposted = false → ∃ (i : Fin 48) (e : AlarmEntry), u.alarms.entries[i] = some e
          ∧ e.code = code ∧ e.subject = subject ∧ e.tag = tag ∧ e.detail = detail ∧ e.condition = .active)
        ∧ (holds = true → unposted = true → (∀ i : Fin 48, i ≠ 0 → u.alarms.entries[i].isSome = true)
          ∧ ∀ (i : Fin 48) (e : AlarmEntry), u.alarms.entries[i] = some e → e.code = code → e.subject ≠ subject)
      (∀ d : Fin 24, (s.door d).enabled = true → again (decide ((u.door d).state = .fault)) (u.door d).faultUnposted
        .doorFault (.door d) none (some (BitVec.ofNat 16 (u.door d).faultCause.place)))
      ∧ (∀ c : Fin 32, again (decide ((s.channel c).state ≠ .ok)) (u.channel c).unposted .probeFault (.probe c) none
        (some (BitVec.ofNat 16 (s.channel c).state.place)))
      ∧ (∀ r : Fin 8, again (u.room r).lostFlag (u.room r).lostUnposted .roomProbesLost (.room r) none none
        ∧ again (u.defrost r).dueFlag (u.defrost r).dueUnposted .frostDue (.room r) none
          (some (BitVec.ofNat 16 (s.defrost r).frostIndex))
        ∧ again (u.defrost r).forcedFlag (u.defrost r).forcedUnposted .defrostForced (.room r) none
          (some (BitVec.ofNat 16 (s.defrost r).frostIndex))
        ∧ again (u.defrost r).overrunFlag (u.defrost r).overrunUnposted .defrostOverrun (.room r) none none)
      ∧ (∀ q : Fin 256, let x := u.pallet q
        again (x.live && x.warned) x.warnUnposted .exposureWarning (.pallet q) (some x.tag)
          (some (BitVec.ofNat 16 (min (x.exposure / 960) 65535)))
        ∧ again (x.live && x.overBudget) x.exceedUnposted .exposureExceeded (.pallet q) (some x.tag)
          (some (BitVec.ofNat 16 (min (x.exposure / 960) 65535))))
      ∧ again u.journal.highFlag u.journal.highUnposted .journalHigh .none none
        (some (BitVec.ofNat 16 u.journal.held)))

/-! ### Invariants every step keeps -/

/-- O13. Every step leaves each ATTN line asserted exactly while an entry is presentable to its port (R150). -/
def Obligations.StepKeepsAttentionLines : Prop :=
  ∀ s t : State, s.attentionKept → step s = .next t → t.attentionKept

/-- O14. Every step leaves every door's outputs at the values R46 gives for its record: SB on while SEALING, SEALED or WORKING, and in BREACH
with the breach origin mark; PR on while SEALED with permit GIVEN, WORKING without the close mark, or with the override; each pin
at its line's active level exactly while its output is on. With the door records in order (O18) both are off in SETUP and at a disabled
door. -/
def Obligations.StepKeepsDoorOutputs : Prop :=
  ∀ s t : State, s.outputsKept → step s = .next t → t.outputsKept
    ∧ (∀ d : Fin 24, let x := t.door d
      x.sb = (match x.state with
        | .sealing | .sealed | .working => true
        | .breach => x.breachOrigin
        | .vacant | .docked | .releasing | .fault => false)
      ∧ x.pr = (x.override || match x.state with
        | .sealed => decide (x.permit = .given)
        | .working => !x.closeMark
        | .vacant | .docked | .sealing | .breach | .releasing | .fault => false)
      ∧ (x.sbPin = t.lines.sb ↔ x.sb = true) ∧ (x.prPin = t.lines.pr ↔ x.pr = true))
    ∧ (s.doorsKept → ∀ d : Fin 24, t.mode = .setup ∨ (t.door d).enabled = false →
      (t.door d).sb = false ∧ (t.door d).pr = false)

/-- O15. Every step leaves the Journal's records in the order of writing, their sequences consecutive (R133). -/
def Obligations.StepKeepsJournalOrder : Prop :=
  ∀ s t : State, s.journalKept → step s = .next t → t.journalKept

/-- O16. Held records, live pallets and live moves never pass 512 together (R136). -/
def Obligations.StepKeepsJournalAccounting : Prop :=
  ∀ s t : State, s.accountingKept → step s = .next t → t.accountingKept

/-- O17. Every step keeps the queue equal to the rooms in QUEUED or DRAINING (R72); in RUN the remaining capacity equal to the heater
capacity less the loads in GRANTED or HEATING, which therefore never exceed it (R71); and no live move into a room in an unforced
GRANTED, HEATING or DRIP (R88). -/
def Obligations.StepKeepsHeaterCapacity : Prop :=
  ∀ s t : State, s.defrostKept → step s = .next t →
    t.defrostKept ∧ (t.mode = .run → t.loadIn [.granted, .heating] ≤ t.heaterCapacity)

/-- O18. Every step keeps every door record in agreement with its state, and quiet in SETUP and at a disabled door (R41, R44). -/
def Obligations.StepKeepsDoorRecords : Prop :=
  ∀ s t : State, s.doorsKept → step s = .next t → t.doorsKept

/-- O19. Every step keeps pallets, moves and doors in agreement: a pallet is IN_TRANSIT exactly while a move in IN_TRANSIT names it
(R114), states and locations agree (R96), live tags are unique (R98), and no VACANT, DOCKED or RELEASING door is
trailer-held (R45). -/
def Obligations.StepKeepsPalletsAndMovesLinked : Prop :=
  ∀ s t : State, s.recordsKept → step s = .next t → t.recordsKept

/-- O20. Every step keeps channel and room records in range: F stays within −960 to +960 (R22), the effective upper limit is the
lower of limit and ceiling (R17), and no room has more than 4 ROOM or 2 COIL probes (R8). -/
def Obligations.StepKeepsTemperaturesInRange : Prop :=
  ∀ s t : State, s.temperaturesKept → step s = .next t → t.temperaturesKept

/-- O21. Every step keeps exposures at or below the largest, and every live pallet that has used its budget marked over budget
(R104, R106), with defrost and class records in range (R66, R93). -/
def Obligations.StepKeepsBudgetMarks : Prop :=
  ∀ s t : State, s.budgetsKept → step s = .next t → t.budgetsKept

/-- O22. Every step keeps the table in order: one entry for a pair (R144), nothing left to free (R147), the raise order exact (R143),
and each stack exactly the port's entries in service, at most 3, in strictly rising classes (R151). -/
def Obligations.StepKeepsTheAlarmTable : Prop :=
  ∀ s t : State, s.tableKept → step s = .next t → t.tableKept ∧ ∀ p, (t.alarms.ports.get p).stack.length ≤ 3

/-- O23. The state after cold reset meets every invariant. -/
def Obligations.ResetMeetsTheInvariants : Prop :=
  State.reset.attentionKept ∧ State.reset.outputsKept ∧ State.reset.journalKept ∧ State.reset.accountingKept
    ∧ State.reset.defrostKept ∧ State.reset.doorsKept ∧ State.reset.recordsKept ∧ State.reset.temperaturesKept
    ∧ State.reset.budgetsKept ∧ State.reset.tableKept

/-! ### Rules of the whole part -/

/-- O24. Only a second tick or a cold reset moves the dock clock (R2); once in RUN only a cold reset leaves it; and in RUN nothing but a cold
reset changes what SETUP fixed: lines, E, heater capacity, classes, roles, kinds, loads and door attachments (R173). -/
def Obligations.ClockAndConfigurationAreFixed : Prop :=
  ∀ (c : Instr) (s t : State), exec c s = .next t → c ≠ .coldReset →
    ((∀ order, c ≠ .secondTick order) → t.clock = s.clock)
    ∧ (s.mode = .run → t.mode = .run ∧ t.lines = s.lines ∧ t.interval = s.interval
      ∧ t.heaterCapacity = s.heaterCapacity ∧ t.classes = s.classes
      ∧ (∀ i : Fin 32, (t.channel i).role = (s.channel i).role ∧ (t.channel i).room = (s.channel i).room)
      ∧ (∀ r : Fin 8, (t.room r).kind = (s.room r).kind ∧ (t.defrost r).heaterLoad = (s.defrost r).heaterLoad)
      ∧ ∀ d : Fin 24, (t.door d).enabled = (s.door d).enabled ∧ (t.door d).dockRoom = (s.door d).dockRoom)

/-- O25. A live pallet's exposure never decreases, and its tag, class and entry time do not change, while its slot is live; its marks,
once set, stay (R95, R96, R104, R105). -/
def Obligations.ExposureNeverDecreases : Prop :=
  ∀ (c : Instr) (s t : State) (q : Fin 256), exec c s = .next t → c ≠ .coldReset →
    (s.pallet q).exposure ≤ Config.exposureMax → (s.pallet q).live = true → (t.pallet q).live = true →
    (s.pallet q).exposure ≤ (t.pallet q).exposure ∧ (t.pallet q).tag = (s.pallet q).tag
      ∧ (t.pallet q).cls = (s.pallet q).cls ∧ (t.pallet q).entryTime = (s.pallet q).entryTime
      ∧ ((s.pallet q).warned = true → (t.pallet q).warned = true)
      ∧ ((s.pallet q).overBudget = true → (t.pallet q).overBudget = true)

/-! ### Events of the clock and the lines -/

/-- O26. A second tick (R1, R2, R3, R4, R74), in the state where the expiries of earlier ticks have been taken (O41, log entry 30): the
clock rises by one, every running timer and inhibit counts down, and in RUN the phase rises and returns to 0 as an exposure tick
falls due; a round may start (O27). Then every raise marked unposted is retried while its
owner's condition stands (R16, R32, R64, R90, R109, R124, R139, R148), the blocks in the order the tick names and each block's in the
order of its rule (log entry 3): the alarm table is the one those retries make, one after the other, and no other. Entered, its entry
shows it and the mark is cleared; not entered, the table is full and the mark stays. No entry is freed, entry 0 stays, and no other
field changes. The marks exposureDue and inhibitDue, and a timer kept at 0 until its expiry is taken, are log entry 1's. -/
def Obligations.SecondTickCounts : Prop :=
  ∀ (order : List RetryBlock) (before : State), let s := settleTimers before
    ∃ t, exec (.secondTick order) before = .next t
    ∧ t = { s with
        clock := s.clock + 1, phase := t.phase, exposureDue := t.exposureDue, channels := t.channels, round := t.round
        rooms := t.rooms, doors := t.doors, defrosts := t.defrosts, pallets := t.pallets, moves := t.moves
        journal := t.journal, alarms := t.alarms, attn := t.attn }
    ∧ (s.mode = .setup → t.phase = s.phase ∧ t.exposureDue = s.exposureDue)
    ∧ (s.mode = .run → s.phase + 1 < s.interval → t.phase = s.phase + 1 ∧ t.exposureDue = s.exposureDue)
    ∧ (s.mode = .run → s.interval ≤ s.phase + 1 → t.phase = 0 ∧ t.exposureDue = true)
    ∧ (∀ r : Fin 8, { t.room r with highUnposted := false, lowUnposted := false, lostUnposted := false }
        = { s.room r with
            highTimer := (s.room r).highTimer.tick, lowTimer := (s.room r).lowTimer.tick
            highUnposted := false, lowUnposted := false, lostUnposted := false })
    ∧ (∀ r : Fin 8, { t.defrost r with dueUnposted := false, forcedUnposted := false, overrunUnposted := false }
        = { s.defrost r with
            phaseTimer := (s.defrost r).phaseTimer.tick, inhibit := (s.defrost r).inhibit - 1
            inhibitDue := (s.defrost r).inhibitDue || (s.defrost r).inhibit == 1
            dueUnposted := false, forcedUnposted := false, overrunUnposted := false })
    ∧ (∀ m : Fin 32, { t.move m with overdueUnposted := false }
        = { s.move m with
            lapseTimer := (s.move m).lapseTimer.tick, transitTimer := (s.move m).transitTimer.tick
            overdueUnposted := false })
    ∧ (s.outputsKept → ∀ d : Fin 24, { t.door d with breachUnposted := false, faultUnposted := false }
        = { s.door d with
            sealTimer := (s.door d).sealTimer.tick, breachTimer := (s.door d).breachTimer.tick
            releaseTimer := (s.door d).releaseTimer.tick, breachUnposted := false, faultUnposted := false })
    ∧ (∀ q : Fin 256, { t.pallet q with warnUnposted := false, exceedUnposted := false }
        = { s.pallet q with warnUnposted := false, exceedUnposted := false })
    ∧ (∀ c : Fin 32, { t.channel c with unposted := false } = { s.channel c with unposted := false })
    ∧ { t.journal with highUnposted := false } = { s.journal with highUnposted := false }
    ∧ (let blocks := retryOrder order
      let retries : RetryBlock → List (AlarmCode × Subject × Option Word32 × Option Word16) := fun block => match block with
        | .probes => (List.finRange 32).flatMap fun c => let x := s.channel c
          if x.unposted = true ∧ x.state ≠ .ok then
            [(.probeFault, .probe c, none, some (BitVec.ofNat 16 x.state.place))] else []
        | .rooms => (List.finRange 8).flatMap fun r => let x := s.room r
          (if x.highUnposted = true then [(.roomHigh, .room r, none, some (BitVec.ofInt 16 x.filtered))] else [])
            ++ (if x.lostUnposted = true then [(.roomProbesLost, .room r, none, none)] else [])
            ++ if x.lowUnposted = true then [(.roomLow, .room r, none, some (BitVec.ofInt 16 x.filtered))] else []
        | .doors => (List.finRange 24).flatMap fun d => let x := s.door d
          (if x.state = .breach ∧ x.breachUnposted = true then [(.doorBreach, .door d, none, none)] else [])
            ++ if x.state = .fault ∧ x.faultUnposted = true then
              [(.doorFault, .door d, none, some (BitVec.ofNat 16 x.faultCause.place))] else []
        | .defrost => (List.finRange 8).flatMap fun r => let x := s.defrost r
          (if x.overrunUnposted = true ∧ x.overrunFlag = true then [(.defrostOverrun, .room r, none, none)] else [])
            ++ (if x.forcedUnposted = true ∧ x.forcedFlag = true then
              [(.defrostForced, .room r, none, some (BitVec.ofNat 16 x.frostIndex))] else [])
            ++ if x.dueUnposted = true ∧ x.dueFlag = true then
              [(.frostDue, .room r, none, some (BitVec.ofNat 16 x.frostIndex))] else []
        | .pallets => (List.finRange 256).flatMap fun q => let x := s.pallet q
          let detail := some (BitVec.ofNat 16 (min (x.exposure / 960) 65535))
          (if x.warnUnposted = true then [(.exposureWarning, .pallet q, some x.tag, detail)] else [])
            ++ if x.exceedUnposted = true then [(.exposureExceeded, .pallet q, some x.tag, detail)] else []
        | .moves => (List.finRange 32).flatMap fun m => let x := s.move m
          if x.overdueUnposted = true ∧ x.state = .inTransit ∧ x.overdueFlag = true then
            [(.moveOverdue, .move m, none, some ((x.generation ++ BitVec.ofNat 5 m.val : Byte).setWidth 16))] else []
        | .journal => if s.journal.highUnposted = true ∧ s.journal.threshold ≤ s.journal.held then
            [(.journalHigh, .none, none, some (BitVec.ofNat 16 s.journal.held))] else []
      t.alarms = (blocks.flatMap retries).foldl (fun a x => (a.raise (s.clock + 1) true x.1 x.2.1 x.2.2.1 x.2.2.2).1) s.alarms
        ∧ blocks.Nodup ∧ (∀ block, block ∈ blocks)
        ∧ (order.Nodup → blocks = order ++ [RetryBlock.probes, .rooms, .doors, .defrost, .pallets, .moves, .journal].filter
          fun block => !order.contains block))
    ∧ (s.attentionKept → t.attentionKept) ∧ t.alarms.ports = s.alarms.ports
    ∧ (∀ (i : Fin 48) (e : AlarmEntry), s.alarms.entries[i] = some e → ∃ e', t.alarms.entries[i] = some e'
        ∧ e'.code = e.code ∧ e'.subject = e.subject ∧ e'.firstRaised = e.firstRaised)
    ∧ (s.tableKept → t.alarms.entries[(0 : Fin 48)] = s.alarms.entries[(0 : Fin 48)])
    ∧ (let retried := fun (stands before after : Bool) (code : AlarmCode) (subject : Subject) (tag : Option Word32)
          (detail : Option Word16) =>
        ((before && stands) = false → after = before)
        ∧ (before = true → stands = true → after = false → ∃ (i : Fin 48) (e : AlarmEntry),
          t.alarms.entries[i] = some e ∧ e.code = code ∧ e.subject = subject ∧ e.tag = tag ∧ e.detail = detail
            ∧ e.lastRaised = s.clock + 1 ∧ e.condition = .active)
        ∧ (before = true → stands = true → after = true →
          (∀ i : Fin 48, i ≠ 0 → t.alarms.entries[i].isSome = true)
            ∧ ∀ (i : Fin 48) (e : AlarmEntry), t.alarms.entries[i] = some e → e.code = code → e.subject ≠ subject)
      (∀ c : Fin 32, let x := s.channel c
        retried (decide (x.state ≠ .ok)) x.unposted (t.channel c).unposted .probeFault (.probe c) none
          (some (BitVec.ofNat 16 x.state.place)))
      ∧ (∀ r : Fin 8, let x := s.room r
        retried true x.highUnposted (t.room r).highUnposted .roomHigh (.room r) none (some (BitVec.ofInt 16 x.filtered))
        ∧ retried true x.lostUnposted (t.room r).lostUnposted .roomProbesLost (.room r) none none
        ∧ retried true x.lowUnposted (t.room r).lowUnposted .roomLow (.room r) none
          (some (BitVec.ofInt 16 x.filtered)))
      ∧ (∀ d : Fin 24, let x := s.door d
        retried (decide (x.state = .breach)) x.breachUnposted (t.door d).breachUnposted .doorBreach (.door d) none none
        ∧ retried (decide (x.state = .fault)) x.faultUnposted (t.door d).faultUnposted .doorFault (.door d) none
          (some (BitVec.ofNat 16 x.faultCause.place)))
      ∧ (∀ r : Fin 8, let x := s.defrost r
        retried x.overrunFlag x.overrunUnposted (t.defrost r).overrunUnposted .defrostOverrun (.room r) none none
        ∧ retried x.forcedFlag x.forcedUnposted (t.defrost r).forcedUnposted .defrostForced (.room r) none
          (some (BitVec.ofNat 16 x.frostIndex))
        ∧ retried x.dueFlag x.dueUnposted (t.defrost r).dueUnposted .frostDue (.room r) none
          (some (BitVec.ofNat 16 x.frostIndex)))
      ∧ (∀ q : Fin 256, let x := s.pallet q
        retried true x.warnUnposted (t.pallet q).warnUnposted .exposureWarning (.pallet q) (some x.tag)
          (some (BitVec.ofNat 16 (min (x.exposure / 960) 65535)))
        ∧ retried true x.exceedUnposted (t.pallet q).exceedUnposted .exposureExceeded (.pallet q) (some x.tag)
          (some (BitVec.ofNat 16 (min (x.exposure / 960) 65535))))
      ∧ (∀ m : Fin 32, let x := s.move m
        retried (decide (x.state = .inTransit) && x.overdueFlag) x.overdueUnposted (t.move m).overdueUnposted .moveOverdue
          (.move m) none (some ((x.generation ++ BitVec.ofNat 5 m.val : Byte).setWidth 16)))
      ∧ retried (decide (s.journal.threshold ≤ s.journal.held)) s.journal.highUnposted t.journal.highUnposted .journalHigh
        .none none (some (BitVec.ofNat 16 s.journal.held)))

/-- O27. A second tick starts a round (R11): its first transaction is of the lowest channel with role ROOM or COIL, whose command byte
is 1, 0, 0 and the channel number (R12); with none the round is over at once. A round not over stays (log entry 9). -/
def Obligations.SecondTickStartsTheRound : Prop :=
  ∀ (order : List RetryBlock) (s : State), ∃ t, exec (.secondTick order) s = .next t
    ∧ (s.round ≠ .idle → t.round = s.round)
    ∧ (s.round = .idle → (∀ c : Fin 32, (s.channel c).role = .unused) → t.round = .ended)
    ∧ (s.round = .idle → ∀ c : Fin 32, (s.channel c).role ≠ .unused → (∀ i : Fin 32, i < c → (s.channel i).role = .unused) →
        t.round = .converting ⟨c, BitVec.ofNat 8 (128 + c.val), false⟩)

/-- O28. A sample strobe (R38): at each of the 72 inputs, the raw level read through the line kind's polarity is compared with the
debounced level; equal, the count is 0; different, it rises by 1, and a change falls due where it reaches the debounce count.
The level itself turns at the debounced change, which the mark changeDue makes an event of its own (log
entry 1); an input whose change is due waits (log entry 26). Nothing else changes. -/
def Obligations.StrobeSamplesEveryInput : Prop :=
  ∀ (tp pc sm : BitVec 24) (s : State), s.outputsKept → ∃ t, exec (.sampleStrobe tp pc sm) s = .next t
    ∧ t = { s with doors := t.doors }
    ∧ ∀ d : Fin 24,
      let sampled := fun (l : InputLine) (raw polarity : Bool) =>
        if l.changeDue = true then l
        else if (raw == polarity) = l.level then { l with count := 0 }
        else { l with count := min (l.count + 1) 15, changeDue := decide (s.lines.debounce ≤ l.count + 1) }
      t.door d = { s.door d with
        tp := sampled (s.door d).tp tp[d] s.lines.tp
        pc := sampled (s.door d).pc pc[d] s.lines.pc
        sm := sampled (s.door d).sm sm[d] s.lines.sm }

/-- O29. A debounced change (R38, R40): the level turns over, the count returns to 0, the edge flag of the change is set and a
set flag stays; in SETUP or at a disabled door nothing else changes (R44), and no other door changes. All this in the state
where the door's expiries of earlier second ticks have been taken (O41). A change is taken by this command where it is marked
due (log entry 1). -/
def Obligations.DebouncedChangeSetsItsEdge : Prop :=
  ∀ (d : Fin 24) (i : DoorInput) (before : State), before.outputsKept → ((before.door d).input i).changeDue = true →
    let s := settleDoor d before
    ∃ t, exec (.debouncedChange d i) before = .next t
      ∧ (t.door d).input i
          = ⟨!((s.door d).input i).level, 0, false,
             ((s.door d).input i).becameActive || !((s.door d).input i).level,
             ((s.door d).input i).becameInactive || ((s.door d).input i).level⟩
      ∧ (∀ j, j ≠ i → (t.door d).input j = (s.door d).input j)
      ∧ (∀ d', d' ≠ d → t.door d' = s.door d')
      ∧ t = { s with doors := t.doors, alarms := t.alarms, attn := t.attn }
      ∧ (s.mode = .setup ∨ (s.door d).enabled = false →
          t = s.setDoor d ((s.door d).setInput i ((t.door d).input i)))

/-- O30. The transitions of an enabled door in RUN on a debounced change, by the table after R55 (R47 to R55): the new state
and fault cause, with the whole record of the door. A change of state clears permit and close mark, sets the breach origin
mark exactly for WORKING to BREACH by a lost seal, and stops the old state's timer; an entry into SEALING starts the seal
timer; an entry into BREACH starts the grace timer, and a change that leaves the door there starts it again (R54). A loss of
TP and an entry into VACANT clear the trailer temperature (R45, R61). Every other field of the door stays: override, the
stored limits, penalties and weights, the two other inputs; so do permit, marks and timers where the state does. Leaving
BREACH clears the breach flag and its unposted mark and returns DOOR_BREACH (R54, R64); entering FAULT sets the fault flag and
raises DOOR_FAULT with the cause, marked unposted where the raise is not entered (R57, R64); where both happen, the return
comes first (log entry 29). No other change touches the flags, the marks or the table. A set mark stays set when a later raise
is entered (log entry 4); the change is the command that takes one marked due (log entry 1); the door is as its expiries of
earlier second ticks have left it (O41). -/
def Obligations.DoorFollowsTheTransitionTable : Prop :=
  ∀ (d : Fin 24) (i : DoorInput) (before : State), ((before.door d).input i).changeDue = true → before.mode = .run →
    (before.door d).enabled = true → let s := settleDoor d before
      ∃ t, exec (.debouncedChange d i) before = .next t
      ∧ ((t.door d).state, (t.door d).faultCause)
          = ((s.door d).setInput i ((t.door d).input i)).tableAfter (s.trailerHeld d) i ((t.door d).input i).level
      ∧ (let x := s.door d
        let y := t.door d
        let moved := y.state ≠ x.state
        y = Door.driven
          { x.setInput i (y.input i) with
            state := y.state, faultCause := y.faultCause
            permit := if moved then .none else x.permit
            closeMark := if moved then false else x.closeMark
            breachOrigin := if moved then decide (y.state = .breach ∧ x.state = .working ∧ i = .sm) else x.breachOrigin
            sealTimer := if moved then (if y.state = .sealing then .start x.sealLimit else .stopped) else x.sealTimer
            breachTimer :=
              if y.state = .breach then .start x.breachGrace else if moved then .stopped else x.breachTimer
            releaseTimer := if moved then .stopped else x.releaseTimer
            trailerTemp :=
              if i = .tp ∧ (x.input i).level = true ∨ moved ∧ y.state = .vacant then none else x.trailerTemp
            breachFlag := y.breachFlag, breachUnposted := y.breachUnposted
            faultFlag := y.faultFlag, faultUnposted := y.faultUnposted } s.lines)
      ∧ (let leaves := (s.door d).state = .breach ∧ (t.door d).state ≠ .breach
        let enters := (s.door d).state ≠ .fault ∧ (t.door d).state = .fault
        let returned := if leaves then s.alarms.return .doorBreach (.door d) else s.alarms
        let raised := returned.raise s.clock false .doorFault (.door d) none
          (some (BitVec.ofNat 16 (t.door d).faultCause.place))
        t.alarms = (if enters then raised.1 else returned)
        ∧ (t.door d).breachFlag = (if leaves then false else (s.door d).breachFlag)
        ∧ (t.door d).breachUnposted = (if leaves then false else (s.door d).breachUnposted)
        ∧ (t.door d).faultFlag = (if enters then true else (s.door d).faultFlag)
        ∧ (t.door d).faultUnposted = (if enters then (s.door d).faultUnposted || !raised.2 else (s.door d).faultUnposted))

/-- O31. The door timers' expiries where they are due (R49, R54, R55): the seal timer's posts SEAL_TIMEOUT, and the door is
DOCKED, or stays SEALING with the timer started again where it is trailer-held; the grace timer's raises DOOR_BREACH and sets
the breach flag, with the unposted mark set where the table is full (R64) and otherwise as it was (log entry 4); the release
timer's leads to FAULT, DOCKED or VACANT by the lines. Entry into FAULT (R57): the cause recorded, permit NONE, marks clear,
timers stopped, DOOR_FAULT raised with the cause as detail, outputs off but for an override. What is due is so by log entry 1,
and a set DOOR_FAULT mark stays set as the other does (log entry 4). -/
def Obligations.DoorTimerExpiries : Prop :=
  (∀ (d : Fin 24) (s : State),
    ((s.door d).state = .sealing → (s.door d).sealTimer = .running 0 →
      exec (.sealTimerExpiry d) s = .next ((s.post .sealTimeout (.door d) none).setDoor d
        (if s.trailerHeld d = true then { s.door d with sealTimer := .start (s.door d).sealLimit }
          else (s.door d).enter .docked)))
    ∧ ((s.door d).state = .breach → (s.door d).breachTimer = .running 0 →
      exec (.breachGraceExpiry d) s = .next ((s.setDoor d
        { s.door d with
          breachTimer := .stopped, breachFlag := true
          breachUnposted := (s.door d).breachUnposted
            || !(s.alarms.raise s.clock false .doorBreach (.door d) none none).2 }).setAlarms
          (s.alarms.raise s.clock false .doorBreach (.door d) none none).1))
    ∧ ((s.door d).state = .releasing → (s.door d).releaseTimer = .running 0 →
      ((s.door d).sm.level = true → exec (.releaseTimerExpiry d) s = .next (enterFault .sealStuck d s))
      ∧ ((s.door d).sm.level = false → (s.door d).tp.level = true →
        exec (.releaseTimerExpiry d) s = .next (s.setDoor d ((s.door d).enter .docked)))
      ∧ ((s.door d).sm.level = false → (s.door d).tp.level = false →
        exec (.releaseTimerExpiry d) s
          = .next (s.setDoor d { (s.door d).enter .vacant with trailerTemp := none }))))
  ∧ ∀ (cause : FaultCause) (d : Fin 24) (s : State),
    let raised := s.alarms.raise s.clock false .doorFault (.door d) none (some (BitVec.ofNat 16 cause.place))
    enterFault cause d s = (s.setDoor d
      { s.door d with
        state := .fault, permit := .none, closeMark := false, breachOrigin := false, faultCause := cause
        sealTimer := .stopped, breachTimer := .stopped, releaseTimer := .stopped, faultFlag := true
        faultUnposted := (s.door d).faultUnposted || !raised.2 }).setAlarms raised.1
      ∧ ((enterFault cause d s).door d).sb = false
      ∧ ((enterFault cause d s).door d).pr = (s.door d).override

/-- O32. An exposure tick that is due in RUN (R4, R104, R105, R106, R109), the Defrost Unit first or last: every live pallet's
exposure grows by its excess × E and stops at 4,294,967,295; its warned mark and then its over-budget mark are set where the
levels are reached, and with each mark, and so once, EXPOSURE_WARNING or EXPOSURE_EXCEEDED is raised with the pallet's tag and
its degree-minutes as detail, marked unposted where the raise is not entered; nothing else of a pallet changes, and a free
slot stays. The location temperature is that of the place (R62, R102), and while IN_TRANSIT that of the warmer end of the move
(R103). The tick is one marked due (log entry 1). A mark that is set stays set where a later raise is entered (log entry
4). -/
def Obligations.ExposureTickChargesPallets : Prop :=
  (∀ (first : Bool) (s : State), s.mode = .run → s.exposureDue = true →
    ∃ t, exec (.exposureTick first) s = .next t ∧ t.exposureDue = false
      ∧ t = (if first = true then forEach 256 chargePallet (accumulateAll { s with exposureDue := false })
          else accumulateAll (forEach 256 chargePallet { s with exposureDue := false }))
      ∧ (∀ q : Fin 256, { t.pallet q with warnUnposted := false, exceedUnposted := false }
        = if (s.pallet q).live = true then
            let x := s.pallet q
            let excess := s.locationTemp x - (s.classOf x).threshold
            let exposure :=
              if 0 < excess then min (x.exposure + excess.toNat * s.interval) 4294967295 else x.exposure
            { x with
              exposure := exposure
              warned := x.warned || decide ((s.classOf x).warn * 960 ≤ exposure)
              overBudget := x.overBudget || decide ((s.classOf x).budget * 960 ≤ exposure)
              warnUnposted := false, exceedUnposted := false }
          else { s.pallet q with warnUnposted := false, exceedUnposted := false })
      ∧ (∀ q : Fin 256,
        let raised := fun (before after unposted still : Bool) (code : AlarmCode) =>
          (before = after → still = unposted)
          ∧ (before = false → after = true → s.tableKept →
            (still = unposted → unposted = false → ∃ (i : Fin 48) (e : AlarmEntry), t.alarms.entries[i] = some e
              ∧ e.code = code ∧ e.subject = .pallet q ∧ e.tag = some (s.pallet q).tag
              ∧ e.detail = some (BitVec.ofNat 16 (min ((t.pallet q).exposure / 960) 65535)) ∧ e.lastRaised = s.clock
              ∧ e.condition = .active)
            ∧ (still ≠ unposted → unposted = false ∧ still = true
              ∧ (∀ i : Fin 48, i ≠ 0 → t.alarms.entries[i].isSome = true)
              ∧ ∀ (i : Fin 48) (e : AlarmEntry), t.alarms.entries[i] = some e → e.code = code → e.subject ≠ .pallet q))
        raised (s.pallet q).warned (t.pallet q).warned (s.pallet q).warnUnposted (t.pallet q).warnUnposted .exposureWarning
        ∧ raised (s.pallet q).overBudget (t.pallet q).overBudget (s.pallet q).exceedUnposted (t.pallet q).exceedUnposted
          .exposureExceeded))
  ∧ (∀ (q : Fin 256) (s : State), s.attentionKept → let x := s.pallet q
    let exposure := s.chargedExposure x
    let detail := some (BitVec.ofNat 16 (min (exposure / 960) 65535))
    let warns := decide ((s.classOf x).warn * 960 ≤ exposure) && !x.warned
    let exceeds := decide ((s.classOf x).budget * 960 ≤ exposure) && !x.overBudget
    let first := if warns = true then s.alarms.raise s.clock false .exposureWarning (.pallet q) (some x.tag) detail
      else (s.alarms, true)
    let second := if exceeds = true then first.1.raise s.clock false .exposureExceeded (.pallet q) (some x.tag) detail
      else (first.1, true)
    chargePallet q s = if x.live = true then
        (s.setPallet q
          { x with
            exposure := exposure, warned := x.warned || warns, overBudget := x.overBudget || exceeds
            warnUnposted := x.warnUnposted || !first.2, exceedUnposted := x.exceedUnposted || !second.2 }).setAlarms second.1
      else s)
  ∧ ∀ (s : State) (x : Pallet),
    let clamp := fun t : Int => max (-960) (min t 960)
    let lane := fun d : Fin 24 => clamp ((s.room (s.door d).dockRoom).filtered
      + match (s.door d).state with
        | .working => (s.door d).workPenalty
        | .breach => (s.door d).breachPenalty
        | _ => 0)
    let place := fun p : Place => match p with
      | .room r => clamp (s.room r).filtered
      | .lane d => lane d
      | .trailer d => match (s.door d).trailerTemp with
        | some t => clamp t
        | none => lane d
    (∀ p, x.location = .at p → s.locationTemp x = place p)
    ∧ (∀ h o d, x.location = .inTransit → x.handle = some h → (s.move h.slot).origin = some o →
      (s.move h.slot).destination = some d → s.locationTemp x = max (place o) (place d))

/-- O33. The same exposure tick adds frost (R68, R69, R70, R90): to each room that is neither HEATING nor DRIP its base rate
and the weights of its open doors, stopping at 65535, and sets the due flag, the forced mark and the forced flag where
threshold and hard limit are reached. With the due flag FROST_DUE and with the forced mark DEFROST_FORCED is raised, the frost
index as detail, marked unposted where the raise is not entered. Then the queue is evaluated once. The tick is one marked due
(log entry 1). A mark that is set stays set where a later raise is entered (log entry 4). -/
def Obligations.ExposureTickAddsFrost : Prop :=
  (∀ (first : Bool) (s : State), s.mode = .run → s.exposureDue = true →
    ∃ t, exec (.exposureTick first) s = .next t
      ∧ ∀ r : Fin 8, let x := s.defrost r; let y := t.defrost r
        (x.state = .heating ∨ x.state = .drip →
          y.frostIndex = x.frostIndex ∧ y.dueFlag = x.dueFlag ∧ y.forcedMark = x.forcedMark
            ∧ y.forcedFlag = x.forcedFlag ∧ y.dueUnposted = x.dueUnposted ∧ y.forcedUnposted = x.forcedUnposted)
        ∧ (x.state ≠ .heating → x.state ≠ .drip →
          y.frostIndex = min (x.frostIndex + (x.baseRate
            + ((List.finRange 24).map fun d =>
                if (s.door d).enabled = true ∧ (s.door d).dockRoom = r then
                  (if (s.door d).state = .working then (s.door d).workFrost
                    else if (s.door d).state = .breach then (s.door d).breachFrost else 0)
                else 0).sum)) 65535
          ∧ (y.dueFlag = true ↔ x.dueFlag = true ∨ x.threshold ≤ y.frostIndex)
          ∧ (y.forcedMark = true ↔ x.forcedMark = true ∨ x.hardLimit ≤ y.frostIndex)
          ∧ y.forcedFlag = (x.forcedFlag || (y.forcedMark && !x.forcedMark))
          ∧ (let raised := fun (new unposted still : Bool) (code : AlarmCode) =>
              (new = false → still = unposted)
              ∧ (new = true → s.tableKept →
                (still = unposted → unposted = false → ∃ (i : Fin 48) (e : AlarmEntry), t.alarms.entries[i] = some e
                  ∧ e.code = code ∧ e.subject = .room r ∧ e.detail = some (BitVec.ofNat 16 y.frostIndex)
                  ∧ e.lastRaised = s.clock ∧ e.condition = .active)
                ∧ (still ≠ unposted → unposted = false ∧ still = true
                  ∧ (∀ i : Fin 48, i ≠ 0 → t.alarms.entries[i].isSome = true)
                  ∧ ∀ (i : Fin 48) (e : AlarmEntry), t.alarms.entries[i] = some e → e.code = code → e.subject ≠ .room r))
            raised (y.dueFlag && !x.dueFlag) x.dueUnposted y.dueUnposted .frostDue
            ∧ raised (y.forcedMark && !x.forcedMark) x.forcedUnposted y.forcedUnposted .defrostForced)))
  ∧ (∀ s : State, accumulateAll s = evaluateQueue (forEach 8 accumulateFrost s))
  ∧ ∀ (r : Fin 8) (s : State), s.attentionKept → let x := s.defrost r
    let index := min (x.frostIndex + s.frostGain r) 65535
    let due := decide (x.threshold ≤ index) && !x.dueFlag
    let forced := decide (x.hardLimit ≤ index) && !x.forcedMark
    let first := if due = true then s.alarms.raise s.clock false .frostDue (.room r) none (some (BitVec.ofNat 16 index))
      else (s.alarms, true)
    let second := if forced = true then
        first.1.raise s.clock false .defrostForced (.room r) none (some (BitVec.ofNat 16 index))
      else (first.1, true)
    accumulateFrost r s = if x.state = .heating ∨ x.state = .drip then s
      else (s.setDefrost r
        { x with
          frostIndex := index, dueFlag := x.dueFlag || due, forcedMark := x.forcedMark || forced
          forcedFlag := x.forcedFlag || forced, dueUnposted := x.dueUnposted || !first.2
          forcedUnposted := x.forcedUnposted || !second.2 }).setAlarms second.1

/-! ### The converter and the rooms -/

/-- O34. A transaction completed with a code of 1 to 4094 (R13, R14): the channel is OK, its suspect count 0, its measured mark set, and
its temperature offset + floor((code − 2048) × gain / 1024), clamped; no other channel changes. A channel that was
failing returns its PROBE_FAULT and clears its unposted mark (R16); one that was not raises and returns nothing. -/
def Obligations.GoodCodeIsConverted : Prop :=
  ∀ (bits : Word16) (x : Transaction) (s : State), s.round = .converting x → x.discarded = false →
    bits.extractLsb' 0 12 ≠ (0 : BitVec 12) → bits.extractLsb' 0 12 ≠ (4095 : BitVec 12) →
    ∃ t, exec (.converterTransactionComplete bits) s = .next t
      ∧ t.channel x.channel
        = { s.channel x.channel with
            state := .ok, suspect := 0, lastCode := some (bits.extractLsb' 0 12), measured := true
            temperature := max (-960) (min ((s.channel x.channel).offset
              + Int.fdiv ((((bits.extractLsb' 0 12 : BitVec 12).toNat : Int) - 2048) * (s.channel x.channel).gain) 1024) 960)
            unposted := (s.channel x.channel).unposted && decide ((s.channel x.channel).state = .ok) }
      ∧ (∀ c, c ≠ x.channel → t.channel c = s.channel c)
      ∧ t = { s with channels := t.channels, round := t.round, alarms := t.alarms, attn := t.attn }
      ∧ ((s.channel x.channel).state = .ok → t.alarms = s.alarms ∧ t.attn = s.attn)
      ∧ ((s.channel x.channel).state ≠ .ok → t.alarms = s.alarms.return .probeFault (.probe x.channel) ∧ t.attentionKept)

/-- O35. A failed conversion (R13, R16): code 4095 is OPEN, code 0 SHORT, no data-ready NO_REPLY; the suspect count rises to
at most 3, at 3 the state takes the class, the temperature is held, the last code kept where none came; PROBE_FAULT is raised
exactly where the state changes, with the class as detail, and marked unposted where the raise is not entered; where it is
entered, a mark already set stays set (log entry 4). -/
def Obligations.FailedConversionCounts : Prop :=
  ∀ (bits : Word16) (x : Transaction) (s : State), s.round = .converting x → x.discarded = false →
    ∀ (cls : ChannelState) (c : Instr) (code : Option (BitVec 12)),
      (cls = .opened ∧ c = .converterTransactionComplete bits ∧ bits.extractLsb' 0 12 = (4095 : BitVec 12) ∧ code = some 4095
        ∨ cls = .short ∧ c = .converterTransactionComplete bits ∧ bits.extractLsb' 0 12 = (0 : BitVec 12) ∧ code = some 0
        ∨ cls = .noReply ∧ c = .converterReplyLimitExpiry ∧ code = (s.channel x.channel).lastCode) →
      ∃ t, exec c s = .next t
        ∧ { t.channel x.channel with unposted := false }
          = { s.channel x.channel with
              suspect := min ((s.channel x.channel).suspect + 1) 3, lastCode := code
              state := if 2 ≤ (s.channel x.channel).suspect then cls else (s.channel x.channel).state
              unposted := false }
        ∧ (∀ i, i ≠ x.channel → t.channel i = s.channel i)
        ∧ ((t.channel x.channel).state = (s.channel x.channel).state →
            t.alarms = s.alarms ∧ (t.channel x.channel).unposted = (s.channel x.channel).unposted)
        ∧ ((t.channel x.channel).state ≠ (s.channel x.channel).state →
            let raised := s.alarms.raise s.clock false .probeFault (.probe x.channel) none (some (BitVec.ofNat 16 cls.place))
            t.alarms = raised.1 ∧ t.attentionKept
              ∧ (t.channel x.channel).unposted = ((s.channel x.channel).unposted || !raised.2))
        ∧ t = { s with channels := t.channels, round := t.round, alarms := t.alarms, attn := t.attn }

/-- O36. The round goes on after each transaction (R8, R11): a discarded outcome changes no channel, and either way the next transaction
is of the next channel in ascending order that is not UNUSED, or the round is over after channel 31. -/
def Obligations.RoundGoesToTheNextChannel : Prop :=
  ∀ (x : Transaction) (c : Instr) (s : State), s.round = .converting x →
    (c = .converterReplyLimitExpiry ∨ ∃ bits, c = .converterTransactionComplete bits) →
    ∃ t, exec c s = .next t
      ∧ (x.discarded = true → t = { s with round := t.round })
      ∧ ((∀ i : Fin 32, x.channel < i → (s.channel i).role = .unused) → t.round = .ended)
      ∧ ∀ n : Fin 32, x.channel < n → (s.channel n).role ≠ .unused →
          (∀ i : Fin 32, x.channel < i → i < n → (s.channel i).role = .unused) →
          t.round = .converting ⟨n, BitVec.ofNat 8 (128 + n.val), false⟩

/-- O37. The vote (R20): the valid ROOM probes of a room are counted and voted; of one probe R is its temperature; of two the warmer; of three
the median; of four floor((a + b + 1) / 2) of the two middle values a ≤ b. The order in which the probes stand does not matter, and R
lies between the coldest and the warmest. -/
def Obligations.VoteOfOneToFourProbes : Prop :=
  (∀ (s : State) (r : Fin 8), s.probeTemps .room r = (List.finRange 32).filterMap fun c =>
    if (s.channel c).role = .room ∧ (s.channel c).room = r ∧ (s.channel c).measured = true ∧ (s.channel c).state = .ok
    then some (s.channel c).temperature else none)
  ∧ (∀ (x : Room) (temps : List Int), (x.voted temps).validCount = temps.length
    ∧ ∀ v, vote temps = some v → (x.voted temps).reading = v)
  ∧ (∀ a : Int, vote [a] = some a) ∧ (∀ a b : Int, vote [a, b] = some (max a b))
  ∧ (∀ a b c : Int, a ≤ b → b ≤ c → ∀ l, l.Perm [a, b, c] → vote l = some b)
  ∧ (∀ a b c d : Int, a ≤ b → b ≤ c → c ≤ d → ∀ l, l.Perm [a, b, c, d] → vote l = some (Int.fdiv (b + c + 1) 2))
  ∧ ∀ (l : List Int) (r : Int), vote l = some r → (∃ a ∈ l, a ≤ r) ∧ ∃ b ∈ l, r ≤ b

/-- O38. The smoothing step (R22) of a room that has voted before: d = R − F, floor((d × k + 128) / 256), or one sixteenth toward R where
that is 0 and d is not; F never passes R, reaches it with k = 256, stays exactly where d is 0, and stays within −960 to +960. -/
def Obligations.SmoothingStepStaysShortOfTheReading : Prop :=
  (∀ (x : Room) (temps : List Int) (v : Int), vote temps = some v → x.firstVote = true →
    (x.voted temps).filtered = x.filtered + smoothStep v x.filtered x.weight)
  ∧ ∀ (reading filtered : Int) (k : Nat), 1 ≤ k → k ≤ 256 →
    (∀ step : Int, step = Int.fdiv ((reading - filtered) * k + 128) 256 →
      (step = 0 → 0 < reading - filtered → smoothStep reading filtered k = 1)
      ∧ (step = 0 → reading - filtered < 0 → smoothStep reading filtered k = -1)
      ∧ (step ≠ 0 ∨ reading = filtered → smoothStep reading filtered k = step))
    ∧ (filtered ≤ reading → filtered ≤ filtered + smoothStep reading filtered k
        ∧ filtered + smoothStep reading filtered k ≤ reading)
    ∧ (reading ≤ filtered → reading ≤ filtered + smoothStep reading filtered k
        ∧ filtered + smoothStep reading filtered k ≤ filtered)
    ∧ (smoothStep reading filtered k = 0 ↔ reading = filtered)
    ∧ filtered + smoothStep reading filtered 256 = reading
    ∧ (-960 ≤ reading → reading ≤ 960 → -960 ≤ filtered → filtered ≤ 960 →
      -960 ≤ filtered + smoothStep reading filtered k ∧ filtered + smoothStep reading filtered k ≤ 960)

/-- O39. A round-complete event (R19, R20, R21, R22, R23, R31), the Defrost Unit first or last: in every room the valid ROOM
probes are counted and voted; the first vote sets F, a later one smooths it, and without a probe R and F are held. Limits,
delays and weight stay. As its last step each room raises ROOM_PROBES_LOST where its valid count is 0 and it has voted or the
part is in RUN, once while the flag is set, and returns it where the count is 1 or more; the flag is set with the raise,
entered or not, and a return clears the unposted mark (R31, R32). All this in the state where the rooms' expiries of earlier
second ticks have been taken (O41). The event is the end of a round not yet taken (log entry 1). A mark that is set stays set
where a later raise is entered (log entry 4). -/
def Obligations.RoundCompleteVotesEveryRoom : Prop :=
  (∀ (first : Bool) (before : State), before.round = .ended → let s := settleRooms { before with round := .idle }
    ∃ t, exec (.roundComplete first) before = .next t ∧ t.round = .idle
    ∧ ∀ r : Fin 8,
      let temps := (List.finRange 32).filterMap fun c =>
        if (s.channel c).role = .room ∧ (s.channel c).room = r ∧ (s.channel c).measured = true
            ∧ (s.channel c).state = .ok then some (s.channel c).temperature else none
      (t.room r).validCount = temps.length
        ∧ (vote temps = none → (t.room r).reading = (s.room r).reading ∧ (t.room r).filtered = (s.room r).filtered
          ∧ (t.room r).firstVote = (s.room r).firstVote)
        ∧ (∀ v, vote temps = some v → (t.room r).reading = v ∧ (t.room r).firstVote = true
          ∧ (t.room r).filtered = if (s.room r).firstVote = true
              then (s.room r).filtered + smoothStep v (s.room r).filtered (s.room r).weight else v)
        ∧ (t.room r).upper = (s.room r).upper ∧ (t.room r).lower = (s.room r).lower
        ∧ (t.room r).ceiling = (s.room r).ceiling ∧ (t.room r).effectiveUpper = (s.room r).effectiveUpper
        ∧ (t.room r).highDelay = (s.room r).highDelay ∧ (t.room r).lowDelay = (s.room r).lowDelay
        ∧ (t.room r).weight = (s.room r).weight ∧ (t.room r).kind = (s.room r).kind
        ∧ ((t.room r).lostFlag = true ↔ temps = []
          ∧ ((s.room r).lostFlag = true ∨ (s.room r).firstVote = true ∨ s.mode = .run))
        ∧ ((s.room r).lostFlag = false → (t.room r).lostFlag = true → s.tableKept → (t.room r).lostUnposted = true
          ∨ ∃ (i : Fin 48) (e : AlarmEntry), t.alarms.entries[i] = some e ∧ e.code = .roomProbesLost
            ∧ e.subject = .room r ∧ e.condition = .active)
        ∧ ((s.room r).lostFlag = true → (t.room r).lostFlag = false → (t.room r).lostUnposted = false
          ∧ (s.tableKept → ∀ (i : Fin 48) (e : AlarmEntry), t.alarms.entries[i] = some e → e.code = .roomProbesLost →
            e.subject = .room r → e.condition = .returned))
        ∧ ((t.room r).lostFlag = (s.room r).lostFlag → (t.room r).lostUnposted = (s.room r).lostUnposted))
  ∧ (∀ (first : Bool) (s : State), s.round = .ended →
    let rooms := forEach 8 fun r s =>
      evaluateLost r (evaluateRoom r (s.setRoom r ((s.room r).voted (s.probeTemps .room r))))
    exec (.roundComplete first) s = .next (if first = true then rooms (roundDefrost (settleRooms { s with round := .idle }))
      else roundDefrost (rooms (settleRooms { s with round := .idle }))))
  ∧ ∀ (r : Fin 8) (s : State), let x := s.room r
    let raised := s.alarms.raise s.clock false .roomProbesLost (.room r) none none
    (x.validCount = 0 → x.lostFlag = false → (x.firstVote = true ∨ s.mode = .run) → evaluateLost r s
      = (s.setRoom r { x with lostFlag := true, lostUnposted := x.lostUnposted || !raised.2 }).setAlarms raised.1)
    ∧ (0 < x.validCount → x.lostFlag = true → evaluateLost r s
      = (s.setRoom r { x with lostFlag := false, lostUnposted := false }).setAlarms
          (s.alarms.return .roomProbesLost (.room r)))
    ∧ (x.validCount = 0 → (x.lostFlag = true ∨ x.firstVote = false ∧ s.mode = .setup) → evaluateLost r s = s)
    ∧ (0 < x.validCount → x.lostFlag = false → evaluateLost r s = s)

/-- O40. The same event at the Defrost Unit in RUN (R82, R85): a HEATING room whose coldest valid COIL probe is at or above
its terminate temperature has its terminate mark set, no other mark changes, no room leaves HEATING, and a RECOVERY room is
IDLE with its cycle count one more exactly where F, before or after the Room Unit, is at or below the limit. With the mark,
and so once in a heating phase, TERMINATE_REACHED is posted with that coldest temperature as detail (R82). That the rooms go
in ascending order, each with both tests, is log entry 13. The event is the end of a round not yet taken (log entry 1). -/
def Obligations.RoundCompleteEndsRecovery : Prop :=
  (∀ (first : Bool) (before : State), before.round = .ended → before.mode = .run →
    let s := settleRooms { before with round := .idle }
    ∃ t, exec (.roundComplete first) before = .next t
    ∧ t = (if first = true then roundRooms (forEach 8 (fun r s => testRecovery r (testTerminate r s)) s)
        else forEach 8 (fun r s => testRecovery r (testTerminate r s)) (roundRooms s))
    ∧ ∀ r : Fin 8,
      let f := if first = true then (s.room r).filtered else (t.room r).filtered
      ((s.defrost r).state = .heating → (t.defrost r).state = .heating
        ∧ ((t.defrost r).terminateMark = true ↔ (s.defrost r).terminateMark = true
          ∨ ∃ v, coldest (s.probeTemps .coil r) = some v ∧ (s.defrost r).terminateTemp ≤ v))
      ∧ ((s.defrost r).state = .recovery → (s.room r).effectiveUpper < f → t.defrost r = s.defrost r)
      ∧ ((s.defrost r).state = .recovery → f ≤ (s.room r).effectiveUpper → t.defrost r
          = { s.defrost r with
              state := .idle, phaseTimer := .stopped, cycleCount := (s.defrost r).cycleCount + 1 })
      ∧ ((s.defrost r).state ≠ .heating → (s.defrost r).state ≠ .recovery → t.defrost r = s.defrost r))
  ∧ (∀ (r : Fin 8) (s : State) (v : Int), coldest (s.probeTemps .coil r) = some v →
    testTerminate r s
      = if (s.defrost r).state = .heating ∧ (s.defrost r).terminateMark = false ∧ (s.defrost r).terminateTemp ≤ v then
          (s.setDefrost r { s.defrost r with terminateMark := true }).setAlarms
            (s.alarms.raise s.clock false .terminateReached (.room r) none (some (BitVec.ofInt 16 v))).1
        else s)
  ∧ (∀ (r : Fin 8) (s : State), coldest (s.probeTemps .coil r) = none → testTerminate r s = s)
  ∧ ∀ (l : List Int) (v : Int), coldest l = some v ↔ v ∈ l ∧ ∀ a ∈ l, v ≤ a

/-- O41. The high and low timers' expiries where they are due (R27, R30, R32): ROOM_HIGH or ROOM_LOW is raised with F as
detail, the flag is set, the timer stops, and where the table is full the unposted mark is set. A timer of length n (R3) is
due after n second ticks, of length 0 after one, and not before; stopped it never is, and an expiry waits to be taken (log
entry 1). What stops or starts a timer comes after the expiries of the ticks before it (R3): a request, and the next second
tick, find the part as if every expiry had been commanded, in the order of log entry 30; a debounced change finds its door so
and a round-complete event the rooms; and then none is left to take. A mark that is set stays set where a later raise is
entered (log entry 4). -/
def Obligations.RoomTimerExpiries : Prop :=
  (∀ n k : Nat, (Timer.tick^[k] (Timer.start n)).due = true ↔ max n 1 ≤ k)
  ∧ (∀ k : Nat, Timer.tick^[k] .stopped = .stopped)
  ∧ (∀ (r : Fin 8) (s : State),
    ((s.room r).highTimer = .running 0 →
      let raised := s.alarms.raise s.clock false .roomHigh (.room r) none (some (BitVec.ofInt 16 (s.room r).filtered))
      exec (.highTimerExpiry r) s = .next ((s.setRoom r
        { s.room r with
          highTimer := .stopped, highFlag := true, highUnposted := (s.room r).highUnposted || !raised.2 }).setAlarms raised.1))
    ∧ ((s.room r).lowTimer = .running 0 →
      let raised := s.alarms.raise s.clock false .roomLow (.room r) none (some (BitVec.ofInt 16 (s.room r).filtered))
      exec (.lowTimerExpiry r) s = .next ((s.setRoom r
        { s.room r with
          lowTimer := .stopped, lowFlag := true, lowUnposted := (s.room r).lowUnposted || !raised.2 }).setAlarms raised.1)))
  ∧ (∀ s : State, (settleTimers s).settled ∧ (s.settled → settleTimers s = s))
  ∧ (∀ s : State,
    let high := ((List.finRange 8).map fun r => [Instr.highTimerExpiry r, .lowTimerExpiry r]).flatten
    let all := high
      ++ ((List.finRange 24).map fun d => [.sealTimerExpiry d, .breachGraceExpiry d, .releaseTimerExpiry d]).flatten
      ++ ((List.finRange 8).map fun r => [.grantHoldExpiry r, .heatingLimitExpiry r, .dripTimeExpiry r, .recoveryLimitExpiry r,
          .inhibitExpiry r]).flatten
      ++ ((List.finRange 32).map fun m => [.lapseTimerExpiry m, .transitTimerExpiry m]).flatten
    let taken := fun (l : List Instr) (t : State) =>
      Host.Core.run core l.length ({ s with pending := l } : State) = .next ({ t with pending := [] } : State)
    taken all (settleTimers s) ∧ taken high (settleRooms s)
      ∧ ∀ d : Fin 24, taken [.sealTimerExpiry d, .breachGraceExpiry d, .releaseTimerExpiry d] (settleDoor d s))
  ∧ ∀ s : State, (∀ (p : Port) (f : Frame), takeFrame p f s = takeFrame p f (settleTimers s))
    ∧ (∀ order, exec (.secondTick order) s = exec (.secondTick order) (settleTimers s))
    ∧ (∀ (d : Fin 24) (i : DoorInput), ((s.door d).input i).changeDue = true →
      exec (.debouncedChange d i) s = exec (.debouncedChange d i) (settleDoor d s)
        ∧ ((settleDoor d s).door d).expiryDue = false)
    ∧ ∀ first, s.round = .ended → exec (.roundComplete first) s = exec (.roundComplete first) (settleRooms s)

/-! ### Timers of the Defrost Unit and the Move Unit -/

/-- O42. The Defrost Unit's expiries where they are due (R74, R80, R81, R84, R86): a lapsed grant returns its load, posts
GRANT_LAPSED, gives the held permits and evaluates; the heating limit raises DEFROST_OVERRUN and the room stays HEATING; the
drip time leads to RECOVERY; the recovery limit to IDLE with RECOVERY_LATE and the full high delay (only for a room that has
voted: log entry 14); the inhibit to an evaluation. The permits given (R52) are those PENDING at the enabled doors of the
room: each becomes GIVEN, PR comes on, and OPEN_PERMIT_RELEASED is posted for it, in ascending door order; nothing else
changes. What is due is so by log entry 1. A mark that is set stays set where a later raise is entered (log entry 4). -/
def Obligations.DefrostTimerExpiries : Prop :=
  ∀ (r : Fin 8) (s : State),
    ((s.defrost r).state = .granted → (s.defrost r).phaseTimer = .running 0 →
      exec (.grantHoldExpiry r) s = .next (evaluateQueue (givePermits r
        (({ s with remainingCapacity := s.remainingCapacity + (s.defrost r).heaterLoad }.setDefrost r
          { s.defrost r with state := .idle, phaseTimer := .stopped, forcedCycle := false }).setAlarms
            (s.alarms.raise s.clock false .grantLapsed (.room r) none none).1))))
    ∧ ((s.defrost r).state = .heating → (s.defrost r).phaseTimer = .running 0 →
      let raised := s.alarms.raise s.clock false .defrostOverrun (.room r) none none
      exec (.heatingLimitExpiry r) s = .next ((s.setDefrost r
        { s.defrost r with
          phaseTimer := .stopped, overrunFlag := true
          overrunUnposted := (s.defrost r).overrunUnposted || !raised.2 }).setAlarms raised.1))
    ∧ ((s.defrost r).state = .drip → (s.defrost r).phaseTimer = .running 0 →
      exec (.dripTimeExpiry r) s = .next (givePermits r (s.setDefrost r
        { s.defrost r with
          state := .recovery, forcedCycle := false, phaseTimer := .start (s.defrost r).recoveryLimit })))
    ∧ ((s.defrost r).state = .recovery → (s.defrost r).phaseTimer = .running 0 →
      exec (.recoveryLimitExpiry r) s = .next (((s.setDefrost r
        { s.defrost r with
          state := .idle, phaseTimer := .stopped, cycleCount := (s.defrost r).cycleCount + 1 }).setAlarms
            (s.alarms.raise s.clock false .recoveryLate (.room r) none
              (some (BitVec.ofInt 16 (s.room r).filtered))).1).setRoom r
        { s.room r with
          highTimer :=
            if (s.room r).effectiveUpper < (s.room r).filtered ∧ (s.room r).highFlag = false ∧ (s.room r).firstVote = true
            then .start (s.room r).highDelay else .stopped }))
    ∧ ((s.defrost r).inhibitDue = true →
      exec (.inhibitExpiry r) s = .next (evaluateQueue (s.setDefrost r { s.defrost r with inhibitDue := false })))
    ∧ (let t := givePermits r s
      let held := (List.finRange 24).filter fun d =>
        decide ((s.door d).enabled = true ∧ (s.door d).dockRoom = r ∧ (s.door d).permit = .pending)
      (∀ d : Fin 24, t.door d = if d ∈ held then Door.driven { s.door d with permit := .given } s.lines else s.door d)
        ∧ (s.doorsKept → ∀ d ∈ held, (t.door d).pr = true)
        ∧ t.alarms = held.foldl (fun a d => (a.raise s.clock false .openPermitReleased (.door d) none none).1) s.alarms
        ∧ (s.attentionKept → t.attentionKept)
        ∧ t = { s with doors := t.doors, alarms := t.alarms, attn := t.attn })

/-- O43. The Move Unit's expiries where they are due (R121, R124): a PERMITTED move lapses with a MOVE_LAPSED record, its
pallet where it stands, and then the MOVE_LAPSED notice (log entry 10); an IN_TRANSIT one raises MOVE_OVERDUE with its handle,
stays live, and marks the raise unposted where the table is full. What is due is so by log entry 1. A mark that is set stays
set where a later raise is entered (log entry 4). -/
def Obligations.MoveTimerExpiries : Prop :=
  ∀ (m : Fin 32) (s : State),
    ((s.move m).state = .permitted → (s.move m).lapseTimer = .running 0 →
      exec (.lapseTimerExpiry m) s = .next
        ((endMove .moveLapsed ⟨false, false, false⟩ none m s).post .moveLapsed (.move m)
          (some (((s.move m).generation ++ BitVec.ofNat 5 m.val : Byte).setWidth 16))))
    ∧ ((s.move m).state = .inTransit → (s.move m).transitTimer = .running 0 →
      let raised := s.alarms.raise s.clock false .moveOverdue (.move m) none
        (some (((s.move m).generation ++ BitVec.ofNat 5 m.val : Byte).setWidth 16))
      exec (.transitTimerExpiry m) s = .next ((s.setMove m
        { s.move m with
          transitTimer := .stopped, overdueFlag := true
          overdueUnposted := (s.move m).overdueUnposted || !raised.2 }).setAlarms raised.1))

/-! ### The arbiter, the end of a move, and the table -/

/-- O44. The grant arbiter (R76 to R79): forced entries by age, then the others by age; each entry's state is set from the block
tests, it waits where the bar is set, sets the bar where its load does not fit, is skipped where it is unforced and blocked,
and is granted otherwise; a whole evaluation grants no unforced entry that is blocked. -/
def Obligations.ArbiterTakesEntriesInOrder : Prop :=
  (∀ s : State, evaluateQueue s
      = ((s.defrostQueue.filter (fun r => (s.defrost r).forcedMark)
          ++ s.defrostQueue.filter (fun r => !(s.defrost r).forcedMark)).foldl arbiterTurn (s, false)).1)
  ∧ (∀ (s : State) (r : Fin 8) (bar : Bool),
    let before := if (s.defrost r).forcedMark = false ∧ s.movesBlock r = true ∧ (s.defrost r).inhibit = 0
        ∧ s.budgetBlocks r = false then DefrostState.draining else .queued
    let waits := s.setDefrost r { s.defrost r with state := before }
    (bar = true → arbiterTurn (s, bar) r = (waits, true))
    ∧ (bar = false → s.remainingCapacity < (s.defrost r).heaterLoad → arbiterTurn (s, bar) r = (waits, true))
    ∧ (bar = false → (s.defrost r).heaterLoad ≤ s.remainingCapacity → (s.defrost r).forcedMark = false →
        (0 < (s.defrost r).inhibit ∨ s.budgetBlocks r = true ∨ s.movesBlock r = true) →
        arbiterTurn (s, bar) r = (waits, false))
    ∧ (bar = false → (s.defrost r).heaterLoad ≤ s.remainingCapacity →
        ((s.defrost r).forcedMark = true
          ∨ (s.defrost r).inhibit = 0 ∧ s.budgetBlocks r = false ∧ s.movesBlock r = false) →
        arbiterTurn (s, bar) r
          = (({ s with
              remainingCapacity := s.remainingCapacity - (s.defrost r).heaterLoad
              defrostQueue := s.defrostQueue.erase r }.setDefrost r
              { s.defrost r with
                state := .granted, forcedCycle := (s.defrost r).forcedMark
                phaseTimer := .start (s.defrost r).grantHold }).setAlarms
              (s.alarms.raise s.clock false .defrostGranted (.room r) none (some (s.defrost r).cycleCount)).1, false)))
  ∧ (∀ (s : State) (r : Fin 8),
    (s.movesBlock r = true ↔ ∃ m : Fin 32, (s.move m).live = true
      ∧ ∃ p, (s.move m).destination = some p ∧ s.mapsTo p = some r)
    ∧ (s.budgetBlocks r = true ↔ ∃ q : Fin 256, (s.pallet q).live = true
      ∧ (∃ p, (s.pallet q).location = .at p ∧ s.mapsTo p = some r)
      ∧ (s.classOf (s.pallet q)).budget * 960 - (s.pallet q).exposure < (s.classOf (s.pallet q)).defrostReserve * 960))
  ∧ ∀ (s : State) (r : Fin 8), ((evaluateQueue s).defrost r).state = .granted → (s.defrost r).state ≠ .granted →
    r ∈ s.defrostQueue ∧ ((s.defrost r).forcedMark = true
      ∨ (s.defrost r).inhibit = 0 ∧ s.budgetBlocks r = false ∧ s.movesBlock r = false)

/-- O45. An end of a live move (R119, R134, R135, R139): its pallet is settled, where it stands or in a live state at a place
(no end of a move frees its pallet), one record is written, with the JOURNAL_HIGH test, MOVE_OVERDUE is returned where the
overdue flag is set, the entry is freed with its generation one more, and then, as the fifth step, the queue is evaluated in
the state with the entry freed; no other pallet or move changes. A mark that is set stays set where a later raise is entered
(log entry 4). -/
def Obligations.EndOfAMoveInOrder : Prop :=
  ∀ (kind : RecordKind) (f : EndFlags) (settle : Option (PalletState × Place)) (m : Fin 32) (s : State), s.recordsKept →
    s.tableKept → (∀ x, settle = some x → x.1 ≠ .free) → (s.move m).live = true →
    ∃ q : Fin 256, (s.pallet q).live = true ∧ (s.pallet q).tag = (s.move m).tag ∧
      let t := endMove kind f settle m s
      let x := s.pallet q
      let y : Pallet := match settle with
        | none => { x with handle := none, pickState := none }
        | some (st, p) => { x with handle := none, pickState := none, state := st, location := .at p }
      (∀ q', t.pallet q' = if q' = q then y else s.pallet q')
      ∧ (∀ m', t.move m' = if m' = m then .empty ((s.move m).generation + 1) else s.move m')
      ∧ t.journal.records = s.journal.records
          ++ [⟨s.journal.next, kind, x.tag, x.cls, (s.move m).origin, y.location,
              (s.move m).pickTime.getD (s.move m).permitTime, s.clock, min (x.exposure / 960) 65535,
              ⟨x.overBudget, f.diverted, f.trailerLost, f.restart⟩⟩]
      ∧ t.journal.held = s.journal.held + 1 ∧ t.journal.next = s.journal.next + 1
      ∧ t.journal.threshold = s.journal.threshold
      ∧ (t.journal.highFlag = true ↔ s.journal.highFlag = true ∨ s.journal.threshold ≤ s.journal.held + 1)
      ∧ ((s.move m).overdueFlag = true → ∀ (i : Fin 48) (e : AlarmEntry), t.alarms.entries[i] = some e →
          e.code = .moveOverdue → e.subject = .move m → e.condition = .returned)
      ∧ ∃ freed, t = evaluateQueue freed
        ∧ (let raised := s.alarms.raise s.clock false .journalHigh .none none (some (BitVec.ofNat 16 (s.journal.held + 1)))
          let full := s.journal.highFlag = false ∧ s.journal.threshold ≤ s.journal.held + 1
          let written := if full then raised.1 else s.alarms
          t.journal.highUnposted = (if full then s.journal.highUnposted || !raised.2 else s.journal.highUnposted)
          ∧ freed = { s with
            pallets := t.pallets, moves := t.moves, journal := t.journal, attn := freed.attn
            alarms := if (s.move m).overdueFlag = true then written.return .moveOverdue (.move m) else written })

/-- O46. A raise (R144, R145): it updates the entry its pair occupies and moves it to the end of the raise order; a code but
TABLE_FULL with none occupies the lowest free entry among 1 to 47, PENDING for exactly the ports that route the code, and a
notice routed to no port is freed at once; with no entry free it is not entered; and the table stays in order. -/
def Obligations.RaiseOccupiesOrReRaises : Prop :=
  ∀ (t : AlarmTable) (now : Word32) (retry : Bool) (code : AlarmCode) (subject : Subject) (tag : Option Word32)
    (detail : Option Word16), t.kept →
    let raised := t.raise now retry code subject tag detail
    (code ≠ .tableFull → raised.1.kept)
    ∧ (∀ (i : Fin 48) (e : AlarmEntry), t.entries[i] = some e → e.code = code → e.subject = subject →
      raised = ({ t with
        entries := t.entries.set i (some
          { e with
            repeatCount := min (e.repeatCount + 1) 255, lastRaised := now, detail := detail, tag := tag
            condition := if code.isNotice = true then .returned else .active
            delivery := .of fun p => match e.delivery.get p, (t.ports.get p).routes[code.place] with
              | .notRouted, true => .pending
              | .done, true => .pending
              | d, _ => d })
        order := t.order.erase i ++ [i] }, true))
    ∧ (code ≠ .tableFull → (∀ (i : Fin 48) (e : AlarmEntry), t.entries[i] = some e → e.code = code → e.subject ≠ subject) →
      (∀ i : Fin 48, i ≠ 0 → t.entries[i] = none → (∀ j : Fin 48, j ≠ 0 → j < i → t.entries[j].isSome = true) →
        raised.2 = true
        ∧ (code.isNotice = false ∨ (∃ p, (t.ports.get p).routes[code.place] = true) →
          raised.1 = { t with
            entries := t.entries.set i (some
              ⟨code, subject, tag, detail, now, now, 0, if code.isNotice = true then .returned else .active,
                .of fun p => if (t.ports.get p).routes[code.place] = true then .pending else .notRouted⟩)
            order := t.order ++ [i] })
        ∧ (code.isNotice = true → (∀ p, (t.ports.get p).routes[code.place] = false) →
          raised.1.entries[i] = none ∧ ∀ j : Fin 48, j ≠ 0 → raised.1.entries[j] = t.entries[j]))
      ∧ ((∀ i : Fin 48, i ≠ 0 → t.entries[i].isSome = true) → raised.2 = false))

/-- O47. Returns, freeing and the full table (R146, R147, R148): a return makes an ACTIVE entry RETURNED and frees it where no port
has it PENDING or IN_SERVICE, which returns an ACTIVE TABLE_FULL; of no other pair does it change the code's entry; a raise
that is not entered counts in TABLE_FULL's detail, unless it is a retry. -/
def Obligations.ReturnsFreeAndFullTablesCount : Prop :=
  ∀ (t : AlarmTable) (code : AlarmCode) (subject : Subject), t.kept → code ≠ .tableFull →
    ((∀ (i : Fin 48) (e : AlarmEntry), t.entries[i] = some e → e.code = code → e.subject ≠ subject) →
      t.return code subject = t
      ∧ ((∀ i : Fin 48, i ≠ 0 → t.entries[i].isSome = true) → ∀ (now : Word32) (tag : Option Word32) (detail : Option Word16),
        (t.raise now true code subject tag detail).1 = t
        ∧ (t.entries[(0 : Fin 48)] = none → (t.raise now false code subject tag detail).1 = { t with
            entries := t.entries.set (0 : Fin 48) (some ⟨.tableFull, .none, none, some 1, now, now, 0, .active,
              .of fun p => if (t.ports.get p).routes[(0 : Fin 24)] = true then .pending else .notRouted⟩)
            order := t.order ++ [0] })
        ∧ ∀ (e : AlarmEntry) (n : Word16), t.entries[(0 : Fin 48)] = some e → e.detail = some n →
          ∃ e', (t.raise now false code subject tag detail).1.entries[(0 : Fin 48)] = some e'
            ∧ e'.detail = some (if n = 65535 then 65535 else n + 1) ∧ e'.condition = .active
            ∧ e'.repeatCount = min (e.repeatCount + 1) 255 ∧ e'.firstRaised = e.firstRaised ∧ e'.lastRaised = now))
    ∧ (∀ (i : Fin 48) (e : AlarmEntry), t.entries[i] = some e → e.code = code → e.subject = subject →
      (e.condition = .returned → t.return code subject = t)
      ∧ (e.condition = .active → (∃ p, e.delivery.get p = .pending ∨ e.delivery.get p = .inService) →
        t.return code subject = { t with entries := t.entries.set i (some { e with condition := .returned }) })
      ∧ (e.condition = .active → (∀ p, e.delivery.get p ≠ .pending ∧ e.delivery.get p ≠ .inService) →
        (t.return code subject).entries[i] = none ∧ i ∉ (t.return code subject).order
        ∧ (∀ j : Fin 48, j ≠ i → j ≠ 0 → (t.return code subject).entries[j] = t.entries[j])
        ∧ ∀ e0 : AlarmEntry, t.entries[(0 : Fin 48)] = some e0 →
          ((∀ p, e0.delivery.get p ≠ .pending ∧ e0.delivery.get p ≠ .inService) →
            (t.return code subject).entries[(0 : Fin 48)] = none)
          ∧ ((∃ p, e0.delivery.get p = .pending ∨ e0.delivery.get p = .inService) →
            (t.return code subject).entries[(0 : Fin 48)] = some { e0 with condition := .returned })))

/-! ### Requests of any port -/

/-- O48. The reads change nothing but the port (R6, R10, R33, R100, R167, R171): READ CLOCK, READ ROOM, READ PROBE, READ PALLET and
READ STATUS answer the records as they stand; an index, tag or part out of range is refused with BAD_ARGUMENT, an unknown
tag with NOT_FOUND. The bytes of READ STATUS are R171's: 43, 24 and 12, while the queue and the port's stack are in order. The widths
and orders of log entry 7, the pick state's 0, 1 and 2 among them, and the count 0 of a stopped timer (log entry 8) are the
model's. -/
def Obligations.ReadsReportTheRecords : Prop :=
  ∀ (p : Port) (tag : Byte) (s : State), s.ready p →
    exec (.readClock p tag) s = .next (serve p (Request.readClock.frame tag)
      ⟨s, .ok, bytes32 s.clock ++ value8 s.mode.place ++ value8 s.interval ++ value16 s.phase⟩)
    ∧ (∀ r : Fin 8, let x := s.room r
      exec (.readRoom p tag (BitVec.ofNat 8 r)) s = .next (serve p ((Request.readRoom (BitVec.ofNat 8 r)).frame tag)
        ⟨s, .ok, value8 x.kind.place ++ value16 x.weight ++ valueTemp x.reading ++ valueTemp x.filtered
          ++ value8 x.validCount ++ valueFlag x.firstVote ++ valueTemp x.upper ++ valueTemp x.lower
          ++ valueOptional 2 (x.ceiling.map valueTemp) ++ valueTemp x.effectiveUpper ++ value16 x.highDelay
          ++ value16 x.lowDelay ++ valueTimer x.highTimer ++ valueTimer x.lowTimer ++ valueFlag x.highFlag
          ++ valueFlag x.lowFlag ++ valueFlag x.lostFlag ++ value8 (s.defrost r).state.place⟩))
    ∧ (∀ room : Byte, 8 ≤ room.toNat → exec (.readRoom p tag room) s
        = .next (serve p ((Request.readRoom room).frame tag) ⟨s, .badArgument, []⟩))
    ∧ (∀ c : Fin 32, let x := s.channel c
      exec (.readProbe p tag (BitVec.ofNat 8 c)) s = .next (serve p ((Request.readProbe (BitVec.ofNat 8 c)).frame tag)
        ⟨s, .ok, value8 x.role.place ++ value8 x.room ++ value16 x.gain ++ valueTemp x.offset ++ value8 x.state.place
          ++ value8 x.suspect ++ valueOptional 2 (x.lastCode.map fun code => value16 code.toNat)
          ++ valueTemp x.temperature ++ valueFlag x.measured⟩))
    ∧ (∀ channel : Byte, 32 ≤ channel.toNat → exec (.readProbe p tag channel) s
        = .next (serve p ((Request.readProbe channel).frame tag) ⟨s, .badArgument, []⟩))
    ∧ (s.tagsKept → ∀ q : Fin 256, (s.pallet q).live = true → let x := s.pallet q
      exec (.readPallet p tag x.tag) s = .next (serve p ((Request.readPallet x.tag).frame tag)
        ⟨s, .ok, bytes32 x.tag ++ value8 q ++ value8 x.cls ++ value8 x.state.place ++ [x.location.byte]
          ++ valueOptional 1 (x.pickState.map fun p => value8 p.pickPlace) ++ valueOptional 1 (x.handle.map fun h => [h.byte])
          ++ bytes32 x.entryTime ++ value32 x.exposure ++ value16 (min (x.exposure / 960) 65535)
          ++ value16 (s.classOf x).budget ++ value16 (((s.classOf x).budget * 960 - x.exposure) / 960)
          ++ valueFlag x.warned ++ valueFlag x.overBudget ++ valueTemp (s.locationTemp x)⟩))
    ∧ (∀ pallet : Word32, (∀ q : Fin 256, (s.pallet q).live = true → (s.pallet q).tag ≠ pallet) →
      exec (.readPallet p tag pallet) s = .next (serve p ((Request.readPallet pallet).frame tag)
        ⟨s, if pallet = 0 then .badArgument else .notFound, []⟩))
    ∧ PalletState.inbound.pickPlace = 0 ∧ PalletState.placed.pickPlace = 1 ∧ PalletState.aboard.pickPlace = 2
    ∧ (let queue := s.defrostQueue.filter (fun r => (s.defrost r).forcedMark)
          ++ s.defrostQueue.filter fun r => !(s.defrost r).forcedMark
      let values := value8 s.heaterCapacity ++ value8 s.remainingCapacity ++ value8 s.defrostQueue.length
        ++ (queue.map fun r => BitVec.ofNat 8 (r.val + (if (s.defrost r).state = .draining then 8 else 0)
          + (if (s.defrost r).forcedMark = true then 16 else 0)))
        ++ List.replicate (8 - s.defrostQueue.length) 255
        ++ ((List.finRange 8).map fun r => value8 (s.defrost r).state.place ++ value16 (s.defrost r).frostIndex
          ++ value8 ((if (s.defrost r).forcedMark = true then 1 else 0) + (if 0 < (s.defrost r).inhibit then 2 else 0)
            + 4 * (s.defrost r).lastTermination.place)).flatten
      exec (.readStatus p tag 0) s = .next (serve p ((Request.readStatus 0).frame tag) ⟨s, .ok, values⟩)
        ∧ (s.defrostQueue.length ≤ 8 → values.length = 43))
    ∧ (let live := fun q => (s.pallet q).live
      let values := value16 (countWhere 256 live) ++ value16 (countWhere 256 fun q => live q && (s.pallet q).warned)
        ++ value16 (countWhere 256 fun q => live q && (s.pallet q).overBudget)
        ++ value8 (countWhere 32 fun m => decide ((s.move m).state = .permitted))
        ++ value8 (countWhere 32 fun m => decide ((s.move m).state = .inTransit))
        ++ value8 (countWhere 32 fun m => (s.move m).overdueFlag) ++ value16 s.permitLimit ++ value16 s.transitLimit
        ++ value16 s.journal.held ++ bytes32 s.journal.next
        ++ value16 (s.journal.held + countWhere 256 live + countWhere 32 fun m => (s.move m).live)
        ++ value16 s.journal.threshold ++ valueFlag s.journal.highFlag
      exec (.readStatus p tag 1) s = .next (serve p ((Request.readStatus 1).frame tag) ⟨s, .ok, values⟩)
        ∧ values.length = 24)
    ∧ (let stack := (s.alarms.ports.get p).stack
      let values := value8 (countWhere 48 fun i => decide (i ≠ 0) && s.alarms.entries[i].isSome)
        ++ (match s.alarms.entries[(0 : Fin 48)] with
          | some e => [1, BitVec.ofNat 8 e.condition.place] ++ bytes16 (e.detail.getD 0)
          | none => [0, 0, 0, 0])
        ++ value8 (s.alarms.ports.get p).floor ++ value8 stack.length
        ++ (stack.reverse.map fun i => BitVec.ofNat 8 (s.alarms.urgencyOf i)) ++ List.replicate (3 - stack.length) 255
        ++ value8 (countWhere 48 fun i => s.alarms.entries[i].any fun e => decide (e.delivery.get p = .pending))
        ++ value8 (countWhere 48 fun i => s.alarms.presentable p i)
      exec (.readStatus p tag 2) s = .next (serve p ((Request.readStatus 2).frame tag) ⟨s, .ok, values⟩)
        ∧ (s.tableKept → values.length = 12))
    ∧ ∀ part : Byte, 3 ≤ part.toNat → exec (.readStatus p tag part) s
        = .next (serve p ((Request.readStatus part).frame tag) ⟨s, .badArgument, []⟩)

/-- O49. Snapshots and READ DOOR (R34, R35, R40, R63): a latch copies all eight rooms and the clock for the port, and is KEPT while its
snapshot is UNREAD; each part read sets its mark, and with no snapshot the answer is NONE; READ DOOR shows the values of R63 and then
clears the six edge flags. That a NONE carries no values, the order of the edge flags, and the bytes of the debounced levels (1 active, 0 inactive: the model's
choice) are log entry 7's; the count 0 of a stopped
timer is log entry 8. -/
def Obligations.LatchesAndClearingReads : Prop :=
  ∀ (p : Port) (tag : Byte) (s : State), s.ready p →
    (((s.port p).snapshot = none ∨ ∃ x, (s.port p).snapshot = some x ∧ x.readLow = true ∧ x.readHigh = true) →
      exec (.latchRooms p tag) s = .next (serve p (Request.latchRooms.frame tag)
        ⟨s.setPort p { s.port p with snapshot := some s.takeSnapshot }, .ok, []⟩))
    ∧ s.takeSnapshot.clock = s.clock ∧ s.takeSnapshot.readLow = false ∧ s.takeSnapshot.readHigh = false
    ∧ (∀ r : Fin 8, s.takeSnapshot.rooms[r] = ⟨(s.room r).filtered, (s.room r).reading, (s.room r).validCount,
        (s.room r).effectiveUpper, (s.defrost r).state⟩)
    ∧ (∀ x, (s.port p).snapshot = some x → (x.readLow = false ∨ x.readHigh = false) →
      exec (.latchRooms p tag) s = .next (serve p (Request.latchRooms.frame tag) ⟨s, .kept, []⟩))
    ∧ (∀ x, (s.port p).snapshot = some x →
      exec (.readRoomSnapshot p tag 0) s = .next (serve p ((Request.readRoomSnapshot 0).frame tag)
        ⟨s.setPort p { s.port p with snapshot := some { x with readLow := true } }, .ok,
          value8 0 ++ value8 (if x.readHigh = true then 2 else 1) ++ bytes32 x.clock ++ x.rooms[0].bytes ++ x.rooms[1].bytes
            ++ x.rooms[2].bytes ++ x.rooms[3].bytes⟩)
      ∧ exec (.readRoomSnapshot p tag 1) s = .next (serve p ((Request.readRoomSnapshot 1).frame tag)
        ⟨s.setPort p { s.port p with snapshot := some { x with readHigh := true } }, .ok,
          value8 1 ++ value8 (if x.readLow = true then 2 else 1) ++ bytes32 x.clock ++ x.rooms[4].bytes ++ x.rooms[5].bytes
            ++ x.rooms[6].bytes ++ x.rooms[7].bytes⟩))
    ∧ (∀ part : Byte, 2 ≤ part.toNat → exec (.readRoomSnapshot p tag part) s
        = .next (serve p ((Request.readRoomSnapshot part).frame tag) ⟨s, .badArgument, []⟩))
    ∧ ((s.port p).snapshot = none → ∀ part : Byte, part.toNat < 2 → exec (.readRoomSnapshot p tag part) s
        = .next (serve p ((Request.readRoomSnapshot part).frame tag) ⟨s, .none, []⟩))
    ∧ (∀ d : Fin 24, exec (.readDoor p tag (BitVec.ofNat 8 d)) s
        = .next (serve p ((Request.readDoor (BitVec.ofNat 8 d)).frame tag)
          ⟨s.setDoor d
            { s.door d with
              tp := { (s.door d).tp with becameActive := false, becameInactive := false }
              pc := { (s.door d).pc with becameActive := false, becameInactive := false }
              sm := { (s.door d).sm with becameActive := false, becameInactive := false } }, .ok,
            let x := s.door d
            let timer := fun (t : Timer) => match t with
              | .stopped => [0, 0, 0]
              | .running n => [1] ++ value16 n
            valueFlag x.enabled ++ value8 x.dockRoom ++ value8 x.state.place ++ value8 x.permit.place
              ++ valueFlag x.override ++ valueFlag x.closeMark ++ value8 x.faultCause.place
              ++ valueFlag x.tp.level ++ valueFlag x.pc.level ++ valueFlag x.sm.level ++ valueFlag x.sb ++ valueFlag x.pr
              ++ valueFlag x.tp.becameActive ++ valueFlag x.tp.becameInactive ++ valueFlag x.pc.becameActive
              ++ valueFlag x.pc.becameInactive ++ valueFlag x.sm.becameActive ++ valueFlag x.sm.becameInactive
              ++ timer x.sealTimer ++ timer x.breachTimer ++ timer x.releaseTimer
              ++ (match x.trailerTemp with
                | some temp => [1] ++ valueTemp temp
                | none => [0, 0, 0])
              ++ valueTemp (max (-960) (min ((s.room x.dockRoom).filtered
                + if x.state = .working then x.workPenalty else if x.state = .breach then x.breachPenalty else 0) 960))
              ++ valueFlag x.breachFlag ++ valueFlag x.faultFlag⟩))
    ∧ ∀ door : Byte, 24 ≤ door.toNat → exec (.readDoor p tag door) s
        = .next (serve p ((Request.readDoor door).frame tag) ⟨s, .badArgument, []⟩)

/-- O50. The alarm requests (R149 to R152): an entry is presentable to a port exactly while it is PENDING for it, of a class at or below
its floor and strictly below that of the top of its stack (R150); TAKE ALARM takes the presentable entry of the lowest class, and of that class the earliest
in the raise order, onto the port's stack; END ALARM pops the top entry, DONE for the port, and tests it for freeing;
routes and floor are the requesting port's own. -/
def Obligations.AlarmRequestsServeOnePort : Prop :=
  ∀ (p : Port) (tag : Byte) (s : State), s.ready p →
    ((∀ i : Fin 48, s.alarms.presentable p i = false) →
      exec (.takeAlarm p tag) s = .next (serve p (Request.takeAlarm.frame tag) ⟨s, .none, []⟩))
    ∧ (∀ (i : Fin 48) (e : AlarmEntry), s.alarms.kept → s.alarms.entries[i] = some e → s.alarms.presentable p i = true →
      (∀ j : Fin 48, s.alarms.presentable p j = true → s.alarms.urgencyOf i < s.alarms.urgencyOf j
        ∨ s.alarms.urgencyOf i = s.alarms.urgencyOf j ∧ s.alarms.order.idxOf i ≤ s.alarms.order.idxOf j) →
      exec (.takeAlarm p tag) s = .next (serve p (Request.takeAlarm.frame tag)
        ⟨s.setAlarms (AlarmTable.setPortAlarms
            { s.alarms with entries := s.alarms.entries.set i (some { e with delivery := e.delivery.set p .inService }) } p
            { s.alarms.ports.get p with stack := i :: (s.alarms.ports.get p).stack }),
          .ok, entryValues i e ++ value8 ((s.alarms.ports.get p).stack.length + 1)⟩))
    ∧ (∀ i : Fin 48, s.alarms.presentable p i = true ↔ ∃ e, s.alarms.entries[i] = some e ∧ e.delivery.get p = .pending
      ∧ e.code.urgency ≤ (s.alarms.ports.get p).floor
      ∧ ∀ top ∈ (s.alarms.ports.get p).stack.head?, e.code.urgency < s.alarms.urgencyOf top)
    ∧ (∀ (i : Fin 48) (e : AlarmEntry), s.alarms.entries[i] = some e → s.alarms.urgencyOf i = e.code.urgency)
    ∧ ((s.alarms.ports.get p).stack = [] →
      exec (.endAlarm p tag) s = .next (serve p (Request.endAlarm.frame tag) ⟨s, .notFound, []⟩))
    ∧ (∀ (i : Fin 48) (rest : List (Fin 48)) (e : AlarmEntry), (s.alarms.ports.get p).stack = i :: rest →
      s.alarms.entries[i] = some e →
      exec (.endAlarm p tag) s = .next (serve p (Request.endAlarm.frame tag)
        ⟨s.setAlarms (AlarmTable.testFree (AlarmTable.setPortAlarms
            { s.alarms with entries := s.alarms.entries.set i (some { e with delivery := e.delivery.set p .done }) } p
            { s.alarms.ports.get p with stack := rest }) i), .ok,
          value8 i ++ value8 e.code.place ++ e.subject.bytes ++ value8 e.repeatCount ++ value8 e.condition.place
            ++ value8 rest.length⟩))
    ∧ (∀ (code : Fin 24) (routed : Bool),
      exec (.setAlarmRoutes p tag (BitVec.ofNat 8 code) (BitVec.ofNat 8 routed.toNat)) s = .next (serve p
        ((Request.setAlarmRoutes (BitVec.ofNat 8 code) (BitVec.ofNat 8 routed.toNat)).frame tag)
        ⟨s.setAlarms (s.alarms.setPortAlarms p
          { s.alarms.ports.get p with routes := (s.alarms.ports.get p).routes.set code routed }), .ok, []⟩))
    ∧ (∀ code routed : Byte, 24 ≤ code.toNat ∨ 2 ≤ routed.toNat → exec (.setAlarmRoutes p tag code routed) s
        = .next (serve p ((Request.setAlarmRoutes code routed).frame tag) ⟨s, .badArgument, []⟩))
    ∧ ∀ floor : Byte, exec (.setAlarmFloor p tag floor) s = .next (serve p ((Request.setAlarmFloor floor).frame tag)
        ⟨s.setAlarms (s.alarms.setPortAlarms p
          { s.alarms.ports.get p with floor := min floor.toNat 2 }), if 2 < floor.toNat then .clamped else .ok, []⟩)

/-- O51. SETUP COMPLETE in SETUP (R174, R175, R176): the port's flag is set; with all three set the four checks are made, the
first failing check and its lowest failing index reject, posting SETUP_REJECTED and clearing the three flags, and with none
the part enters RUN. The entry (R176): RUN, phase 0, every room IDLE without frost, the full heater capacity, an empty queue
(R92); then in ascending door order every enabled door takes the state derived from its lines (R45, R65), a FAULT raising
DOOR_FAULT with its cause, unposted where it is not entered, a BREACH starting its grace; then every room is evaluated (R37,
O56); then OPERATION_STARTED is posted. The ascending room order is log entry 13's, the reply's sizes are log entry 7's. A
mark that is set stays set where a later raise is entered (log entry 4). -/
def Obligations.SetupCompleteValidates : Prop :=
  ∀ (p : Port) (tag : Byte) (s : State), s.ready p → s.mode = .setup →
    let u := s.setPort p { s.port p with setupComplete := true }
    let all := ∀ q, q ≠ p → (s.port q).setupComplete = true
    (¬ all → exec (.setupComplete p tag) s = .next (serve p (Request.setupComplete.frame tag)
      ⟨u, .ok, value8 0 ++ u.setupFlags ++ [0, 0]⟩))
    ∧ (all → ∀ check index, s.validate = some (check, index) →
      exec (.setupComplete p tag) s = .next (serve p (Request.setupComplete.frame tag)
        ⟨(u.clearSetupFlags).setAlarms (s.alarms.raise s.clock false .setupRejected .none none
          (some (BitVec.ofNat 16 check))).1, .ok, [2, 0, 0, 0] ++ value8 check ++ value8 index⟩))
    ∧ (all → s.validate = none →
      exec (.setupComplete p tag) s = .next (serve p (Request.setupComplete.frame tag)
        ⟨enterRun u, .ok, [1, 1, 1, 1, 0, 0]⟩)
      ∧ (enterRun u).mode = .run ∧ (enterRun u).phase = 0 ∧ (enterRun u).clock = s.clock
      ∧ (enterRun u).remainingCapacity = s.heaterCapacity ∧ (enterRun u).defrostQueue = []
      ∧ (∀ r : Fin 8, ((enterRun u).defrost r).state = .idle ∧ ((enterRun u).defrost r).frostIndex = 0)
      ∧ (let causeAt := fun d : Fin 24 => if (s.door d).enabled = true then
            (match (s.door d).derive (s.trailerHeld d) with
            | .fault cause => some cause
            | .breach | .vacant | .sealed | .sealing | .docked => none)
          else none
        let faultRaise := fun (a : AlarmTable) (d : Fin 24) (cause : FaultCause) =>
          a.raise s.clock false .doorFault (.door d) none (some (BitVec.ofNat 16 cause.place))
        let raised := fun doors : List (Fin 24) => doors.foldl (fun a d => match causeAt d with
          | some cause => (faultRaise a d cause).1
          | none => a) s.alarms
        let derived := fun d : Fin 24 => let x := s.door d
          match x.derive (s.trailerHeld d) with
          | .fault cause =>
            { x.enter .fault with
              faultCause := cause, faultFlag := true
              faultUnposted := x.faultUnposted
                || !(faultRaise (raised ((List.finRange 24).filter fun i => decide (i < d))) d cause).2 }
          | .breach => { x.enter .breach with breachTimer := .start x.breachGrace }
          | .vacant => { x.enter .vacant with trailerTemp := none }
          | .sealed => x.enter .sealed
          | .sealing => { x.enter .sealing with sealTimer := .start x.sealLimit }
          | .docked => x.enter .docked
        ∃ w, w = { u with
            mode := .run, phase := 0, remainingCapacity := s.heaterCapacity, defrostQueue := [], defrosts := w.defrosts
            doors := w.doors, alarms := raised (List.finRange 24), attn := w.attn }
          ∧ (∀ r : Fin 8, w.defrost r = { s.defrost r with state := .idle, frostIndex := 0, phaseTimer := .stopped })
          ∧ (∀ d : Fin 24, w.door d = if (s.door d).enabled = true then (derived d).driven s.lines else s.door d)
          ∧ (let v := forEach 8 evaluateRoom w
            enterRun u = v.setAlarms (v.alarms.raise s.clock false .operationStarted .none none none).1)
          ∧ ∀ r : Fin 8, let x := s.room r
            (x.firstVote = false → (enterRun u).room r = x)
            ∧ (x.firstVote = true → x.highTimer = .stopped → x.lowTimer = .stopped → x.highFlag = false → x.lowFlag = false →
              (enterRun u).room r
                = { x with
                    highTimer := if x.effectiveUpper < x.filtered then .start x.highDelay else .stopped
                    lowTimer := if x.filtered < x.lower then .start x.lowDelay else .stopped }))
      ∧ (enterRun u).pallets = s.pallets ∧ (enterRun u).moves = s.moves ∧ (enterRun u).journal = s.journal
      ∧ ∀ d : Fin 24, (s.door d).enabled = true →
          (((enterRun u).door d).state, ((enterRun u).door d).faultCause)
            = ((s.door d).derive (s.trailerHeld d)).stateAndCause)
    ∧ (let check1 := fun d : Fin 24 => (s.door d).enabled = true → (s.room (s.door d).dockRoom).kind = .dock
      let check2 := fun r : Fin 8 => ∃ c : Fin 32, (s.channel c).role = .room ∧ (s.channel c).room = r
      let check3 := fun r : Fin 8 => (s.defrost r).heaterLoad ≤ s.heaterCapacity
      let check4 := fun c : Fin 8 => (s.productClass c).warn ≤ (s.productClass c).budget
      (s.validate = none ↔ (∀ d, check1 d) ∧ (∀ r, check2 r) ∧ (∀ r, check3 r) ∧ ∀ c, check4 c)
      ∧ (∀ d, ¬ check1 d → (∀ i, i < d → check1 i) → s.validate = some (1, d.val))
      ∧ ((∀ d, check1 d) → ∀ r, ¬ check2 r → (∀ i, i < r → check2 i) → s.validate = some (2, r.val))
      ∧ ((∀ d, check1 d) → (∀ r, check2 r) → ∀ r, ¬ check3 r → (∀ i, i < r → check3 i) → s.validate = some (3, r.val))
      ∧ ((∀ d, check1 d) → (∀ r, check2 r) → (∀ r, check3 r) → ∀ c, ¬ check4 c → (∀ i, i < c → check4 i) →
        s.validate = some (4, c.val)))
    ∧ ∀ d : Fin 24, (s.trailerHeld d = true ↔
        (∃ q : Fin 256, (s.pallet q).live = true ∧ (s.pallet q).location = .at (.trailer d))
        ∨ ∃ m : Fin 32, (s.move m).live = true
          ∧ ((s.move m).origin = some (.trailer d) ∨ (s.move m).destination = some (.trailer d)))
      ∧ ∀ held : Bool, let x := s.door d
        (x.derive held).stateAndCause
          = if x.tp.level = false ∧ held = true then (.fault, .trailerLost)
            else if x.pc.level = false then (.breach, .none)
            else if x.tp.level = false ∧ x.sm.level = true then (.fault, .sealWithoutTrailer)
            else if x.tp.level = false then (.vacant, .none)
            else if x.sm.level = true then (.sealed, .none)
            else if held = true then (.sealing, .none) else (.docked, .none)

/-! ### Requests of one role -/

/-- O52. The structural requests of SETUP until the port's flag is set (R8, R18, R39, R42, R71, R94): checked, then stored together. Penalties are
read as signed (log entry 5), and unchanged input polarities keep the difference counts (log entry 6). The polarities come in the order TP, PC, SM, SB, PR (log
entry 7), and SET HEATER CAPACITY leaves the remaining capacity (log entry 23). -/
def Obligations.StructuralRequestsStoreTheirValues : Prop :=
  ∀ (tag : Byte) (s : State), s.mode = .setup →
    (s.ready .dock → (s.port .dock).setupComplete = false →
      (∀ (d : Fin 24) (enabled : Bool) (r : Fin 8) (wp bp wf bf : Word16),
        exec (.configureDoor .dock tag (BitVec.ofNat 8 d) (BitVec.ofNat 8 enabled.toNat) (BitVec.ofNat 8 r) wp bp wf bf) s
          = .next (serve .dock ((Request.configureDoor (BitVec.ofNat 8 d) (BitVec.ofNat 8 enabled.toNat) (BitVec.ofNat 8 r)
              wp bp wf bf).frame tag)
            ⟨s.setDoor d
              { s.door d with
                enabled := enabled, dockRoom := r
                workPenalty := max 0 (min wp.toInt 960), breachPenalty := max 0 (min bp.toInt 960)
                workFrost := min wf.toNat 4095, breachFrost := min bf.toNat 4095 },
              if wp.toInt < 0 ∨ 960 < wp.toInt ∨ bp.toInt < 0 ∨ 960 < bp.toInt ∨ 4095 < wf.toNat ∨ 4095 < bf.toNat
                then .clamped else .ok, []⟩))
      ∧ (∀ (door enabled room : Byte) (wp bp wf bf : Word16), 24 ≤ door.toNat ∨ 2 ≤ enabled.toNat ∨ 8 ≤ room.toNat →
        exec (.configureDoor .dock tag door enabled room wp bp wf bf) s = .next (serve .dock
          ((Request.configureDoor door enabled room wp bp wf bf).frame tag) ⟨s, .badArgument, []⟩))
      ∧ (∀ tp pc sm sb pr debounce : Byte,
        2 ≤ tp.toNat ∨ 2 ≤ pc.toNat ∨ 2 ≤ sm.toNat ∨ 2 ≤ sb.toNat ∨ 2 ≤ pr.toNat →
        exec (.setDoorLines .dock tag tp pc sm sb pr debounce) s = .next (serve .dock
          ((Request.setDoorLines tp pc sm sb pr debounce).frame tag) ⟨s, .badArgument, []⟩))
      ∧ (∀ (tp pc sm sb pr : Bool) (debounce : Byte), ∃ t : State,
        exec (.setDoorLines .dock tag (BitVec.ofNat 8 tp.toNat) (BitVec.ofNat 8 pc.toNat) (BitVec.ofNat 8 sm.toNat)
            (BitVec.ofNat 8 sb.toNat) (BitVec.ofNat 8 pr.toNat) debounce) s
          = .next (serve .dock ((Request.setDoorLines (BitVec.ofNat 8 tp.toNat) (BitVec.ofNat 8 pc.toNat)
              (BitVec.ofNat 8 sm.toNat) (BitVec.ofNat 8 sb.toNat) (BitVec.ofNat 8 pr.toNat) debounce).frame tag)
            ⟨t, if debounce.toNat = 0 ∨ 15 < debounce.toNat then .clamped else .ok, []⟩)
        ∧ t = { s with lines := ⟨tp, pc, sm, sb, pr, max 1 (min debounce.toNat 15)⟩, doors := t.doors }
        ∧ ∀ d : Fin 24, t.door d = Door.driven
          (if tp = s.lines.tp ∧ pc = s.lines.pc ∧ sm = s.lines.sm then s.door d
            else
              { s.door d with
                tp := { (s.door d).tp with count := 0, changeDue := false }
                pc := { (s.door d).pc with count := 0, changeDue := false }
                sm := { (s.door d).sm with count := 0, changeDue := false } }) t.lines))
    ∧ (s.ready .plant → (s.port .plant).setupComplete = false →
      (∀ (r : Fin 8) (kind : RoomKind) (load : Byte), 1 ≤ load.toNat → load.toNat ≤ 15 →
        exec (.configureRoom .plant tag (BitVec.ofNat 8 r) (BitVec.ofNat 8 kind.place) load) s = .next (serve .plant
          ((Request.configureRoom (BitVec.ofNat 8 r) (BitVec.ofNat 8 kind.place) load).frame tag)
          ⟨(s.setRoom r { s.room r with kind := kind }).setDefrost r { s.defrost r with heaterLoad := load.toNat },
            .ok, []⟩))
      ∧ (∀ room kind load : Byte, 8 ≤ room.toNat ∨ 2 ≤ kind.toNat ∨ load.toNat = 0 ∨ 16 ≤ load.toNat →
        exec (.configureRoom .plant tag room kind load) s = .next (serve .plant
          ((Request.configureRoom room kind load).frame tag) ⟨s, .badArgument, []⟩))
      ∧ (∀ channel role room : Byte, 32 ≤ channel.toNat ∨ 3 ≤ role.toNat ∨ 8 ≤ room.toNat →
        exec (.configureProbe .plant tag channel role room) s = .next (serve .plant
          ((Request.configureProbe channel role room).frame tag) ⟨s, .badArgument, []⟩))
      ∧ (∀ (c : Fin 32) (role : ChannelRole) (r : Fin 8),
        let others := countWhere 32 fun i => i != c && (s.channel i).role == role && (s.channel i).room == r
        let f := (Request.configureProbe (BitVec.ofNat 8 c) (BitVec.ofNat 8 role.place) (BitVec.ofNat 8 r)).frame tag
        let command := Instr.configureProbe .plant tag (BitVec.ofNat 8 c) (BitVec.ofNat 8 role.place) (BitVec.ofNat 8 r)
        ((role = .room ∧ 4 ≤ others ∨ role = .coil ∧ 2 ≤ others) →
          exec command s = .next (serve .plant f ⟨s, .badArgument, []⟩))
        ∧ ((role = .unused ∨ role = .room ∧ others < 4 ∨ role = .coil ∧ others < 2) →
          ((s.channel c).role = role ∧ (s.channel c).room = r →
            exec command s = .next (serve .plant f ⟨s, .ok, []⟩))
          ∧ (¬ ((s.channel c).role = role ∧ (s.channel c).room = r) →
            exec command s = .next (serve .plant f
              ⟨({ s with
                  round := match s.round with
                    | .converting x => .converting { x with discarded := x.discarded || decide (x.channel = c) }
                    | other => other }.setChannel c
                ⟨role, r, (s.channel c).gain, (s.channel c).offset, .ok, 0, none, 0, false, false⟩).setAlarms
                  (s.alarms.return .probeFault (.probe c)), .ok, []⟩))))
      ∧ (∀ capacity : Byte, exec (.setHeaterCapacity .plant tag capacity) s = .next (serve .plant
        ((Request.setHeaterCapacity capacity).frame tag)
        (if 1 ≤ capacity.toNat ∧ capacity.toNat ≤ 63 then ⟨{ s with heaterCapacity := capacity.toNat }, .ok, []⟩
          else ⟨s, .badArgument, []⟩))))
    ∧ (s.ready .movement → (s.port .movement).setupComplete = false →
      ∀ (cls : Byte) (threshold budget warn transit defrost : Word16),
        (8 ≤ cls.toNat ∨ threshold.toInt < -960 ∨ 960 < threshold.toInt ∨ budget = 0 ∨ warn = 0 →
          exec (.configureClass .movement tag cls threshold budget warn transit defrost) s = .next (serve .movement
            ((Request.configureClass cls threshold budget warn transit defrost).frame tag) ⟨s, .badArgument, []⟩))
        ∧ (∀ c : Fin 8, cls = BitVec.ofNat 8 c → -960 ≤ threshold.toInt → threshold.toInt ≤ 960 → budget ≠ 0 → warn ≠ 0 →
          exec (.configureClass .movement tag cls threshold budget warn transit defrost) s = .next (serve .movement
            ((Request.configureClass cls threshold budget warn transit defrost).frame tag)
            ⟨s.setClass c ⟨threshold.toInt, budget.toNat, warn.toNat, transit.toNat, defrost.toNat⟩, .ok, []⟩)))

/-- O53. SET EXPOSURE TICK (R4, R5, R104): E from 1 to 60 is stored, any other is refused with BAD_ARGUMENT; outside SETUP, or
once the Movement port's flag is set, the answer is WRONG_MODE. The exposure tick uses the stored E from the entry into RUN
onward: the entry keeps it, in RUN an exposure tick falls due as the phase reaches it, and every live pallet is charged its
excess times E. The mark exposureDue, and that it stays due until the tick is taken, are log entry 1's. -/
def Obligations.SetExposureTickStoresTheInterval : Prop :=
  ∀ (tag e : Byte) (s : State), s.ready .movement →
    let f := (Request.setExposureTick e).frame tag
    (s.mode = .setup → (s.port .movement).setupComplete = false →
      (1 ≤ e.toNat → e.toNat ≤ 60 → exec (.setExposureTick .movement tag e) s
        = .next (serve .movement f ⟨{ s with interval := e.toNat }, .ok, []⟩))
      ∧ (e.toNat = 0 ∨ 60 < e.toNat → exec (.setExposureTick .movement tag e) s
        = .next (serve .movement f ⟨s, .badArgument, []⟩)))
    ∧ (s.mode = .run ∨ (s.port .movement).setupComplete = true → exec (.setExposureTick .movement tag e) s
      = .next (serve .movement f ⟨s, .wrongMode, []⟩))
    ∧ (enterRun s).interval = s.interval
    ∧ (s.mode = .run → (∀ order, ∃ t, exec (.secondTick order) s = .next t ∧ t.interval = s.interval
        ∧ t.phase = (if s.phase + 1 < s.interval then s.phase + 1 else 0)
        ∧ (t.exposureDue = true ↔ s.exposureDue = true ∨ s.interval ≤ s.phase + 1))
      ∧ (s.exposureDue = true → ∀ first, ∃ t, exec (.exposureTick first) s = .next t ∧ t.interval = s.interval
        ∧ ∀ q : Fin 256, (s.pallet q).live = true →
          let excess := s.locationTemp (s.pallet q) - (s.classOf (s.pallet q)).threshold
          (t.pallet q).exposure
            = if 0 < excess then min ((s.pallet q).exposure + excess.toNat * s.interval) 4294967295
              else (s.pallet q).exposure))

/-- O54. The tunables with no effect of their own (R9, R43, R87, R115): forced into range and stored together in either mode, CLAMPED exactly
where one was forced; running timers and stored temperatures stay; an index out of range is refused. -/
def Obligations.TunablesAreForcedIntoRange : Prop :=
  ∀ (tag : Byte) (s : State),
    (s.ready .dock → ∀ sl bg rt : Word16,
      (∀ d : Fin 24, exec (.setDoorTimes .dock tag (BitVec.ofNat 8 d) sl bg rt) s = .next (serve .dock
        ((Request.setDoorTimes (BitVec.ofNat 8 d) sl bg rt).frame tag)
        ⟨s.setDoor d
          { s.door d with
            sealLimit := max 1 (min sl.toNat 120), breachGrace := min bg.toNat 300, releaseTime := max 1 (min rt.toNat 120) },
          if sl = 0 ∨ 120 < sl.toNat ∨ 300 < bg.toNat ∨ rt = 0 ∨ 120 < rt.toNat then .clamped else .ok, []⟩))
      ∧ ∀ door : Byte, 24 ≤ door.toNat → exec (.setDoorTimes .dock tag door sl bg rt) s = .next (serve .dock
        ((Request.setDoorTimes door sl bg rt).frame tag) ⟨s, .badArgument, []⟩))
    ∧ (s.ready .plant → (∀ gain offset : Word16,
      (∀ c : Fin 32, exec (.setProbeCalibration .plant tag (BitVec.ofNat 8 c) gain offset) s = .next (serve .plant
        ((Request.setProbeCalibration (BitVec.ofNat 8 c) gain offset).frame tag)
        ⟨s.setChannel c
          { s.channel c with gain := max 1 (min gain.toNat 4095), offset := max (-960) (min offset.toInt 960) },
          if gain = 0 ∨ 4095 < gain.toNat ∨ offset.toInt < -960 ∨ 960 < offset.toInt then .clamped else .ok, []⟩))
      ∧ ∀ channel : Byte, 32 ≤ channel.toNat → exec (.setProbeCalibration .plant tag channel gain offset) s
        = .next (serve .plant ((Request.setProbeCalibration channel gain offset).frame tag) ⟨s, .badArgument, []⟩))
      ∧ ∀ heating drip recovery terminate hold : Word16,
        (∀ r : Fin 8, exec (.setDefrostTimes .plant tag (BitVec.ofNat 8 r) heating drip recovery terminate hold) s
          = .next (serve .plant
            ((Request.setDefrostTimes (BitVec.ofNat 8 r) heating drip recovery terminate hold).frame tag)
            ⟨s.setDefrost r
              { s.defrost r with
                heatingLimit := max 60 (min heating.toNat 3600), dripTime := min drip.toNat 900
                recoveryLimit := max 60 (min recovery.toNat 7200)
                terminateTemp := max (-960) (min terminate.toInt 960), grantHold := max 30 (min hold.toNat 900) },
              if heating.toNat < 60 ∨ 3600 < heating.toNat ∨ 900 < drip.toNat ∨ recovery.toNat < 60 ∨ 7200 < recovery.toNat
                ∨ terminate.toInt < -960 ∨ 960 < terminate.toInt ∨ hold.toNat < 30 ∨ 900 < hold.toNat
              then .clamped else .ok, []⟩))
        ∧ ∀ room : Byte, 8 ≤ room.toNat →
          exec (.setDefrostTimes .plant tag room heating drip recovery terminate hold) s = .next (serve .plant
            ((Request.setDefrostTimes room heating drip recovery terminate hold).frame tag) ⟨s, .badArgument, []⟩))
    ∧ (s.ready .movement → ∀ pl tl : Word16, exec (.setMoveTimes .movement tag pl tl) s = .next (serve .movement
      ((Request.setMoveTimes pl tl).frame tag)
      ⟨{ s with permitLimit := max 10 (min pl.toNat 600), transitLimit := max 30 (min tl.toNat 1800) },
        if pl.toNat < 10 ∨ 600 < pl.toNat ∨ tl.toNat < 30 ∨ 1800 < tl.toNat then .clamped else .ok, []⟩))

/-- O55. The Journal's requests (R137, R138, R140): READ JOURNAL shows up to two of the oldest records and changes nothing;
RELEASE JOURNAL removes the oldest n, at most those held, and may return JOURNAL_HIGH; SET JOURNAL THRESHOLD forces and
stores, and in RUN makes both tests at once. The first two are WRONG_MODE in SETUP. The sizes of RELEASE JOURNAL's reply
values are log entry 7's. A mark that is set stays set where a later raise is entered (log entry 4). -/
def Obligations.JournalRequestsFollowTheList : Prop :=
  ∀ (tag : Byte) (s : State), s.ready .movement →
    (s.mode = .setup → (∀ count : Byte, exec (.readJournal .movement tag count) s
        = .next (serve .movement ((Request.readJournal count).frame tag) ⟨s, .wrongMode, []⟩))
      ∧ ∀ count : Word16, exec (.releaseJournal .movement tag count) s
        = .next (serve .movement ((Request.releaseJournal count).frame tag) ⟨s, .wrongMode, []⟩))
    ∧ (s.mode = .run → s.journalKept → s.journal.held ≤ 512 →
      (∀ count : Byte, (count = 1 ∨ count = 2) →
        let n := min count.toNat s.journal.held
        exec (.readJournal .movement tag count) s = .next (serve .movement ((Request.readJournal count).frame tag)
          ⟨s, if s.journal.held = 0 then .none else .ok,
            value16 (n * 16384 + s.journal.held) ++ bytes32 s.journal.next
              ++ ((s.journal.records.take n).map JournalRecord.bytes).flatten⟩))
      ∧ (∀ count : Byte, count ≠ 1 → count ≠ 2 → exec (.readJournal .movement tag count) s
        = .next (serve .movement ((Request.readJournal count).frame tag) ⟨s, .badArgument, []⟩))
      ∧ ∀ count : Word16, ∃ t, let n := min count.toNat s.journal.held
        exec (.releaseJournal .movement tag count) s = .next (serve .movement ((Request.releaseJournal count).frame tag)
          ⟨t, if s.journal.held < count.toNat then .clamped else .ok,
            value16 n ++ value16 (s.journal.held - n)
              ++ bytes32 (((s.journal.records.drop n).head?.map (·.sequence)).getD s.journal.next)⟩)
        ∧ t = { s with journal := t.journal, alarms := t.alarms, attn := t.attn }
        ∧ t.journal.records = s.journal.records.drop n ∧ t.journal.held = s.journal.held - n
        ∧ t.journal.next = s.journal.next ∧ t.journal.threshold = s.journal.threshold
        ∧ (if 0 < n ∧ s.journal.held - n < s.journal.threshold ∧ s.journal.highFlag = true then
            t.journal.highFlag = false ∧ t.journal.highUnposted = false
              ∧ t.alarms = s.alarms.return .journalHigh .none
          else t.journal.highFlag = s.journal.highFlag ∧ t.journal.highUnposted = s.journal.highUnposted
            ∧ t.alarms = s.alarms))
    ∧ ∀ threshold : Word16, let v := max 1 (min threshold.toNat 512)
      let raised := s.alarms.raise s.clock false .journalHigh .none none (some (BitVec.ofNat 16 s.journal.held))
      exec (.setJournalThreshold .movement tag threshold) s = .next (serve .movement
        ((Request.setJournalThreshold threshold).frame tag)
        ⟨if s.mode = .run ∧ v ≤ s.journal.held ∧ s.journal.highFlag = false then
            (s.setJournal
              { s.journal with
                threshold := v, highFlag := true
                highUnposted := s.journal.highUnposted || !raised.2 }).setAlarms raised.1
          else if s.mode = .run ∧ s.journal.held < v ∧ s.journal.highFlag = true then
            (s.setJournal { s.journal with threshold := v, highFlag := false, highUnposted := false }).setAlarms
              (s.alarms.return .journalHigh .none)
          else s.setJournal { s.journal with threshold := v },
          if threshold = 0 ∨ 512 < threshold.toNat then .clamped else .ok, []⟩)

/-- O56. SET ROOM LIMITS, SET PRODUCT CEILING and SET FROST PARAMETERS (R24, R25, R26, R67): forced, stored, and evaluated
within the request; the evaluation of limits in RUN, for a room that has voted, starts and stops the two timers and returns
ROOM_HIGH and then ROOM_LOW, with flag and mark, as R27 to R30 say, and changes nothing else; for another room, and in SETUP,
it touches nothing. The tests of FROST_DUE and of the forced mark (R69, R70, R90), and the recovery test (R85, R28; log entry
14). A mark that is set stays set where a later raise is entered (log entry 4). -/
def Obligations.LimitChangesAreEvaluatedAtOnce : Prop :=
  (∀ (tag : Byte) (r : Fin 8) (s : State),
    (s.ready .plant → ∀ up lo hd ld k : Word16,
      let u : Temperature := max (-960) (min up.toInt 960)
      let l : Temperature := min (max (-960) (min lo.toInt 960)) u
      exec (.setRoomLimits .plant tag (BitVec.ofNat 8 r) up lo hd ld k) s = .next (serve .plant
        ((Request.setRoomLimits (BitVec.ofNat 8 r) up lo hd ld k).frame tag)
        ⟨testRecovery r (evaluateRoom r (s.setRoom r
          { s.room r with
            upper := u, lower := l, highDelay := min hd.toNat 3600, lowDelay := min ld.toNat 3600
            weight := max 1 (min k.toNat 256)
            effectiveUpper := ((s.room r).ceiling.map (min u)).getD u })),
          if up.toInt < -960 ∨ 960 < up.toInt ∨ l ≠ lo.toInt ∨ 3600 < hd.toNat ∨ 3600 < ld.toNat ∨ k = 0 ∨ 256 < k.toNat
          then .clamped else .ok, []⟩))
    ∧ (s.ready .movement → ∀ c : Word16,
      let ceiling : Temperature := max (-960) (min c.toInt 960)
      exec (.setProductCeiling .movement tag (BitVec.ofNat 8 r) 1 c) s = .next (serve .movement
        ((Request.setProductCeiling (BitVec.ofNat 8 r) 1 c).frame tag)
        ⟨testRecovery r (evaluateRoom r (s.setRoom r
          { s.room r with ceiling := some ceiling, effectiveUpper := min (s.room r).upper ceiling })),
          if c.toInt < -960 ∨ 960 < c.toInt then .clamped else .ok, []⟩)
      ∧ exec (.setProductCeiling .movement tag (BitVec.ofNat 8 r) 0 c) s = .next (serve .movement
        ((Request.setProductCeiling (BitVec.ofNat 8 r) 0 c).frame tag)
        ⟨testRecovery r (evaluateRoom r (s.setRoom r
          { s.room r with ceiling := none, effectiveUpper := (s.room r).upper })), .ok, []⟩))
    ∧ (s.ready .plant → ∀ (room rate : Byte) (up lo hd ld k th hl : Word16), 8 ≤ room.toNat →
      exec (.setRoomLimits .plant tag room up lo hd ld k) s = .next (serve .plant
        ((Request.setRoomLimits room up lo hd ld k).frame tag) ⟨s, .badArgument, []⟩)
      ∧ exec (.setFrostParameters .plant tag room rate th hl) s = .next (serve .plant
        ((Request.setFrostParameters room rate th hl).frame tag) ⟨s, .badArgument, []⟩))
    ∧ (s.ready .movement → ∀ (room present : Byte) (c : Word16), 8 ≤ room.toNat ∨ 2 ≤ present.toNat →
      exec (.setProductCeiling .movement tag room present c) s = .next (serve .movement
        ((Request.setProductCeiling room present c).frame tag) ⟨s, .badArgument, []⟩))
    ∧ (s.ready .plant → ∀ (rate : Byte) (th hl : Word16), ∃ t,
      let u := s.setDefrost r
        { s.defrost r with
          baseRate := rate.toNat, threshold := max 1 th.toNat, hardLimit := max hl.toNat (max 1 th.toNat) }
      exec (.setFrostParameters .plant tag (BitVec.ofNat 8 r) rate th hl) s = .next (serve .plant
        ((Request.setFrostParameters (BitVec.ofNat 8 r) rate th hl).frame tag)
        ⟨t, if th = 0 ∨ hl.toNat < max 1 th.toNat then .clamped else .ok, []⟩)
      ∧ (s.mode = .setup → t = u)
      ∧ (s.mode = .run → let forced := (u.defrost r).becomesForced
        t = (if forced = true then evaluateQueue (testForced r (testFrostDue r u)) else testForced r (testFrostDue r u))
        ∧ (forced = true ↔ (s.defrost r).state ≠ .heating ∧ (s.defrost r).state ≠ .drip
          ∧ (u.defrost r).hardLimit ≤ (s.defrost r).frostIndex ∧ (s.defrost r).forcedMark = false))))
  ∧ ∀ (r : Fin 8) (s : State),
    (s.mode = .setup ∨ (s.room r).firstVote = false → evaluateRoom r s = s)
    ∧ (s.mode = .run → (s.room r).firstVote = true →
      let x := s.room r
      let high := if x.highFlag = true ∧ x.filtered ≤ x.effectiveUpper - 8 then s.alarms.return .roomHigh (.room r)
        else s.alarms
      (s.attentionKept → (evaluateRoom r s).attentionKept)
      ∧ evaluateRoom r s
        = { s.setRoom r
          { x with
            highTimer :=
              if x.effectiveUpper < x.filtered then
                (if x.highTimer = .stopped ∧ x.highFlag = false ∧ (s.defrost r).state ≠ .heating
                    ∧ (s.defrost r).state ≠ .drip ∧ (s.defrost r).state ≠ .recovery then .start x.highDelay
                  else x.highTimer)
              else .stopped
            highFlag := x.highFlag && decide (x.effectiveUpper - 8 < x.filtered)
            highUnposted := x.highUnposted && !(x.highFlag && decide (x.filtered ≤ x.effectiveUpper - 8))
            lowTimer :=
              if x.filtered < x.lower then (if x.lowTimer = .stopped ∧ x.lowFlag = false then .start x.lowDelay else x.lowTimer)
              else .stopped
            lowFlag := x.lowFlag && decide (x.filtered < x.lower + 8)
            lowUnposted := x.lowUnposted && !(x.lowFlag && decide (x.lower + 8 ≤ x.filtered)) } with
          alarms := if x.lowFlag = true ∧ x.lower + 8 ≤ x.filtered then high.return .roomLow (.room r) else high
          attn := (evaluateRoom r s).attn })
    ∧ testRecovery r s
        = (if (s.defrost r).state = .recovery ∧ (s.room r).filtered ≤ (s.room r).effectiveUpper then
            (s.setDefrost r
              { s.defrost r with
                state := .idle, phaseTimer := .stopped, cycleCount := (s.defrost r).cycleCount + 1 }).setRoom r
              { s.room r with highTimer := .stopped }
          else s)
    ∧ (s.attentionKept →
      let x := s.defrost r
      let warm := x.state = .heating ∨ x.state = .drip
      let detail := some (BitVec.ofNat 16 x.frostIndex)
      let due := s.alarms.raise s.clock false .frostDue (.room r) none detail
      let forced := s.alarms.raise s.clock false .defrostForced (.room r) none detail
      testFrostDue r s
        = (if ¬ warm ∧ x.threshold ≤ x.frostIndex ∧ x.dueFlag = false then
            (s.setDefrost r { x with dueFlag := true, dueUnposted := x.dueUnposted || !due.2 }).setAlarms due.1
          else s)
      ∧ testForced r s
        = (if ¬ warm ∧ x.hardLimit ≤ x.frostIndex ∧ x.forcedMark = false then
            (s.setDefrost r
              { x with
                forcedMark := true, forcedFlag := true, forcedUnposted := x.forcedUnposted || !forced.2 }).setAlarms forced.1
          else s))

/-- O57. The door requests in RUN (R44, R48, R51, R53, R56, R58, R60, R61): an index out of range is refused with BAD_ARGUMENT
and a disabled door with DOOR_STATE; at an enabled door each is taken in the states that take it, with DOOR_STATE in the
others. A release is BUSY while anything inbound or any live move holds the trailer; otherwise each pallet ABOARD is shipped
in slot order, with a SHIPPED record, its exposure alarms returned and its slot freed (R56, R97). CLEAR FAULT clears cause,
flag and mark, returns DOOR_FAULT and enters the state derived from the lines (R45, R58): permit NONE, marks clear, the seal
timer started in SEALING and the grace timer in BREACH, every other timer stopped, and every other field of the door as it
was; with the trailer gone it first cancels the moves that name the trailer, ships the pallets ABOARD and rejects the INBOUND
ones, each in slot order with a record that carries TRAILER_LOST (R59), clears the trailer temperature, and leaves VACANT or
BREACH. The order within the clearing is log entry 11's. After each record the JOURNAL_HIGH test is made (R135, R139): the
first that brings the held count to the threshold with the high flag clear sets it and raises JOURNAL_HIGH with that count as
detail, marked unposted where it is not entered. A mark that is set stays set where a later raise is entered (log entry 4). -/
def Obligations.DoorRequestsMoveTheDoor : Prop :=
  (∀ (tag : Byte) (d : Fin 24) (s : State), s.ready .dock → s.mode = .run → (s.door d).enabled = true →
    let door : Byte := BitVec.ofNat 8 d
    let refused := fun (c : Instr) (r : Request) (status : Status) =>
      exec c s = .next (serve .dock (r.frame tag) ⟨s, status, []⟩)
    (if (s.door d).state = .docked then
      exec (.doorArmSeal .dock tag door) s = .next (serve .dock ((Request.doorArmSeal door).frame tag)
        ⟨s.setDoor d { (s.door d).enter .sealing with sealTimer := .start (s.door d).sealLimit }, .ok, []⟩)
      else refused (.doorArmSeal .dock tag door) (.doorArmSeal door) .doorState)
    ∧ (if (s.door d).state = .sealed then
      (s.outputsKept → exec (.doorOpenPermit .dock tag door) s = .next (serve .dock ((Request.doorOpenPermit door).frame tag)
        (if (s.door d).permit = .given ∨ (s.door d).permit = .none ∧ (s.defrost (s.door d).dockRoom).state ≠ .granted
            ∧ (s.defrost (s.door d).dockRoom).state ≠ .heating ∧ (s.defrost (s.door d).dockRoom).state ≠ .drip
          then ⟨s.setDoor d { s.door d with permit := .given }, .ok, []⟩
          else ⟨s.setDoor d { s.door d with permit := .pending }, .held, []⟩)))
      ∧ exec (.doorClose .dock tag door) s = .next (serve .dock ((Request.doorClose door).frame tag)
        ⟨s.setDoor d { s.door d with permit := .none }, .ok, []⟩)
      else refused (.doorOpenPermit .dock tag door) (.doorOpenPermit door) .doorState
        ∧ if (s.door d).state = .working then
            exec (.doorClose .dock tag door) s = .next (serve .dock ((Request.doorClose door).frame tag)
              ⟨s.setDoor d { s.door d with closeMark := true }, .ok, []⟩)
          else refused (.doorClose .dock tag door) (.doorClose door) .doorState)
    ∧ (∀ on : Bool, exec (.doorOverride .dock tag door (BitVec.ofNat 8 on.toNat)) s = .next (serve .dock
        ((Request.doorOverride door (BitVec.ofNat 8 on.toNat)).frame tag)
        ⟨s.setDoor d { s.door d with override := on }, .ok, []⟩))
    ∧ (∀ temperature : Word16, if (s.door d).tp.level = true then
        exec (.reportTrailerTemperature .dock tag door temperature) s = .next (serve .dock
          ((Request.reportTrailerTemperature door temperature).frame tag)
          ⟨s.setDoor d { s.door d with trailerTemp := some (max (-960) (min temperature.toInt 960)) },
            if temperature.toInt < -960 ∨ 960 < temperature.toInt then .clamped else .ok, []⟩)
        else refused (.reportTrailerTemperature .dock tag door temperature) (.reportTrailerTemperature door temperature)
          .doorState)
    ∧ (if (s.door d).state = .sealed ∨ (s.door d).state = .sealing then
      ((∃ q : Fin 256, (s.pallet q).state = .inbound ∧ (s.pallet q).location = .at (.trailer d))
        ∨ (∃ m : Fin 32, (s.move m).live = true
          ∧ ((s.move m).origin = some (.trailer d) ∨ (s.move m).destination = some (.trailer d))) →
        refused (.doorRelease .dock tag door) (.doorRelease door) .busy)
      ∧ ((∀ q : Fin 256, (s.pallet q).state = .inbound → (s.pallet q).location ≠ .at (.trailer d)) →
        (∀ m : Fin 32, (s.move m).live = true →
          (s.move m).origin ≠ some (.trailer d) ∧ (s.move m).destination ≠ some (.trailer d)) →
        ∃ t, exec (.doorRelease .dock tag door) s
            = .next (serve .dock ((Request.doorRelease door).frame tag) ⟨t, .ok, []⟩)
          ∧ (∀ d', t.door d' = if d' = d then
              Door.driven
                { (s.door d).enter .releasing with
                  trailerTemp := none, releaseTimer := .start (s.door d).releaseTime } s.lines
              else s.door d')
          ∧ (∀ q : Fin 256, t.pallet q
              = if (s.pallet q).state = .aboard ∧ (s.pallet q).location = .at (.trailer d) then .empty else s.pallet q)
          ∧ (let shipped := (List.finRange 256).filter fun q =>
              decide ((s.pallet q).state = .aboard ∧ (s.pallet q).location = .at (.trailer d))
            t.journal.records = s.journal.records ++ shipped.mapIdx (fun i q =>
                ⟨s.journal.next + BitVec.ofNat 32 i, .shipped, (s.pallet q).tag, (s.pallet q).cls, none, .at (.trailer d),
                  (s.pallet q).entryTime, s.clock, min ((s.pallet q).exposure / 960) 65535,
                  ⟨(s.pallet q).overBudget, false, false, false⟩⟩)
              ∧ t.journal.held = s.journal.held + shipped.length
              ∧ t.journal.next = s.journal.next + BitVec.ofNat 32 shipped.length
              ∧ t.journal.threshold = s.journal.threshold
              ∧ (let full := shipped ≠ [] ∧ s.journal.threshold ≤ s.journal.held + shipped.length
                (t.journal.highFlag = true ↔ s.journal.highFlag = true ∨ full)
                ∧ (s.journal.highFlag = true ∨ ¬ full → t.journal.highUnposted = s.journal.highUnposted)
                ∧ (s.journal.highFlag = false → full → s.tableKept → t.journal.highUnposted = true
                  ∨ ∃ (i : Fin 48) (e : AlarmEntry), t.alarms.entries[i] = some e ∧ e.code = .journalHigh ∧ e.subject = .none
                    ∧ e.detail = some (BitVec.ofNat 16 (max s.journal.threshold (s.journal.held + 1)))
                    ∧ e.lastRaised = s.clock ∧ e.condition = .active))
              ∧ ((∃ i : Fin 48, i ≠ 0 ∧ s.alarms.entries[i] = none) → s.tableKept →
                t.journal.highUnposted = s.journal.highUnposted)
              ∧ (s.tableKept → ∀ q ∈ shipped, ∀ (i : Fin 48) (e : AlarmEntry), t.alarms.entries[i] = some e →
                e.subject = .pallet q →
                (e.code = .exposureWarning ∧ (s.pallet q).warned = true
                  ∨ e.code = .exposureExceeded ∧ (s.pallet q).overBudget = true) → e.condition = .returned))
          ∧ t = { s with doors := t.doors, pallets := t.pallets, journal := t.journal, alarms := t.alarms, attn := t.attn })
      else refused (.doorRelease .dock tag door) (.doorRelease door) .doorState)
    ∧ (if (s.door d).state = .fault ∧ ¬ ((s.door d).sm.level = true ∧ (s.door d).tp.level = false) then
      let cleared := fun (state : DoorState) (temperature : Option Temperature) => Door.driven
        { s.door d with
          state := state, permit := .none, closeMark := false, breachOrigin := false, faultCause := .none
          faultFlag := false, faultUnposted := false, trailerTemp := temperature
          sealTimer := if state = .sealing then .start (s.door d).sealLimit else .stopped
          breachTimer := if state = .breach then .start (s.door d).breachGrace else .stopped
          releaseTimer := .stopped } s.lines
      ∃ t, exec (.doorClearFault .dock tag door) s
          = .next (serve .dock ((Request.doorClearFault door).frame tag) ⟨t, .ok, []⟩)
        ∧ ((s.door d).tp.level = true →
          ((t.door d).state, (t.door d).faultCause) = ((s.door d).derive (s.trailerHeld d)).stateAndCause
          ∧ t.door d = cleared (t.door d).state (s.door d).trailerTemp
          ∧ (∀ d', d' ≠ d → t.door d' = s.door d')
          ∧ t = { s with doors := t.doors, alarms := s.alarms.return .doorFault (.door d), attn := t.attn })
        ∧ ((s.door d).tp.level = false → s.recordsKept →
          t.door d = cleared (if (s.door d).pc.level = true then .vacant else .breach) none
          ∧ (s.tableKept → ∀ (i : Fin 48) (e : AlarmEntry), t.alarms.entries[i] = some e →
            e.code = .doorFault ∧ e.subject = .door d
              ∨ (∃ q : Fin 256, (s.pallet q).location = .at (.trailer d) ∧ e.subject = .pallet q
                ∧ (e.code = .exposureWarning ∧ (s.pallet q).warned = true
                  ∨ e.code = .exposureExceeded ∧ (s.pallet q).overBudget = true)) → e.condition = .returned)
          ∧ (∀ m : Fin 32, t.move m
              = if (s.move m).namesTrailer d = true then .empty ((s.move m).generation + 1) else s.move m)
          ∧ (∀ q : Fin 256, t.pallet q
              = if (s.pallet q).location = .at (.trailer d) then .empty
                else if (s.moveOf (s.pallet q)).any (·.namesTrailer d) = true then
                  (if (s.pallet q).state = .inTransit then
                    { s.pallet q with state := .placed, location := .at (.lane d), handle := none, pickState := none }
                  else { s.pallet q with handle := none })
                else s.pallet q)
          ∧ (let at' := fun state => (List.finRange 256).filter fun q =>
              decide ((s.pallet q).state = state ∧ (s.pallet q).location = .at (.trailer d))
            let left := fun (kind : RecordKind) (q : Fin 256) (next : Word32) => let x := s.pallet q
              (⟨next, kind, x.tag, x.cls, none, .at (.trailer d), x.entryTime, s.clock, min (x.exposure / 960) 65535,
                ⟨x.overBudget, false, true, false⟩⟩ : JournalRecord)
            let cancelled := fun (m : Fin 32) (next : Word32) => let x := s.move m; let y := s.movedPallet m
              (⟨next, .moveCancelled, x.tag, y.cls, x.origin,
                if x.state = .inTransit then .at (.lane d) else y.location, x.pickTime.getD x.permitTime, s.clock,
                min (y.exposure / 960) 65535, ⟨y.overBudget, false, true, false⟩⟩ : JournalRecord)
            let written := ((List.finRange 32).filter fun m => (s.move m).namesTrailer d).map cancelled
              ++ (at' .aboard).map (left .shipped) ++ (at' .inbound).map (left .rejected)
            t.journal.records = s.journal.records ++ written.mapIdx (fun i j => j (s.journal.next + BitVec.ofNat 32 i))
              ∧ t.journal.held = s.journal.held + written.length
              ∧ t.journal.next = s.journal.next + BitVec.ofNat 32 written.length
              ∧ t.journal.threshold = s.journal.threshold
              ∧ (let full := written ≠ [] ∧ s.journal.threshold ≤ s.journal.held + written.length
                (t.journal.highFlag = true ↔ s.journal.highFlag = true ∨ full)
                ∧ (s.journal.highFlag = true ∨ ¬ full → t.journal.highUnposted = s.journal.highUnposted)
                ∧ (s.journal.highFlag = false → full → s.tableKept → t.journal.highUnposted = true
                  ∨ ∃ (i : Fin 48) (e : AlarmEntry), t.alarms.entries[i] = some e ∧ e.code = .journalHigh ∧ e.subject = .none
                    ∧ e.detail = some (BitVec.ofNat 16 (max s.journal.threshold (s.journal.held + 1)))
                    ∧ e.lastRaised = s.clock ∧ e.condition = .active)))
          ∧ (∀ d', d' ≠ d → t.door d' = s.door d')
          ∧ t = { s with
            doors := t.doors, pallets := t.pallets, moves := t.moves, journal := t.journal, defrosts := t.defrosts
            defrostQueue := t.defrostQueue, remainingCapacity := t.remainingCapacity, alarms := t.alarms
            attn := t.attn })
      else refused (.doorClearFault .dock tag door) (.doorClearFault door) .doorState)
    ∧ (∀ on : Byte, 2 ≤ on.toNat → refused (.doorOverride .dock tag door on) (.doorOverride door on) .badArgument))
  ∧ ∀ (tag door on : Byte) (temperature : Word16) (s : State), s.ready .dock → s.mode = .run →
    let refused := fun (status : Status) =>
      let turned := fun (c : Instr) (r : Request) => exec c s = .next (serve .dock (r.frame tag) ⟨s, status, []⟩)
      turned (.doorArmSeal .dock tag door) (.doorArmSeal door)
        ∧ turned (.doorOpenPermit .dock tag door) (.doorOpenPermit door)
        ∧ turned (.doorClose .dock tag door) (.doorClose door) ∧ turned (.doorRelease .dock tag door) (.doorRelease door)
        ∧ turned (.doorOverride .dock tag door on) (.doorOverride door on)
        ∧ turned (.doorClearFault .dock tag door) (.doorClearFault door)
        ∧ turned (.reportTrailerTemperature .dock tag door temperature) (.reportTrailerTemperature door temperature)
    (24 ≤ door.toNat → refused .badArgument)
    ∧ ∀ d : Fin 24, door = BitVec.ofNat 8 d → (s.door d).enabled = false → refused .doorState

/-- O58. The defrost requests in RUN (R72, R73, R74, R80, R83): each follows the room's state. REQUEST DEFROST queues an IDLE room;
WITHDRAW DEFROST takes a queued entry or a grant back; DEFROST BEGUN starts the heating of a grant; HEATING ENDED ends it in
its eight steps; an inhibit is only lengthened, or ended by 0; an argument out of range is
refused with BAD_ARGUMENT. An expiry of the inhibit at an earlier second tick has been taken before the request (log entry
25). -/
def Obligations.DefrostRequestsFollowTheState : Prop :=
  (∀ (tag : Byte) (r : Fin 8) (s : State), s.mode = .run → s.attentionKept →
    let room : Byte := BitVec.ofNat 8 r
    let x := s.defrost r
    (s.ready .plant →
      exec (.requestDefrost .plant tag room) s = .next (serve .plant ((Request.requestDefrost room).frame tag)
        (match x.state with
        | .idle => ⟨evaluateQueue ({ s with defrostQueue := s.defrostQueue ++ [r] }.setDefrost r { x with state := .queued }),
            .ok, []⟩
        | .queued | .draining => ⟨s, .duplicate, []⟩
        | .granted | .heating | .drip | .recovery => ⟨s, .defrost, []⟩))
      ∧ exec (.withdrawDefrost .plant tag room) s = .next (serve .plant ((Request.withdrawDefrost room).frame tag)
        (match x.state with
        | .queued | .draining =>
          ⟨evaluateQueue ({ s with defrostQueue := s.defrostQueue.erase r }.setDefrost r { x with state := .idle }), .ok, []⟩
        | .granted =>
          ⟨evaluateQueue (givePermits r ({ s with remainingCapacity := s.remainingCapacity + x.heaterLoad }.setDefrost r
            { x with state := .idle, phaseTimer := .stopped, forcedCycle := false })), .ok, []⟩
        | .idle => ⟨s, .none, []⟩
        | .heating | .drip | .recovery => ⟨s, .defrost, []⟩))
      ∧ exec (.defrostBegun .plant tag room) s = .next (serve .plant ((Request.defrostBegun room).frame tag)
        (if x.state = .granted then
          ⟨((s.setDefrost r
            { x with
              state := .heating, terminateMark := false, phaseTimer := .start x.heatingLimit, forcedFlag := false
              forcedUnposted := x.forcedUnposted && !x.forcedFlag }).setRoom r
            { s.room r with highTimer := .stopped }).setAlarms
              (if x.forcedFlag = true then s.alarms.return .defrostForced (.room r) else s.alarms), .ok, []⟩
        else ⟨s, .defrost, []⟩))
      ∧ ∀ cause : Termination, cause ≠ .none →
        exec (.heatingEnded .plant tag room (BitVec.ofNat 8 cause.place)) s = .next (serve .plant
          ((Request.heatingEnded room (BitVec.ofNat 8 cause.place)).frame tag)
          (if x.state = .heating then
            ⟨evaluateQueue (({ s with remainingCapacity := s.remainingCapacity + x.heaterLoad }.setDefrost r
              { x with
                state := .drip, phaseTimer := .start x.dripTime, forcedMark := false, lastTermination := cause
                frostIndex := 0, overrunFlag := false, overrunUnposted := x.overrunUnposted && !x.overrunFlag
                dueFlag := false, dueUnposted := x.dueUnposted && !x.dueFlag }).setAlarms
              (let a := if x.overrunFlag = true then s.alarms.return .defrostOverrun (.room r) else s.alarms
                if x.dueFlag = true then a.return .frostDue (.room r) else a)), .ok, []⟩
          else ⟨s, .defrost, []⟩)))
    ∧ (s.ready .movement → ∀ seconds : Word16,
      (seconds ≠ 0 → exec (.inhibitDefrost .movement tag room seconds) s = .next (serve .movement
        ((Request.inhibitDefrost room seconds).frame tag)
        ⟨s.setDefrost r { x with inhibit := max x.inhibit (min seconds.toNat 3600) },
          if 3600 < seconds.toNat then .clamped else .ok, value16 (max x.inhibit (min seconds.toNat 3600))⟩))
      ∧ (seconds = 0 → exec (.inhibitDefrost .movement tag room seconds) s = .next (serve .movement
        ((Request.inhibitDefrost room seconds).frame tag)
        ⟨if 0 < x.inhibit then evaluateQueue (s.setDefrost r { x with inhibit := 0 }) else s, .ok, [0, 0]⟩))))
  ∧ ∀ (tag room cause : Byte) (seconds : Word16) (s : State), s.mode = .run →
    let refused := fun (p : Port) (c : Instr) (r : Request) =>
      exec c s = .next (serve p (r.frame tag) ⟨s, .badArgument, []⟩)
    (s.ready .plant → (8 ≤ room.toNat →
        refused .plant (.requestDefrost .plant tag room) (.requestDefrost room)
          ∧ refused .plant (.withdrawDefrost .plant tag room) (.withdrawDefrost room)
          ∧ refused .plant (.defrostBegun .plant tag room) (.defrostBegun room))
      ∧ (8 ≤ room.toNat ∨ cause.toNat = 0 ∨ 3 ≤ cause.toNat →
        refused .plant (.heatingEnded .plant tag room cause) (.heatingEnded room cause)))
    ∧ (s.ready .movement → 8 ≤ room.toNat →
      refused .movement (.inhibitDefrost .movement tag room seconds) (.inhibitDefrost room seconds))

/-- O59. ENTER PALLET and REJECT PALLET in RUN (R97, R98, R99): a pallet takes the lowest free slot, INBOUND at a WORKING
door's trailer, after five checks in order; an INBOUND or PLACED pallet with no live move leaves with a record, after which
the JOURNAL_HIGH test is made (R135, R139), its exposure alarms returned, and its slot free. The accounting is the sum of held
records, live pallets and live moves (R136). A mark that is set stays set where a later raise is entered (log entry 4). -/
def Obligations.PalletsEnterAndLeave : Prop :=
  ∀ (tag : Byte) (s : State), s.ready .movement → s.mode = .run →
    s.accounting = s.journal.held + ((List.finRange 256).filter fun q => (s.pallet q).live).length
      + ((List.finRange 32).filter fun m => (s.move m).live).length
    ∧
    (∀ (pallet : Word32) (cls door : Byte), 8 ≤ cls.toNat ∨ 24 ≤ door.toNat →
      exec (.enterPallet .movement tag pallet cls door) s
        = .next (serve .movement ((Request.enterPallet pallet cls door).frame tag) ⟨s, .badArgument, []⟩))
    ∧ (∀ (pallet : Word32) (c : Fin 8) (d : Fin 24),
      let command := Instr.enterPallet .movement tag pallet (BitVec.ofNat 8 c) (BitVec.ofNat 8 d)
      let f := (Request.enterPallet pallet (BitVec.ofNat 8 c) (BitVec.ofNat 8 d)).frame tag
      let refused := fun status => exec command s = .next (serve .movement f ⟨s, status, []⟩)
      (pallet = 0 → refused .badArgument)
      ∧ (pallet ≠ 0 → (s.door d).enabled = false ∨ (s.door d).state ≠ .working → refused .doorState)
      ∧ (pallet ≠ 0 → (s.door d).enabled = true → (s.door d).state = .working →
        ((∃ q : Fin 256, (s.pallet q).live = true ∧ (s.pallet q).tag = pallet) → refused .duplicate)
        ∧ ((∀ q : Fin 256, (s.pallet q).live = true → (s.pallet q).tag ≠ pallet) →
          ((∀ q : Fin 256, (s.pallet q).live = true) → refused .full)
          ∧ ∀ q : Fin 256, (s.pallet q).live = false → (∀ i : Fin 256, i < q → (s.pallet i).live = true) →
            (512 ≤ s.accounting → refused .journalFull)
            ∧ (s.accounting < 512 → exec command s = .next (serve .movement f
              ⟨s.setPallet q ⟨.inbound, pallet, c, .at (.trailer d), none, 0, s.clock, none, false, false, false, false⟩,
                .ok, value8 q⟩)))))
    ∧ (∀ pallet : Word32, (∀ q : Fin 256, (s.pallet q).live = true → (s.pallet q).tag ≠ pallet) →
      exec (.rejectPallet .movement tag pallet) s = .next (serve .movement ((Request.rejectPallet pallet).frame tag)
        ⟨s, if pallet = 0 then .badArgument else .notFound, []⟩))
    ∧ (s.tagsKept → ∀ q : Fin 256, (s.pallet q).live = true →
      let x := s.pallet q
      let f := (Request.rejectPallet x.tag).frame tag
      (x.handle.isSome = true ∨ x.state = .inTransit ∨ x.state = .aboard →
        exec (.rejectPallet .movement tag x.tag) s = .next (serve .movement f ⟨s, .busy, []⟩))
      ∧ (x.handle = none → (x.state = .inbound ∨ x.state = .placed) → ∃ t,
        exec (.rejectPallet .movement tag x.tag) s
          = .next (serve .movement f ⟨t, .ok, bytes32 s.journal.next⟩)
        ∧ (∀ q', t.pallet q' = if q' = q then .empty else s.pallet q')
        ∧ t.journal.records = s.journal.records
          ++ [⟨s.journal.next, .rejected, x.tag, x.cls, none, x.location, x.entryTime, s.clock,
              min (x.exposure / 960) 65535, ⟨x.overBudget, false, false, false⟩⟩]
        ∧ t.journal.held = s.journal.held + 1 ∧ t.journal.next = s.journal.next + 1
        ∧ t.journal.threshold = s.journal.threshold
        ∧ (let full := s.journal.highFlag = false ∧ s.journal.threshold ≤ s.journal.held + 1
          let raised := s.alarms.raise s.clock false .journalHigh .none none (some (BitVec.ofNat 16 (s.journal.held + 1)))
          let written := if full then raised.1 else s.alarms
          let warned := if x.warned = true then written.return .exposureWarning (.pallet q) else written
          t.journal.highFlag = (s.journal.highFlag || decide full)
            ∧ t.journal.highUnposted = (if full then s.journal.highUnposted || !raised.2 else s.journal.highUnposted)
            ∧ t.alarms = if x.overBudget = true then warned.return .exposureExceeded (.pallet q) else warned)
        ∧ (s.tableKept → ∀ (i : Fin 48) (e : AlarmEntry), t.alarms.entries[i] = some e → e.subject = .pallet q →
          (e.code = .exposureWarning ∧ x.warned = true ∨ e.code = .exposureExceeded ∧ x.overBudget = true) →
          e.condition = .returned)
        ∧ t = { s with pallets := t.pallets, journal := t.journal, alarms := t.alarms, attn := t.attn }))

/-- O60. The move requests in RUN (R113, R116, R117, R120, R122, R123, R125, R126): REQUEST MOVE's checks in order and the entry it fills;
PICK lifts a PERMITTED move's pallet; PUT ends an IN_TRANSIT one at its destination or at another room or lane; CANCEL MOVE ends
either kind; a handle of another life is NOT_FOUND. -/
def Obligations.MoveRequestsFollowTheHandle : Prop :=
  ∀ (tag : Byte) (s : State), s.ready .movement → s.mode = .run → s.recordsKept →
    (∀ (d : Fin 24) (r : Fin 8),
      let open' := fun r : Fin 8 => decide ((s.defrost r).state ≠ .draining ∧ (s.defrost r).state ≠ .granted
        ∧ (s.defrost r).state ≠ .heating ∧ (s.defrost r).state ≠ .drip)
      s.onSite (.room r) = true ∧ s.onSite (.lane d) = (s.door d).enabled ∧ s.onSite (.trailer d) = (s.door d).enabled
      ∧ s.endWorking (.room r) = true ∧ s.endWorking (.lane d) = true
      ∧ s.endWorking (.trailer d) = decide ((s.door d).state = .working)
      ∧ s.endOpen (.room r) = open' r ∧ s.endOpen (.lane d) = open' (s.door d).dockRoom ∧ s.endOpen (.trailer d) = true)
    ∧
    (∀ (pallet : Word32) (b : Byte),
      let refused := fun status => exec (.requestMove .movement tag pallet b) s
        = .next (serve .movement ((Request.requestMove pallet b).frame tag) ⟨s, status, []⟩)
      (pallet = 0 → refused .badArgument)
      ∧ (pallet ≠ 0 → (∀ q : Fin 256, (s.pallet q).live = true → (s.pallet q).tag ≠ pallet) → refused .notFound)
      ∧ ∀ q : Fin 256, (s.pallet q).live = true → (s.pallet q).tag = pallet →
        ((s.pallet q).handle.isSome = true → refused .busy)
        ∧ ((s.pallet q).handle = none →
          (∀ p : Place, b = p.byte → s.onSite p = false ∨ (s.pallet q).location = .at p) → refused .badArgument))
    ∧ (∀ (q : Fin 256) (origin dest : Place), (s.pallet q).live = true → (s.pallet q).handle = none →
      (s.pallet q).location = .at origin → s.onSite dest = true → dest ≠ origin →
      let x := s.pallet q
      let command := Instr.requestMove .movement tag x.tag dest.byte
      let f := (Request.requestMove x.tag dest.byte).frame tag
      let refused := fun status => exec command s = .next (serve .movement f ⟨s, status, []⟩)
      let open5 := s.endWorking origin = true ∧ s.endWorking dest = true
      let quarantined := dest.isTrailer = true ∧ x.overBudget = true
      let low := dest.isTrailer = true
        ∧ (s.classOf x).budget * 960 - x.exposure < (s.classOf x).transitReserve * 960
      (¬ open5 → refused .doorState)
      ∧ (open5 → s.endOpen dest = false → refused .defrost)
      ∧ (open5 → s.endOpen dest = true → quarantined → refused .quarantined)
      ∧ (open5 → s.endOpen dest = true → ¬ quarantined → low → refused .lowBudget)
      ∧ (open5 → s.endOpen dest = true → ¬ quarantined → ¬ low → (∀ m : Fin 32, (s.move m).live = true) →
        refused .full)
      ∧ (open5 → s.endOpen dest = true → ¬ quarantined → ¬ low →
        ∀ m : Fin 32, (s.move m).live = false → (∀ i : Fin 32, i < m → (s.move i).live = true) →
        (512 ≤ s.accounting → refused .journalFull)
        ∧ (s.accounting < 512 → exec command s = .next (serve .movement f
          ⟨(s.setMove m ⟨.permitted, (s.move m).generation, x.tag, some origin, some dest, s.clock, none,
              .start s.permitLimit, .stopped, false, false⟩).setPallet q
            { x with handle := some ⟨m, (s.move m).generation⟩ }, .ok,
            [(s.move m).generation ++ BitVec.ofNat 5 m.val]⟩))))
    ∧ (∀ m : Fin 32, let x := s.move m
      let h : Byte := x.generation ++ BitVec.ofNat 5 m.val
      (x.state = .permitted →
        (∃ q : Fin 256, (s.pallet q).live = true ∧ (s.pallet q).tag = x.tag
          ∧ exec (.pick .movement tag h) s = .next (serve .movement ((Request.pick h).frame tag)
            ⟨(s.setPallet q
              { s.pallet q with
                pickState := some (s.pallet q).state, state := .inTransit, location := .inTransit }).setMove m
              { x with
                state := .inTransit, lapseTimer := .stopped, pickTime := some s.clock
                transitTimer := .start s.transitLimit }, .ok, bytes32 x.tag ++ bytes32 s.clock⟩))
        ∧ (∀ actual, exec (.put .movement tag h actual) s
          = .next (serve .movement ((Request.put h actual).frame tag) ⟨s, .busy, []⟩))
        ∧ ∀ location, exec (.cancelMove .movement tag h location) s
          = .next (serve .movement ((Request.cancelMove h location).frame tag)
            ⟨endMove .moveCancelled ⟨false, false, false⟩ none m s, .ok, bytes32 s.journal.next⟩))
      ∧ (x.state = .inTransit →
        exec (.pick .movement tag h) s = .next (serve .movement ((Request.pick h).frame tag) ⟨s, .busy, []⟩)
        ∧ (∀ dest, x.destination = some dest → exec (.put .movement tag h none) s
          = .next (serve .movement ((Request.put h none).frame tag)
            ⟨endMove .moveDone ⟨false, false, false⟩
              (some (if dest.isTrailer = true then .aboard else .placed, dest)) m s, .ok, bytes32 s.journal.next⟩))
        ∧ (∀ p : Place, s.onSite p = true → p.isTrailer = false →
          exec (.put .movement tag h (some p.byte)) s = .next (serve .movement ((Request.put h (some p.byte)).frame tag)
            ⟨endMove .moveDone ⟨decide (x.destination ≠ some p), false, false⟩ (some (.placed, p)) m s, .ok,
              bytes32 s.journal.next⟩)
          ∧ exec (.cancelMove .movement tag h (some p.byte)) s
            = .next (serve .movement ((Request.cancelMove h (some p.byte)).frame tag)
              ⟨endMove .moveCancelled ⟨false, false, false⟩ (some (.placed, p)) m s, .ok, bytes32 s.journal.next⟩))
        ∧ (∀ b : Byte, (∀ p : Place, b = p.byte → s.onSite p = false ∨ p.isTrailer = true) →
          exec (.put .movement tag h (some b)) s
            = .next (serve .movement ((Request.put h (some b)).frame tag) ⟨s, .badArgument, []⟩)
          ∧ exec (.cancelMove .movement tag h (some b)) s
            = .next (serve .movement ((Request.cancelMove h (some b)).frame tag) ⟨s, .badArgument, []⟩))
        ∧ ∀ (q : Fin 256) (o : Place) (st : PalletState), (s.pallet q).live = true → (s.pallet q).tag = x.tag →
          (s.pallet q).pickState = some st → x.origin = some o →
          exec (.cancelMove .movement tag h none) s = .next (serve .movement ((Request.cancelMove h none).frame tag)
            ⟨endMove .moveCancelled ⟨false, false, false⟩ (some (st, o)) m s, .ok, bytes32 s.journal.next⟩)))
    ∧ ∀ b : Byte, ((s.move (handleOf b).slot).live = false ∨ (s.move (handleOf b).slot).generation ≠ (handleOf b).generation) →
      exec (.pick .movement tag b) s = .next (serve .movement ((Request.pick b).frame tag) ⟨s, .notFound, []⟩)
      ∧ (∀ actual, exec (.put .movement tag b actual) s
        = .next (serve .movement ((Request.put b actual).frame tag) ⟨s, .notFound, []⟩))
      ∧ ∀ location, exec (.cancelMove .movement tag b location) s
        = .next (serve .movement ((Request.cancelMove b location).frame tag) ⟨s, .notFound, []⟩)

end
end

