-- ==== Sys2Proof/Laws/State.lean ====
section
/-! SUPPORT. One lemma for each field of the state and each operation that replaces a record: what the update writes, and that it
leaves every other field as it was. -/

namespace Sys2Proof.Machine

/-! ### Values per port -/

@[simp] theorem PerPort.get_set_self {α : Type} (x : PerPort α) (p : Port) (a : α) : (x.set p a).get p = a := by
  cases p <;> rfl

@[simp] theorem PerPort.get_set_ne {α : Type} (x : PerPort α) {p q : Port} (a : α) (h : q ≠ p) :
    (x.set p a).get q = x.get q := by
  cases p <;> cases q <;> first | rfl | exact absurd rfl h

@[simp] theorem PerPort.get_of {α : Type} (f : Port → α) (p : Port) : (PerPort.of f).get p = f p := by cases p <;> rfl

theorem PerPort.ext_get {α : Type} {x y : PerPort α} (h : ∀ p, x.get p = y.get p) : x = y := by
  cases x; cases y
  have h1 := h .dock
  have h2 := h .plant
  have h3 := h .movement
  simp only [PerPort.get] at h1 h2 h3
  simp [h1, h2, h3]

theorem PerPort.set_get {α : Type} (x : PerPort α) (p : Port) : x.set p (x.get p) = x := by cases p <;> rfl

/-! ### What each update leaves -/

/-! #### setChannel -/

@[simp] theorem State.setChannel_clock (s : State) (c : Fin 32) (x : Channel) : (s.setChannel c x).clock = s.clock := rfl
@[simp] theorem State.setChannel_interval (s : State) (c : Fin 32) (x : Channel) : (s.setChannel c x).interval = s.interval := rfl
@[simp] theorem State.setChannel_phase (s : State) (c : Fin 32) (x : Channel) : (s.setChannel c x).phase = s.phase := rfl
@[simp] theorem State.setChannel_exposureDue (s : State) (c : Fin 32) (x : Channel) : (s.setChannel c x).exposureDue = s.exposureDue := rfl
@[simp] theorem State.setChannel_mode (s : State) (c : Fin 32) (x : Channel) : (s.setChannel c x).mode = s.mode := rfl
@[simp] theorem State.setChannel_round (s : State) (c : Fin 32) (x : Channel) : (s.setChannel c x).round = s.round := rfl
@[simp] theorem State.setChannel_rooms (s : State) (c : Fin 32) (x : Channel) : (s.setChannel c x).rooms = s.rooms := rfl
@[simp] theorem State.setChannel_lines (s : State) (c : Fin 32) (x : Channel) : (s.setChannel c x).lines = s.lines := rfl
@[simp] theorem State.setChannel_doors (s : State) (c : Fin 32) (x : Channel) : (s.setChannel c x).doors = s.doors := rfl
@[simp] theorem State.setChannel_defrosts (s : State) (c : Fin 32) (x : Channel) : (s.setChannel c x).defrosts = s.defrosts := rfl
@[simp] theorem State.setChannel_heaterCapacity (s : State) (c : Fin 32) (x : Channel) : (s.setChannel c x).heaterCapacity = s.heaterCapacity := rfl
@[simp] theorem State.setChannel_remainingCapacity (s : State) (c : Fin 32) (x : Channel) : (s.setChannel c x).remainingCapacity = s.remainingCapacity := rfl
@[simp] theorem State.setChannel_defrostQueue (s : State) (c : Fin 32) (x : Channel) : (s.setChannel c x).defrostQueue = s.defrostQueue := rfl
@[simp] theorem State.setChannel_classes (s : State) (c : Fin 32) (x : Channel) : (s.setChannel c x).classes = s.classes := rfl
@[simp] theorem State.setChannel_pallets (s : State) (c : Fin 32) (x : Channel) : (s.setChannel c x).pallets = s.pallets := rfl
@[simp] theorem State.setChannel_moves (s : State) (c : Fin 32) (x : Channel) : (s.setChannel c x).moves = s.moves := rfl
@[simp] theorem State.setChannel_permitLimit (s : State) (c : Fin 32) (x : Channel) : (s.setChannel c x).permitLimit = s.permitLimit := rfl
@[simp] theorem State.setChannel_transitLimit (s : State) (c : Fin 32) (x : Channel) : (s.setChannel c x).transitLimit = s.transitLimit := rfl
@[simp] theorem State.setChannel_journal (s : State) (c : Fin 32) (x : Channel) : (s.setChannel c x).journal = s.journal := rfl
@[simp] theorem State.setChannel_alarms (s : State) (c : Fin 32) (x : Channel) : (s.setChannel c x).alarms = s.alarms := rfl
@[simp] theorem State.setChannel_attn (s : State) (c : Fin 32) (x : Channel) : (s.setChannel c x).attn = s.attn := rfl
@[simp] theorem State.setChannel_ports (s : State) (c : Fin 32) (x : Channel) : (s.setChannel c x).ports = s.ports := rfl
@[simp] theorem State.setChannel_pending (s : State) (c : Fin 32) (x : Channel) : (s.setChannel c x).pending = s.pending := rfl

@[simp] theorem State.setChannel_room (s : State) (c : Fin 32) (x : Channel) (i : Fin 8) : (s.setChannel c x).room i = s.room i := rfl
@[simp] theorem State.setChannel_door (s : State) (c : Fin 32) (x : Channel) (i : Fin 24) : (s.setChannel c x).door i = s.door i := rfl
@[simp] theorem State.setChannel_defrost (s : State) (c : Fin 32) (x : Channel) (i : Fin 8) : (s.setChannel c x).defrost i = s.defrost i := rfl
@[simp] theorem State.setChannel_productClass (s : State) (c : Fin 32) (x : Channel) (i : Fin 8) : (s.setChannel c x).productClass i = s.productClass i := rfl
@[simp] theorem State.setChannel_pallet (s : State) (c : Fin 32) (x : Channel) (i : Fin 256) : (s.setChannel c x).pallet i = s.pallet i := rfl
@[simp] theorem State.setChannel_move (s : State) (c : Fin 32) (x : Channel) (i : Fin 32) : (s.setChannel c x).move i = s.move i := rfl
@[simp] theorem State.setChannel_port (s : State) (c : Fin 32) (x : Channel) (i : Port) : (s.setChannel c x).port i = s.port i := rfl

/-! #### setRoom -/

@[simp] theorem State.setRoom_clock (s : State) (r : Fin 8) (x : Room) : (s.setRoom r x).clock = s.clock := rfl
@[simp] theorem State.setRoom_interval (s : State) (r : Fin 8) (x : Room) : (s.setRoom r x).interval = s.interval := rfl
@[simp] theorem State.setRoom_phase (s : State) (r : Fin 8) (x : Room) : (s.setRoom r x).phase = s.phase := rfl
@[simp] theorem State.setRoom_exposureDue (s : State) (r : Fin 8) (x : Room) : (s.setRoom r x).exposureDue = s.exposureDue := rfl
@[simp] theorem State.setRoom_mode (s : State) (r : Fin 8) (x : Room) : (s.setRoom r x).mode = s.mode := rfl
@[simp] theorem State.setRoom_channels (s : State) (r : Fin 8) (x : Room) : (s.setRoom r x).channels = s.channels := rfl
@[simp] theorem State.setRoom_round (s : State) (r : Fin 8) (x : Room) : (s.setRoom r x).round = s.round := rfl
@[simp] theorem State.setRoom_lines (s : State) (r : Fin 8) (x : Room) : (s.setRoom r x).lines = s.lines := rfl
@[simp] theorem State.setRoom_doors (s : State) (r : Fin 8) (x : Room) : (s.setRoom r x).doors = s.doors := rfl
@[simp] theorem State.setRoom_defrosts (s : State) (r : Fin 8) (x : Room) : (s.setRoom r x).defrosts = s.defrosts := rfl
@[simp] theorem State.setRoom_heaterCapacity (s : State) (r : Fin 8) (x : Room) : (s.setRoom r x).heaterCapacity = s.heaterCapacity := rfl
@[simp] theorem State.setRoom_remainingCapacity (s : State) (r : Fin 8) (x : Room) : (s.setRoom r x).remainingCapacity = s.remainingCapacity := rfl
@[simp] theorem State.setRoom_defrostQueue (s : State) (r : Fin 8) (x : Room) : (s.setRoom r x).defrostQueue = s.defrostQueue := rfl
@[simp] theorem State.setRoom_classes (s : State) (r : Fin 8) (x : Room) : (s.setRoom r x).classes = s.classes := rfl
@[simp] theorem State.setRoom_pallets (s : State) (r : Fin 8) (x : Room) : (s.setRoom r x).pallets = s.pallets := rfl
@[simp] theorem State.setRoom_moves (s : State) (r : Fin 8) (x : Room) : (s.setRoom r x).moves = s.moves := rfl
@[simp] theorem State.setRoom_permitLimit (s : State) (r : Fin 8) (x : Room) : (s.setRoom r x).permitLimit = s.permitLimit := rfl
@[simp] theorem State.setRoom_transitLimit (s : State) (r : Fin 8) (x : Room) : (s.setRoom r x).transitLimit = s.transitLimit := rfl
@[simp] theorem State.setRoom_journal (s : State) (r : Fin 8) (x : Room) : (s.setRoom r x).journal = s.journal := rfl
@[simp] theorem State.setRoom_alarms (s : State) (r : Fin 8) (x : Room) : (s.setRoom r x).alarms = s.alarms := rfl
@[simp] theorem State.setRoom_attn (s : State) (r : Fin 8) (x : Room) : (s.setRoom r x).attn = s.attn := rfl
@[simp] theorem State.setRoom_ports (s : State) (r : Fin 8) (x : Room) : (s.setRoom r x).ports = s.ports := rfl
@[simp] theorem State.setRoom_pending (s : State) (r : Fin 8) (x : Room) : (s.setRoom r x).pending = s.pending := rfl

@[simp] theorem State.setRoom_channel (s : State) (r : Fin 8) (x : Room) (i : Fin 32) : (s.setRoom r x).channel i = s.channel i := rfl
@[simp] theorem State.setRoom_door (s : State) (r : Fin 8) (x : Room) (i : Fin 24) : (s.setRoom r x).door i = s.door i := rfl
@[simp] theorem State.setRoom_defrost (s : State) (r : Fin 8) (x : Room) (i : Fin 8) : (s.setRoom r x).defrost i = s.defrost i := rfl
@[simp] theorem State.setRoom_productClass (s : State) (r : Fin 8) (x : Room) (i : Fin 8) : (s.setRoom r x).productClass i = s.productClass i := rfl
@[simp] theorem State.setRoom_pallet (s : State) (r : Fin 8) (x : Room) (i : Fin 256) : (s.setRoom r x).pallet i = s.pallet i := rfl
@[simp] theorem State.setRoom_move (s : State) (r : Fin 8) (x : Room) (i : Fin 32) : (s.setRoom r x).move i = s.move i := rfl
@[simp] theorem State.setRoom_port (s : State) (r : Fin 8) (x : Room) (i : Port) : (s.setRoom r x).port i = s.port i := rfl

/-! #### setDoor -/

@[simp] theorem State.setDoor_clock (s : State) (d : Fin 24) (x : Door) : (s.setDoor d x).clock = s.clock := rfl
@[simp] theorem State.setDoor_interval (s : State) (d : Fin 24) (x : Door) : (s.setDoor d x).interval = s.interval := rfl
@[simp] theorem State.setDoor_phase (s : State) (d : Fin 24) (x : Door) : (s.setDoor d x).phase = s.phase := rfl
@[simp] theorem State.setDoor_exposureDue (s : State) (d : Fin 24) (x : Door) : (s.setDoor d x).exposureDue = s.exposureDue := rfl
@[simp] theorem State.setDoor_mode (s : State) (d : Fin 24) (x : Door) : (s.setDoor d x).mode = s.mode := rfl
@[simp] theorem State.setDoor_channels (s : State) (d : Fin 24) (x : Door) : (s.setDoor d x).channels = s.channels := rfl
@[simp] theorem State.setDoor_round (s : State) (d : Fin 24) (x : Door) : (s.setDoor d x).round = s.round := rfl
@[simp] theorem State.setDoor_rooms (s : State) (d : Fin 24) (x : Door) : (s.setDoor d x).rooms = s.rooms := rfl
@[simp] theorem State.setDoor_lines (s : State) (d : Fin 24) (x : Door) : (s.setDoor d x).lines = s.lines := rfl
@[simp] theorem State.setDoor_defrosts (s : State) (d : Fin 24) (x : Door) : (s.setDoor d x).defrosts = s.defrosts := rfl
@[simp] theorem State.setDoor_heaterCapacity (s : State) (d : Fin 24) (x : Door) : (s.setDoor d x).heaterCapacity = s.heaterCapacity := rfl
@[simp] theorem State.setDoor_remainingCapacity (s : State) (d : Fin 24) (x : Door) : (s.setDoor d x).remainingCapacity = s.remainingCapacity := rfl
@[simp] theorem State.setDoor_defrostQueue (s : State) (d : Fin 24) (x : Door) : (s.setDoor d x).defrostQueue = s.defrostQueue := rfl
@[simp] theorem State.setDoor_classes (s : State) (d : Fin 24) (x : Door) : (s.setDoor d x).classes = s.classes := rfl
@[simp] theorem State.setDoor_pallets (s : State) (d : Fin 24) (x : Door) : (s.setDoor d x).pallets = s.pallets := rfl
@[simp] theorem State.setDoor_moves (s : State) (d : Fin 24) (x : Door) : (s.setDoor d x).moves = s.moves := rfl
@[simp] theorem State.setDoor_permitLimit (s : State) (d : Fin 24) (x : Door) : (s.setDoor d x).permitLimit = s.permitLimit := rfl
@[simp] theorem State.setDoor_transitLimit (s : State) (d : Fin 24) (x : Door) : (s.setDoor d x).transitLimit = s.transitLimit := rfl
@[simp] theorem State.setDoor_journal (s : State) (d : Fin 24) (x : Door) : (s.setDoor d x).journal = s.journal := rfl
@[simp] theorem State.setDoor_alarms (s : State) (d : Fin 24) (x : Door) : (s.setDoor d x).alarms = s.alarms := rfl
@[simp] theorem State.setDoor_attn (s : State) (d : Fin 24) (x : Door) : (s.setDoor d x).attn = s.attn := rfl
@[simp] theorem State.setDoor_ports (s : State) (d : Fin 24) (x : Door) : (s.setDoor d x).ports = s.ports := rfl
@[simp] theorem State.setDoor_pending (s : State) (d : Fin 24) (x : Door) : (s.setDoor d x).pending = s.pending := rfl

@[simp] theorem State.setDoor_channel (s : State) (d : Fin 24) (x : Door) (i : Fin 32) : (s.setDoor d x).channel i = s.channel i := rfl
@[simp] theorem State.setDoor_room (s : State) (d : Fin 24) (x : Door) (i : Fin 8) : (s.setDoor d x).room i = s.room i := rfl
@[simp] theorem State.setDoor_defrost (s : State) (d : Fin 24) (x : Door) (i : Fin 8) : (s.setDoor d x).defrost i = s.defrost i := rfl
@[simp] theorem State.setDoor_productClass (s : State) (d : Fin 24) (x : Door) (i : Fin 8) : (s.setDoor d x).productClass i = s.productClass i := rfl
@[simp] theorem State.setDoor_pallet (s : State) (d : Fin 24) (x : Door) (i : Fin 256) : (s.setDoor d x).pallet i = s.pallet i := rfl
@[simp] theorem State.setDoor_move (s : State) (d : Fin 24) (x : Door) (i : Fin 32) : (s.setDoor d x).move i = s.move i := rfl
@[simp] theorem State.setDoor_port (s : State) (d : Fin 24) (x : Door) (i : Port) : (s.setDoor d x).port i = s.port i := rfl

/-! #### setDefrost -/

@[simp] theorem State.setDefrost_clock (s : State) (r : Fin 8) (x : Defrost) : (s.setDefrost r x).clock = s.clock := rfl
@[simp] theorem State.setDefrost_interval (s : State) (r : Fin 8) (x : Defrost) : (s.setDefrost r x).interval = s.interval := rfl
@[simp] theorem State.setDefrost_phase (s : State) (r : Fin 8) (x : Defrost) : (s.setDefrost r x).phase = s.phase := rfl
@[simp] theorem State.setDefrost_exposureDue (s : State) (r : Fin 8) (x : Defrost) : (s.setDefrost r x).exposureDue = s.exposureDue := rfl
@[simp] theorem State.setDefrost_mode (s : State) (r : Fin 8) (x : Defrost) : (s.setDefrost r x).mode = s.mode := rfl
@[simp] theorem State.setDefrost_channels (s : State) (r : Fin 8) (x : Defrost) : (s.setDefrost r x).channels = s.channels := rfl
@[simp] theorem State.setDefrost_round (s : State) (r : Fin 8) (x : Defrost) : (s.setDefrost r x).round = s.round := rfl
@[simp] theorem State.setDefrost_rooms (s : State) (r : Fin 8) (x : Defrost) : (s.setDefrost r x).rooms = s.rooms := rfl
@[simp] theorem State.setDefrost_lines (s : State) (r : Fin 8) (x : Defrost) : (s.setDefrost r x).lines = s.lines := rfl
@[simp] theorem State.setDefrost_doors (s : State) (r : Fin 8) (x : Defrost) : (s.setDefrost r x).doors = s.doors := rfl
@[simp] theorem State.setDefrost_heaterCapacity (s : State) (r : Fin 8) (x : Defrost) : (s.setDefrost r x).heaterCapacity = s.heaterCapacity := rfl
@[simp] theorem State.setDefrost_remainingCapacity (s : State) (r : Fin 8) (x : Defrost) : (s.setDefrost r x).remainingCapacity = s.remainingCapacity := rfl
@[simp] theorem State.setDefrost_defrostQueue (s : State) (r : Fin 8) (x : Defrost) : (s.setDefrost r x).defrostQueue = s.defrostQueue := rfl
@[simp] theorem State.setDefrost_classes (s : State) (r : Fin 8) (x : Defrost) : (s.setDefrost r x).classes = s.classes := rfl
@[simp] theorem State.setDefrost_pallets (s : State) (r : Fin 8) (x : Defrost) : (s.setDefrost r x).pallets = s.pallets := rfl
@[simp] theorem State.setDefrost_moves (s : State) (r : Fin 8) (x : Defrost) : (s.setDefrost r x).moves = s.moves := rfl
@[simp] theorem State.setDefrost_permitLimit (s : State) (r : Fin 8) (x : Defrost) : (s.setDefrost r x).permitLimit = s.permitLimit := rfl
@[simp] theorem State.setDefrost_transitLimit (s : State) (r : Fin 8) (x : Defrost) : (s.setDefrost r x).transitLimit = s.transitLimit := rfl
@[simp] theorem State.setDefrost_journal (s : State) (r : Fin 8) (x : Defrost) : (s.setDefrost r x).journal = s.journal := rfl
@[simp] theorem State.setDefrost_alarms (s : State) (r : Fin 8) (x : Defrost) : (s.setDefrost r x).alarms = s.alarms := rfl
@[simp] theorem State.setDefrost_attn (s : State) (r : Fin 8) (x : Defrost) : (s.setDefrost r x).attn = s.attn := rfl
@[simp] theorem State.setDefrost_ports (s : State) (r : Fin 8) (x : Defrost) : (s.setDefrost r x).ports = s.ports := rfl
@[simp] theorem State.setDefrost_pending (s : State) (r : Fin 8) (x : Defrost) : (s.setDefrost r x).pending = s.pending := rfl

@[simp] theorem State.setDefrost_channel (s : State) (r : Fin 8) (x : Defrost) (i : Fin 32) : (s.setDefrost r x).channel i = s.channel i := rfl
@[simp] theorem State.setDefrost_room (s : State) (r : Fin 8) (x : Defrost) (i : Fin 8) : (s.setDefrost r x).room i = s.room i := rfl
@[simp] theorem State.setDefrost_door (s : State) (r : Fin 8) (x : Defrost) (i : Fin 24) : (s.setDefrost r x).door i = s.door i := rfl
@[simp] theorem State.setDefrost_productClass (s : State) (r : Fin 8) (x : Defrost) (i : Fin 8) : (s.setDefrost r x).productClass i = s.productClass i := rfl
@[simp] theorem State.setDefrost_pallet (s : State) (r : Fin 8) (x : Defrost) (i : Fin 256) : (s.setDefrost r x).pallet i = s.pallet i := rfl
@[simp] theorem State.setDefrost_move (s : State) (r : Fin 8) (x : Defrost) (i : Fin 32) : (s.setDefrost r x).move i = s.move i := rfl
@[simp] theorem State.setDefrost_port (s : State) (r : Fin 8) (x : Defrost) (i : Port) : (s.setDefrost r x).port i = s.port i := rfl

/-! #### setClass -/

@[simp] theorem State.setClass_clock (s : State) (c : Fin 8) (x : ProductClass) : (s.setClass c x).clock = s.clock := rfl
@[simp] theorem State.setClass_interval (s : State) (c : Fin 8) (x : ProductClass) : (s.setClass c x).interval = s.interval := rfl
@[simp] theorem State.setClass_phase (s : State) (c : Fin 8) (x : ProductClass) : (s.setClass c x).phase = s.phase := rfl
@[simp] theorem State.setClass_exposureDue (s : State) (c : Fin 8) (x : ProductClass) : (s.setClass c x).exposureDue = s.exposureDue := rfl
@[simp] theorem State.setClass_mode (s : State) (c : Fin 8) (x : ProductClass) : (s.setClass c x).mode = s.mode := rfl
@[simp] theorem State.setClass_channels (s : State) (c : Fin 8) (x : ProductClass) : (s.setClass c x).channels = s.channels := rfl
@[simp] theorem State.setClass_round (s : State) (c : Fin 8) (x : ProductClass) : (s.setClass c x).round = s.round := rfl
@[simp] theorem State.setClass_rooms (s : State) (c : Fin 8) (x : ProductClass) : (s.setClass c x).rooms = s.rooms := rfl
@[simp] theorem State.setClass_lines (s : State) (c : Fin 8) (x : ProductClass) : (s.setClass c x).lines = s.lines := rfl
@[simp] theorem State.setClass_doors (s : State) (c : Fin 8) (x : ProductClass) : (s.setClass c x).doors = s.doors := rfl
@[simp] theorem State.setClass_defrosts (s : State) (c : Fin 8) (x : ProductClass) : (s.setClass c x).defrosts = s.defrosts := rfl
@[simp] theorem State.setClass_heaterCapacity (s : State) (c : Fin 8) (x : ProductClass) : (s.setClass c x).heaterCapacity = s.heaterCapacity := rfl
@[simp] theorem State.setClass_remainingCapacity (s : State) (c : Fin 8) (x : ProductClass) : (s.setClass c x).remainingCapacity = s.remainingCapacity := rfl
@[simp] theorem State.setClass_defrostQueue (s : State) (c : Fin 8) (x : ProductClass) : (s.setClass c x).defrostQueue = s.defrostQueue := rfl
@[simp] theorem State.setClass_pallets (s : State) (c : Fin 8) (x : ProductClass) : (s.setClass c x).pallets = s.pallets := rfl
@[simp] theorem State.setClass_moves (s : State) (c : Fin 8) (x : ProductClass) : (s.setClass c x).moves = s.moves := rfl
@[simp] theorem State.setClass_permitLimit (s : State) (c : Fin 8) (x : ProductClass) : (s.setClass c x).permitLimit = s.permitLimit := rfl
@[simp] theorem State.setClass_transitLimit (s : State) (c : Fin 8) (x : ProductClass) : (s.setClass c x).transitLimit = s.transitLimit := rfl
@[simp] theorem State.setClass_journal (s : State) (c : Fin 8) (x : ProductClass) : (s.setClass c x).journal = s.journal := rfl
@[simp] theorem State.setClass_alarms (s : State) (c : Fin 8) (x : ProductClass) : (s.setClass c x).alarms = s.alarms := rfl
@[simp] theorem State.setClass_attn (s : State) (c : Fin 8) (x : ProductClass) : (s.setClass c x).attn = s.attn := rfl
@[simp] theorem State.setClass_ports (s : State) (c : Fin 8) (x : ProductClass) : (s.setClass c x).ports = s.ports := rfl
@[simp] theorem State.setClass_pending (s : State) (c : Fin 8) (x : ProductClass) : (s.setClass c x).pending = s.pending := rfl

@[simp] theorem State.setClass_channel (s : State) (c : Fin 8) (x : ProductClass) (i : Fin 32) : (s.setClass c x).channel i = s.channel i := rfl
@[simp] theorem State.setClass_room (s : State) (c : Fin 8) (x : ProductClass) (i : Fin 8) : (s.setClass c x).room i = s.room i := rfl
@[simp] theorem State.setClass_door (s : State) (c : Fin 8) (x : ProductClass) (i : Fin 24) : (s.setClass c x).door i = s.door i := rfl
@[simp] theorem State.setClass_defrost (s : State) (c : Fin 8) (x : ProductClass) (i : Fin 8) : (s.setClass c x).defrost i = s.defrost i := rfl
@[simp] theorem State.setClass_pallet (s : State) (c : Fin 8) (x : ProductClass) (i : Fin 256) : (s.setClass c x).pallet i = s.pallet i := rfl
@[simp] theorem State.setClass_move (s : State) (c : Fin 8) (x : ProductClass) (i : Fin 32) : (s.setClass c x).move i = s.move i := rfl
@[simp] theorem State.setClass_port (s : State) (c : Fin 8) (x : ProductClass) (i : Port) : (s.setClass c x).port i = s.port i := rfl

/-! #### setPallet -/

@[simp] theorem State.setPallet_clock (s : State) (q : Fin 256) (x : Pallet) : (s.setPallet q x).clock = s.clock := rfl
@[simp] theorem State.setPallet_interval (s : State) (q : Fin 256) (x : Pallet) : (s.setPallet q x).interval = s.interval := rfl
@[simp] theorem State.setPallet_phase (s : State) (q : Fin 256) (x : Pallet) : (s.setPallet q x).phase = s.phase := rfl
@[simp] theorem State.setPallet_exposureDue (s : State) (q : Fin 256) (x : Pallet) : (s.setPallet q x).exposureDue = s.exposureDue := rfl
@[simp] theorem State.setPallet_mode (s : State) (q : Fin 256) (x : Pallet) : (s.setPallet q x).mode = s.mode := rfl
@[simp] theorem State.setPallet_channels (s : State) (q : Fin 256) (x : Pallet) : (s.setPallet q x).channels = s.channels := rfl
@[simp] theorem State.setPallet_round (s : State) (q : Fin 256) (x : Pallet) : (s.setPallet q x).round = s.round := rfl
@[simp] theorem State.setPallet_rooms (s : State) (q : Fin 256) (x : Pallet) : (s.setPallet q x).rooms = s.rooms := rfl
@[simp] theorem State.setPallet_lines (s : State) (q : Fin 256) (x : Pallet) : (s.setPallet q x).lines = s.lines := rfl
@[simp] theorem State.setPallet_doors (s : State) (q : Fin 256) (x : Pallet) : (s.setPallet q x).doors = s.doors := rfl
@[simp] theorem State.setPallet_defrosts (s : State) (q : Fin 256) (x : Pallet) : (s.setPallet q x).defrosts = s.defrosts := rfl
@[simp] theorem State.setPallet_heaterCapacity (s : State) (q : Fin 256) (x : Pallet) : (s.setPallet q x).heaterCapacity = s.heaterCapacity := rfl
@[simp] theorem State.setPallet_remainingCapacity (s : State) (q : Fin 256) (x : Pallet) : (s.setPallet q x).remainingCapacity = s.remainingCapacity := rfl
@[simp] theorem State.setPallet_defrostQueue (s : State) (q : Fin 256) (x : Pallet) : (s.setPallet q x).defrostQueue = s.defrostQueue := rfl
@[simp] theorem State.setPallet_classes (s : State) (q : Fin 256) (x : Pallet) : (s.setPallet q x).classes = s.classes := rfl
@[simp] theorem State.setPallet_moves (s : State) (q : Fin 256) (x : Pallet) : (s.setPallet q x).moves = s.moves := rfl
@[simp] theorem State.setPallet_permitLimit (s : State) (q : Fin 256) (x : Pallet) : (s.setPallet q x).permitLimit = s.permitLimit := rfl
@[simp] theorem State.setPallet_transitLimit (s : State) (q : Fin 256) (x : Pallet) : (s.setPallet q x).transitLimit = s.transitLimit := rfl
@[simp] theorem State.setPallet_journal (s : State) (q : Fin 256) (x : Pallet) : (s.setPallet q x).journal = s.journal := rfl
@[simp] theorem State.setPallet_alarms (s : State) (q : Fin 256) (x : Pallet) : (s.setPallet q x).alarms = s.alarms := rfl
@[simp] theorem State.setPallet_attn (s : State) (q : Fin 256) (x : Pallet) : (s.setPallet q x).attn = s.attn := rfl
@[simp] theorem State.setPallet_ports (s : State) (q : Fin 256) (x : Pallet) : (s.setPallet q x).ports = s.ports := rfl
@[simp] theorem State.setPallet_pending (s : State) (q : Fin 256) (x : Pallet) : (s.setPallet q x).pending = s.pending := rfl

@[simp] theorem State.setPallet_channel (s : State) (q : Fin 256) (x : Pallet) (i : Fin 32) : (s.setPallet q x).channel i = s.channel i := rfl
@[simp] theorem State.setPallet_room (s : State) (q : Fin 256) (x : Pallet) (i : Fin 8) : (s.setPallet q x).room i = s.room i := rfl
@[simp] theorem State.setPallet_door (s : State) (q : Fin 256) (x : Pallet) (i : Fin 24) : (s.setPallet q x).door i = s.door i := rfl
@[simp] theorem State.setPallet_defrost (s : State) (q : Fin 256) (x : Pallet) (i : Fin 8) : (s.setPallet q x).defrost i = s.defrost i := rfl
@[simp] theorem State.setPallet_productClass (s : State) (q : Fin 256) (x : Pallet) (i : Fin 8) : (s.setPallet q x).productClass i = s.productClass i := rfl
@[simp] theorem State.setPallet_move (s : State) (q : Fin 256) (x : Pallet) (i : Fin 32) : (s.setPallet q x).move i = s.move i := rfl
@[simp] theorem State.setPallet_port (s : State) (q : Fin 256) (x : Pallet) (i : Port) : (s.setPallet q x).port i = s.port i := rfl

/-! #### setMove -/

@[simp] theorem State.setMove_clock (s : State) (m : Fin 32) (x : Move) : (s.setMove m x).clock = s.clock := rfl
@[simp] theorem State.setMove_interval (s : State) (m : Fin 32) (x : Move) : (s.setMove m x).interval = s.interval := rfl
@[simp] theorem State.setMove_phase (s : State) (m : Fin 32) (x : Move) : (s.setMove m x).phase = s.phase := rfl
@[simp] theorem State.setMove_exposureDue (s : State) (m : Fin 32) (x : Move) : (s.setMove m x).exposureDue = s.exposureDue := rfl
@[simp] theorem State.setMove_mode (s : State) (m : Fin 32) (x : Move) : (s.setMove m x).mode = s.mode := rfl
@[simp] theorem State.setMove_channels (s : State) (m : Fin 32) (x : Move) : (s.setMove m x).channels = s.channels := rfl
@[simp] theorem State.setMove_round (s : State) (m : Fin 32) (x : Move) : (s.setMove m x).round = s.round := rfl
@[simp] theorem State.setMove_rooms (s : State) (m : Fin 32) (x : Move) : (s.setMove m x).rooms = s.rooms := rfl
@[simp] theorem State.setMove_lines (s : State) (m : Fin 32) (x : Move) : (s.setMove m x).lines = s.lines := rfl
@[simp] theorem State.setMove_doors (s : State) (m : Fin 32) (x : Move) : (s.setMove m x).doors = s.doors := rfl
@[simp] theorem State.setMove_defrosts (s : State) (m : Fin 32) (x : Move) : (s.setMove m x).defrosts = s.defrosts := rfl
@[simp] theorem State.setMove_heaterCapacity (s : State) (m : Fin 32) (x : Move) : (s.setMove m x).heaterCapacity = s.heaterCapacity := rfl
@[simp] theorem State.setMove_remainingCapacity (s : State) (m : Fin 32) (x : Move) : (s.setMove m x).remainingCapacity = s.remainingCapacity := rfl
@[simp] theorem State.setMove_defrostQueue (s : State) (m : Fin 32) (x : Move) : (s.setMove m x).defrostQueue = s.defrostQueue := rfl
@[simp] theorem State.setMove_classes (s : State) (m : Fin 32) (x : Move) : (s.setMove m x).classes = s.classes := rfl
@[simp] theorem State.setMove_pallets (s : State) (m : Fin 32) (x : Move) : (s.setMove m x).pallets = s.pallets := rfl
@[simp] theorem State.setMove_permitLimit (s : State) (m : Fin 32) (x : Move) : (s.setMove m x).permitLimit = s.permitLimit := rfl
@[simp] theorem State.setMove_transitLimit (s : State) (m : Fin 32) (x : Move) : (s.setMove m x).transitLimit = s.transitLimit := rfl
@[simp] theorem State.setMove_journal (s : State) (m : Fin 32) (x : Move) : (s.setMove m x).journal = s.journal := rfl
@[simp] theorem State.setMove_alarms (s : State) (m : Fin 32) (x : Move) : (s.setMove m x).alarms = s.alarms := rfl
@[simp] theorem State.setMove_attn (s : State) (m : Fin 32) (x : Move) : (s.setMove m x).attn = s.attn := rfl
@[simp] theorem State.setMove_ports (s : State) (m : Fin 32) (x : Move) : (s.setMove m x).ports = s.ports := rfl
@[simp] theorem State.setMove_pending (s : State) (m : Fin 32) (x : Move) : (s.setMove m x).pending = s.pending := rfl

@[simp] theorem State.setMove_channel (s : State) (m : Fin 32) (x : Move) (i : Fin 32) : (s.setMove m x).channel i = s.channel i := rfl
@[simp] theorem State.setMove_room (s : State) (m : Fin 32) (x : Move) (i : Fin 8) : (s.setMove m x).room i = s.room i := rfl
@[simp] theorem State.setMove_door (s : State) (m : Fin 32) (x : Move) (i : Fin 24) : (s.setMove m x).door i = s.door i := rfl
@[simp] theorem State.setMove_defrost (s : State) (m : Fin 32) (x : Move) (i : Fin 8) : (s.setMove m x).defrost i = s.defrost i := rfl
@[simp] theorem State.setMove_productClass (s : State) (m : Fin 32) (x : Move) (i : Fin 8) : (s.setMove m x).productClass i = s.productClass i := rfl
@[simp] theorem State.setMove_pallet (s : State) (m : Fin 32) (x : Move) (i : Fin 256) : (s.setMove m x).pallet i = s.pallet i := rfl
@[simp] theorem State.setMove_port (s : State) (m : Fin 32) (x : Move) (i : Port) : (s.setMove m x).port i = s.port i := rfl

/-! #### setJournal -/

@[simp] theorem State.setJournal_clock (s : State) (j : Journal) : (s.setJournal j).clock = s.clock := rfl
@[simp] theorem State.setJournal_interval (s : State) (j : Journal) : (s.setJournal j).interval = s.interval := rfl
@[simp] theorem State.setJournal_phase (s : State) (j : Journal) : (s.setJournal j).phase = s.phase := rfl
@[simp] theorem State.setJournal_exposureDue (s : State) (j : Journal) : (s.setJournal j).exposureDue = s.exposureDue := rfl
@[simp] theorem State.setJournal_mode (s : State) (j : Journal) : (s.setJournal j).mode = s.mode := rfl
@[simp] theorem State.setJournal_channels (s : State) (j : Journal) : (s.setJournal j).channels = s.channels := rfl
@[simp] theorem State.setJournal_round (s : State) (j : Journal) : (s.setJournal j).round = s.round := rfl
@[simp] theorem State.setJournal_rooms (s : State) (j : Journal) : (s.setJournal j).rooms = s.rooms := rfl
@[simp] theorem State.setJournal_lines (s : State) (j : Journal) : (s.setJournal j).lines = s.lines := rfl
@[simp] theorem State.setJournal_doors (s : State) (j : Journal) : (s.setJournal j).doors = s.doors := rfl
@[simp] theorem State.setJournal_defrosts (s : State) (j : Journal) : (s.setJournal j).defrosts = s.defrosts := rfl
@[simp] theorem State.setJournal_heaterCapacity (s : State) (j : Journal) : (s.setJournal j).heaterCapacity = s.heaterCapacity := rfl
@[simp] theorem State.setJournal_remainingCapacity (s : State) (j : Journal) : (s.setJournal j).remainingCapacity = s.remainingCapacity := rfl
@[simp] theorem State.setJournal_defrostQueue (s : State) (j : Journal) : (s.setJournal j).defrostQueue = s.defrostQueue := rfl
@[simp] theorem State.setJournal_classes (s : State) (j : Journal) : (s.setJournal j).classes = s.classes := rfl
@[simp] theorem State.setJournal_pallets (s : State) (j : Journal) : (s.setJournal j).pallets = s.pallets := rfl
@[simp] theorem State.setJournal_moves (s : State) (j : Journal) : (s.setJournal j).moves = s.moves := rfl
@[simp] theorem State.setJournal_permitLimit (s : State) (j : Journal) : (s.setJournal j).permitLimit = s.permitLimit := rfl
@[simp] theorem State.setJournal_transitLimit (s : State) (j : Journal) : (s.setJournal j).transitLimit = s.transitLimit := rfl
@[simp] theorem State.setJournal_alarms (s : State) (j : Journal) : (s.setJournal j).alarms = s.alarms := rfl
@[simp] theorem State.setJournal_attn (s : State) (j : Journal) : (s.setJournal j).attn = s.attn := rfl
@[simp] theorem State.setJournal_ports (s : State) (j : Journal) : (s.setJournal j).ports = s.ports := rfl
@[simp] theorem State.setJournal_pending (s : State) (j : Journal) : (s.setJournal j).pending = s.pending := rfl
@[simp] theorem State.setJournal_journal (s : State) (j : Journal) : (s.setJournal j).journal = j := rfl

@[simp] theorem State.setJournal_channel (s : State) (j : Journal) (i : Fin 32) : (s.setJournal j).channel i = s.channel i := rfl
@[simp] theorem State.setJournal_room (s : State) (j : Journal) (i : Fin 8) : (s.setJournal j).room i = s.room i := rfl
@[simp] theorem State.setJournal_door (s : State) (j : Journal) (i : Fin 24) : (s.setJournal j).door i = s.door i := rfl
@[simp] theorem State.setJournal_defrost (s : State) (j : Journal) (i : Fin 8) : (s.setJournal j).defrost i = s.defrost i := rfl
@[simp] theorem State.setJournal_productClass (s : State) (j : Journal) (i : Fin 8) : (s.setJournal j).productClass i = s.productClass i := rfl
@[simp] theorem State.setJournal_pallet (s : State) (j : Journal) (i : Fin 256) : (s.setJournal j).pallet i = s.pallet i := rfl
@[simp] theorem State.setJournal_move (s : State) (j : Journal) (i : Fin 32) : (s.setJournal j).move i = s.move i := rfl
@[simp] theorem State.setJournal_port (s : State) (j : Journal) (i : Port) : (s.setJournal j).port i = s.port i := rfl

/-! #### setPort -/

@[simp] theorem State.setPort_clock (s : State) (p : Port) (x : PortControl) : (s.setPort p x).clock = s.clock := rfl
@[simp] theorem State.setPort_interval (s : State) (p : Port) (x : PortControl) : (s.setPort p x).interval = s.interval := rfl
@[simp] theorem State.setPort_phase (s : State) (p : Port) (x : PortControl) : (s.setPort p x).phase = s.phase := rfl
@[simp] theorem State.setPort_exposureDue (s : State) (p : Port) (x : PortControl) : (s.setPort p x).exposureDue = s.exposureDue := rfl
@[simp] theorem State.setPort_mode (s : State) (p : Port) (x : PortControl) : (s.setPort p x).mode = s.mode := rfl
@[simp] theorem State.setPort_channels (s : State) (p : Port) (x : PortControl) : (s.setPort p x).channels = s.channels := rfl
@[simp] theorem State.setPort_round (s : State) (p : Port) (x : PortControl) : (s.setPort p x).round = s.round := rfl
@[simp] theorem State.setPort_rooms (s : State) (p : Port) (x : PortControl) : (s.setPort p x).rooms = s.rooms := rfl
@[simp] theorem State.setPort_lines (s : State) (p : Port) (x : PortControl) : (s.setPort p x).lines = s.lines := rfl
@[simp] theorem State.setPort_doors (s : State) (p : Port) (x : PortControl) : (s.setPort p x).doors = s.doors := rfl
@[simp] theorem State.setPort_defrosts (s : State) (p : Port) (x : PortControl) : (s.setPort p x).defrosts = s.defrosts := rfl
@[simp] theorem State.setPort_heaterCapacity (s : State) (p : Port) (x : PortControl) : (s.setPort p x).heaterCapacity = s.heaterCapacity := rfl
@[simp] theorem State.setPort_remainingCapacity (s : State) (p : Port) (x : PortControl) : (s.setPort p x).remainingCapacity = s.remainingCapacity := rfl
@[simp] theorem State.setPort_defrostQueue (s : State) (p : Port) (x : PortControl) : (s.setPort p x).defrostQueue = s.defrostQueue := rfl
@[simp] theorem State.setPort_classes (s : State) (p : Port) (x : PortControl) : (s.setPort p x).classes = s.classes := rfl
@[simp] theorem State.setPort_pallets (s : State) (p : Port) (x : PortControl) : (s.setPort p x).pallets = s.pallets := rfl
@[simp] theorem State.setPort_moves (s : State) (p : Port) (x : PortControl) : (s.setPort p x).moves = s.moves := rfl
@[simp] theorem State.setPort_permitLimit (s : State) (p : Port) (x : PortControl) : (s.setPort p x).permitLimit = s.permitLimit := rfl
@[simp] theorem State.setPort_transitLimit (s : State) (p : Port) (x : PortControl) : (s.setPort p x).transitLimit = s.transitLimit := rfl
@[simp] theorem State.setPort_journal (s : State) (p : Port) (x : PortControl) : (s.setPort p x).journal = s.journal := rfl
@[simp] theorem State.setPort_alarms (s : State) (p : Port) (x : PortControl) : (s.setPort p x).alarms = s.alarms := rfl
@[simp] theorem State.setPort_attn (s : State) (p : Port) (x : PortControl) : (s.setPort p x).attn = s.attn := rfl
@[simp] theorem State.setPort_pending (s : State) (p : Port) (x : PortControl) : (s.setPort p x).pending = s.pending := rfl

@[simp] theorem State.setPort_channel (s : State) (p : Port) (x : PortControl) (i : Fin 32) : (s.setPort p x).channel i = s.channel i := rfl
@[simp] theorem State.setPort_room (s : State) (p : Port) (x : PortControl) (i : Fin 8) : (s.setPort p x).room i = s.room i := rfl
@[simp] theorem State.setPort_door (s : State) (p : Port) (x : PortControl) (i : Fin 24) : (s.setPort p x).door i = s.door i := rfl
@[simp] theorem State.setPort_defrost (s : State) (p : Port) (x : PortControl) (i : Fin 8) : (s.setPort p x).defrost i = s.defrost i := rfl
@[simp] theorem State.setPort_productClass (s : State) (p : Port) (x : PortControl) (i : Fin 8) : (s.setPort p x).productClass i = s.productClass i := rfl
@[simp] theorem State.setPort_pallet (s : State) (p : Port) (x : PortControl) (i : Fin 256) : (s.setPort p x).pallet i = s.pallet i := rfl
@[simp] theorem State.setPort_move (s : State) (p : Port) (x : PortControl) (i : Fin 32) : (s.setPort p x).move i = s.move i := rfl

/-! #### setAlarms -/

@[simp] theorem State.setAlarms_clock (s : State) (t : AlarmTable) : (s.setAlarms t).clock = s.clock := rfl
@[simp] theorem State.setAlarms_interval (s : State) (t : AlarmTable) : (s.setAlarms t).interval = s.interval := rfl
@[simp] theorem State.setAlarms_phase (s : State) (t : AlarmTable) : (s.setAlarms t).phase = s.phase := rfl
@[simp] theorem State.setAlarms_exposureDue (s : State) (t : AlarmTable) : (s.setAlarms t).exposureDue = s.exposureDue := rfl
@[simp] theorem State.setAlarms_mode (s : State) (t : AlarmTable) : (s.setAlarms t).mode = s.mode := rfl
@[simp] theorem State.setAlarms_channels (s : State) (t : AlarmTable) : (s.setAlarms t).channels = s.channels := rfl
@[simp] theorem State.setAlarms_round (s : State) (t : AlarmTable) : (s.setAlarms t).round = s.round := rfl
@[simp] theorem State.setAlarms_rooms (s : State) (t : AlarmTable) : (s.setAlarms t).rooms = s.rooms := rfl
@[simp] theorem State.setAlarms_lines (s : State) (t : AlarmTable) : (s.setAlarms t).lines = s.lines := rfl
@[simp] theorem State.setAlarms_doors (s : State) (t : AlarmTable) : (s.setAlarms t).doors = s.doors := rfl
@[simp] theorem State.setAlarms_defrosts (s : State) (t : AlarmTable) : (s.setAlarms t).defrosts = s.defrosts := rfl
@[simp] theorem State.setAlarms_heaterCapacity (s : State) (t : AlarmTable) : (s.setAlarms t).heaterCapacity = s.heaterCapacity := rfl
@[simp] theorem State.setAlarms_remainingCapacity (s : State) (t : AlarmTable) : (s.setAlarms t).remainingCapacity = s.remainingCapacity := rfl
@[simp] theorem State.setAlarms_defrostQueue (s : State) (t : AlarmTable) : (s.setAlarms t).defrostQueue = s.defrostQueue := rfl
@[simp] theorem State.setAlarms_classes (s : State) (t : AlarmTable) : (s.setAlarms t).classes = s.classes := rfl
@[simp] theorem State.setAlarms_pallets (s : State) (t : AlarmTable) : (s.setAlarms t).pallets = s.pallets := rfl
@[simp] theorem State.setAlarms_moves (s : State) (t : AlarmTable) : (s.setAlarms t).moves = s.moves := rfl
@[simp] theorem State.setAlarms_permitLimit (s : State) (t : AlarmTable) : (s.setAlarms t).permitLimit = s.permitLimit := rfl
@[simp] theorem State.setAlarms_transitLimit (s : State) (t : AlarmTable) : (s.setAlarms t).transitLimit = s.transitLimit := rfl
@[simp] theorem State.setAlarms_journal (s : State) (t : AlarmTable) : (s.setAlarms t).journal = s.journal := rfl
@[simp] theorem State.setAlarms_ports (s : State) (t : AlarmTable) : (s.setAlarms t).ports = s.ports := rfl
@[simp] theorem State.setAlarms_pending (s : State) (t : AlarmTable) : (s.setAlarms t).pending = s.pending := rfl
@[simp] theorem State.setAlarms_alarms (s : State) (t : AlarmTable) : (s.setAlarms t).alarms = t := rfl
@[simp] theorem State.setAlarms_attn (s : State) (t : AlarmTable) :
    (s.setAlarms t).attn = .of fun p => t.attention p := rfl

@[simp] theorem State.setAlarms_channel (s : State) (t : AlarmTable) (i : Fin 32) : (s.setAlarms t).channel i = s.channel i := rfl
@[simp] theorem State.setAlarms_room (s : State) (t : AlarmTable) (i : Fin 8) : (s.setAlarms t).room i = s.room i := rfl
@[simp] theorem State.setAlarms_door (s : State) (t : AlarmTable) (i : Fin 24) : (s.setAlarms t).door i = s.door i := rfl
@[simp] theorem State.setAlarms_defrost (s : State) (t : AlarmTable) (i : Fin 8) : (s.setAlarms t).defrost i = s.defrost i := rfl
@[simp] theorem State.setAlarms_productClass (s : State) (t : AlarmTable) (i : Fin 8) : (s.setAlarms t).productClass i = s.productClass i := rfl
@[simp] theorem State.setAlarms_pallet (s : State) (t : AlarmTable) (i : Fin 256) : (s.setAlarms t).pallet i = s.pallet i := rfl
@[simp] theorem State.setAlarms_move (s : State) (t : AlarmTable) (i : Fin 32) : (s.setAlarms t).move i = s.move i := rfl
@[simp] theorem State.setAlarms_port (s : State) (t : AlarmTable) (i : Port) : (s.setAlarms t).port i = s.port i := rfl

/-! ### What each update writes -/

theorem State.channel_setChannel (s : State) (i j : Fin 32) (x : Channel) :
    (s.setChannel i x).channel j = if i = j then x else s.channel j := by
  simp [State.channel, State.setChannel, Vector.getElem_set, Fin.ext_iff]

@[simp] theorem State.channel_setChannel_self (s : State) (i : Fin 32) (x : Channel) : (s.setChannel i x).channel i = x := by
  simp [State.channel_setChannel]

@[simp] theorem State.channel_setChannel_ne (s : State) {i j : Fin 32} (x : Channel) (h : j ≠ i) :
    (s.setChannel i x).channel j = s.channel j := by
  simp [State.channel_setChannel, Ne.symm h]

@[simp] theorem State.setChannel_setChannel (s : State) (i : Fin 32) (x y : Channel) : (s.setChannel i x).setChannel i y = s.setChannel i y := by
  simp [State.setChannel]

@[simp] theorem State.setChannel_own (s : State) (i : Fin 32) : s.setChannel i (s.channel i) = s := by
  simp [State.channel, State.setChannel]

theorem State.room_setRoom (s : State) (i j : Fin 8) (x : Room) :
    (s.setRoom i x).room j = if i = j then x else s.room j := by
  simp [State.room, State.setRoom, Vector.getElem_set, Fin.ext_iff]

@[simp] theorem State.room_setRoom_self (s : State) (i : Fin 8) (x : Room) : (s.setRoom i x).room i = x := by
  simp [State.room_setRoom]

@[simp] theorem State.room_setRoom_ne (s : State) {i j : Fin 8} (x : Room) (h : j ≠ i) :
    (s.setRoom i x).room j = s.room j := by
  simp [State.room_setRoom, Ne.symm h]

@[simp] theorem State.setRoom_setRoom (s : State) (i : Fin 8) (x y : Room) : (s.setRoom i x).setRoom i y = s.setRoom i y := by
  simp [State.setRoom]

@[simp] theorem State.setRoom_own (s : State) (i : Fin 8) : s.setRoom i (s.room i) = s := by
  simp [State.room, State.setRoom]

theorem State.defrost_setDefrost (s : State) (i j : Fin 8) (x : Defrost) :
    (s.setDefrost i x).defrost j = if i = j then x else s.defrost j := by
  simp [State.defrost, State.setDefrost, Vector.getElem_set, Fin.ext_iff]

@[simp] theorem State.defrost_setDefrost_self (s : State) (i : Fin 8) (x : Defrost) : (s.setDefrost i x).defrost i = x := by
  simp [State.defrost_setDefrost]

@[simp] theorem State.defrost_setDefrost_ne (s : State) {i j : Fin 8} (x : Defrost) (h : j ≠ i) :
    (s.setDefrost i x).defrost j = s.defrost j := by
  simp [State.defrost_setDefrost, Ne.symm h]

@[simp] theorem State.setDefrost_setDefrost (s : State) (i : Fin 8) (x y : Defrost) : (s.setDefrost i x).setDefrost i y = s.setDefrost i y := by
  simp [State.setDefrost]

@[simp] theorem State.setDefrost_own (s : State) (i : Fin 8) : s.setDefrost i (s.defrost i) = s := by
  simp [State.defrost, State.setDefrost]

theorem State.productClass_setClass (s : State) (i j : Fin 8) (x : ProductClass) :
    (s.setClass i x).productClass j = if i = j then x else s.productClass j := by
  simp [State.productClass, State.setClass, Vector.getElem_set, Fin.ext_iff]

@[simp] theorem State.productClass_setClass_self (s : State) (i : Fin 8) (x : ProductClass) : (s.setClass i x).productClass i = x := by
  simp [State.productClass_setClass]

@[simp] theorem State.productClass_setClass_ne (s : State) {i j : Fin 8} (x : ProductClass) (h : j ≠ i) :
    (s.setClass i x).productClass j = s.productClass j := by
  simp [State.productClass_setClass, Ne.symm h]

@[simp] theorem State.setClass_setClass (s : State) (i : Fin 8) (x y : ProductClass) : (s.setClass i x).setClass i y = s.setClass i y := by
  simp [State.setClass]

@[simp] theorem State.setClass_own (s : State) (i : Fin 8) : s.setClass i (s.productClass i) = s := by
  simp [State.productClass, State.setClass]

theorem State.pallet_setPallet (s : State) (i j : Fin 256) (x : Pallet) :
    (s.setPallet i x).pallet j = if i = j then x else s.pallet j := by
  simp [State.pallet, State.setPallet, Vector.getElem_set, Fin.ext_iff]

@[simp] theorem State.pallet_setPallet_self (s : State) (i : Fin 256) (x : Pallet) : (s.setPallet i x).pallet i = x := by
  simp [State.pallet_setPallet]

@[simp] theorem State.pallet_setPallet_ne (s : State) {i j : Fin 256} (x : Pallet) (h : j ≠ i) :
    (s.setPallet i x).pallet j = s.pallet j := by
  simp [State.pallet_setPallet, Ne.symm h]

@[simp] theorem State.setPallet_setPallet (s : State) (i : Fin 256) (x y : Pallet) : (s.setPallet i x).setPallet i y = s.setPallet i y := by
  simp [State.setPallet]

@[simp] theorem State.setPallet_own (s : State) (i : Fin 256) : s.setPallet i (s.pallet i) = s := by
  simp [State.pallet, State.setPallet]

theorem State.move_setMove (s : State) (i j : Fin 32) (x : Move) :
    (s.setMove i x).move j = if i = j then x else s.move j := by
  simp [State.move, State.setMove, Vector.getElem_set, Fin.ext_iff]

@[simp] theorem State.move_setMove_self (s : State) (i : Fin 32) (x : Move) : (s.setMove i x).move i = x := by
  simp [State.move_setMove]

@[simp] theorem State.move_setMove_ne (s : State) {i j : Fin 32} (x : Move) (h : j ≠ i) :
    (s.setMove i x).move j = s.move j := by
  simp [State.move_setMove, Ne.symm h]

@[simp] theorem State.setMove_setMove (s : State) (i : Fin 32) (x y : Move) : (s.setMove i x).setMove i y = s.setMove i y := by
  simp [State.setMove]

@[simp] theorem State.setMove_own (s : State) (i : Fin 32) : s.setMove i (s.move i) = s := by
  simp [State.move, State.setMove]

theorem State.door_setDoor (s : State) (i j : Fin 24) (x : Door) :
    (s.setDoor i x).door j = if i = j then x.driven s.lines else s.door j := by
  simp [State.door, State.setDoor, Vector.getElem_set, Fin.ext_iff]

@[simp] theorem State.door_setDoor_self (s : State) (i : Fin 24) (x : Door) :
    (s.setDoor i x).door i = x.driven s.lines := by
  simp [State.door_setDoor]

@[simp] theorem State.door_setDoor_ne (s : State) {i j : Fin 24} (x : Door) (h : j ≠ i) :
    (s.setDoor i x).door j = s.door j := by
  simp [State.door_setDoor, Ne.symm h]

@[simp] theorem State.setDoor_setDoor (s : State) (i : Fin 24) (x y : Door) : (s.setDoor i x).setDoor i y = s.setDoor i y := by
  simp [State.setDoor]

@[simp] theorem Door.driven_driven (x : Door) (l : LineSettings) : (x.driven l).driven l = x.driven l := rfl

@[simp] theorem State.port_setPort_self (s : State) (p : Port) (x : PortControl) : (s.setPort p x).port p = x := by
  simp [State.port, State.setPort]

@[simp] theorem State.port_setPort_ne (s : State) {p q : Port} (x : PortControl) (h : q ≠ p) :
    (s.setPort p x).port q = s.port q := by
  simp [State.port, State.setPort, h]

@[simp] theorem State.setPort_setPort (s : State) (p : Port) (x y : PortControl) :
    (s.setPort p x).setPort p y = s.setPort p y := by
  cases p <;> rfl

@[simp] theorem State.setPort_own (s : State) (p : Port) : s.setPort p (s.port p) = s := by
  cases p <;> rfl

@[simp] theorem State.setAlarms_setAlarms (s : State) (t u : AlarmTable) : (s.setAlarms t).setAlarms u = s.setAlarms u := rfl

@[simp] theorem State.setJournal_setJournal (s : State) (j k : Journal) : (s.setJournal j).setJournal k = s.setJournal k := rfl

/-! ### Updates of different records commute -/

theorem State.setChannel_setAlarms (s : State) (c : Fin 32) (x : Channel) (t : AlarmTable) :
    (s.setAlarms t).setChannel c x = (s.setChannel c x).setAlarms t := rfl

theorem State.setRoom_setAlarms (s : State) (r : Fin 8) (x : Room) (t : AlarmTable) :
    (s.setAlarms t).setRoom r x = (s.setRoom r x).setAlarms t := rfl

theorem State.setDoor_setAlarms (s : State) (d : Fin 24) (x : Door) (t : AlarmTable) :
    (s.setAlarms t).setDoor d x = (s.setDoor d x).setAlarms t := rfl

theorem State.setDefrost_setAlarms (s : State) (r : Fin 8) (x : Defrost) (t : AlarmTable) :
    (s.setAlarms t).setDefrost r x = (s.setDefrost r x).setAlarms t := rfl

theorem State.setPallet_setAlarms (s : State) (q : Fin 256) (x : Pallet) (t : AlarmTable) :
    (s.setAlarms t).setPallet q x = (s.setPallet q x).setAlarms t := rfl

theorem State.setMove_setAlarms (s : State) (m : Fin 32) (x : Move) (t : AlarmTable) :
    (s.setAlarms t).setMove m x = (s.setMove m x).setAlarms t := rfl

theorem State.setJournal_setAlarms (s : State) (j : Journal) (t : AlarmTable) :
    (s.setAlarms t).setJournal j = (s.setJournal j).setAlarms t := rfl

theorem State.setPort_setAlarms (s : State) (p : Port) (x : PortControl) (t : AlarmTable) :
    (s.setAlarms t).setPort p x = (s.setPort p x).setAlarms t := rfl

end Sys2Proof.Machine
end

