-- ==== Sys2Proof/Laws/Alarms.lean ====
section
/-! SUPPORT. What raising, retrying, posting and returning do to the state, in terms of what the table does (R144 to R148). -/

namespace Sys2Proof.Machine

/-- A condition raised: the table's new form, and the unposted mark where the raise was not entered. -/
theorem State.raiseCondition_eq (s : State) (code : AlarmCode) (subject : Subject) (tag : Option Word32)
    (detail : Option Word16) (unposted : State → State) :
    s.raiseCondition code subject tag detail unposted
      = if (s.alarms.raise s.clock false code subject tag detail).2 = true
        then s.setAlarms (s.alarms.raise s.clock false code subject tag detail).1
        else unposted (s.setAlarms (s.alarms.raise s.clock false code subject tag detail).1) := rfl

/-- A condition retried: the table's new form, and the unposted mark cleared where the retry was entered. -/
theorem State.retryCondition_eq (s : State) (code : AlarmCode) (subject : Subject) (tag : Option Word32)
    (detail : Option Word16) (posted : State → State) :
    s.retryCondition code subject tag detail posted
      = if (s.alarms.raise s.clock true code subject tag detail).2 = true
        then posted (s.setAlarms (s.alarms.raise s.clock true code subject tag detail).1)
        else s.setAlarms (s.alarms.raise s.clock true code subject tag detail).1 := rfl

/-- A notice posted: the table's new form, whether or not it was entered. -/
theorem State.post_eq (s : State) (code : AlarmCode) (subject : Subject) (detail : Option Word16) :
    s.post code subject detail = s.setAlarms (s.alarms.raise s.clock false code subject none detail).1 := rfl

/-- A condition returned: the table's new form. -/
theorem State.returnCondition_eq (s : State) (code : AlarmCode) (subject : Subject) :
    s.returnCondition code subject = s.setAlarms (s.alarms.return code subject) := rfl

/-- The table set to itself, where the attention lines already follow it (R150). -/
theorem State.setAlarms_own (s : State) (h : s.attn = .of fun p => s.alarms.attention p) : s.setAlarms s.alarms = s := by
  cases s
  simp only [State.setAlarms, State.mk.injEq]
  simp_all

/-- Every code's place in the order of R143 is below 24, and codes are told apart by it. -/
theorem AlarmCode.place_injective (a b : AlarmCode) (h : a.place = b.place) : a = b := by
  cases a <;> cases b <;> first | rfl | exact absurd h (by decide)

/-- The list of codes is in the order of their places. -/
theorem alarmCodes_places : alarmCodes.map AlarmCode.place = List.finRange 24 := by decide

end Sys2Proof.Machine
end

