-- ==== Sys2Proof/Laws/Ops.lean ====
section
/-! SUPPORT. What each shared operation over tables, indices, timers and forced values does, said once: later proofs cite these and do not unfold
the operation. -/

namespace Sys2Proof.Machine

/-! ### Doing something for every index -/

/-- A property that every turn keeps holds after all of them. -/
theorem forEach_induct {σ : Type} {n : Nat} {f : Fin n → σ → σ} (P : σ → Prop) (h : ∀ i s, P s → P (f i s)) {s : σ}
    (hs : P s) : P (forEach n f s) := by
  have go : ∀ (l : List (Fin n)) (s : σ), P s → P (l.foldl (fun s i => f i s) s) := by
    intro l
    induction l with
    | nil => intro s hs; exact hs
    | cons i l ih => intro s hs; exact ih _ (h i s hs)
  exact go _ s hs

/-- A relation every turn stands in holds between the state before and the state after all of them. -/
theorem forEach_rel {σ : Type} {n : Nat} {f : Fin n → σ → σ} (R : σ → σ → Prop) (refl : ∀ s, R s s)
    (trans : ∀ {a b c}, R a b → R b c → R a c) (step : ∀ i s, R s (f i s)) (s : σ) : R s (forEach n f s) :=
  forEach_induct (P := fun t => R s t) (fun i t h => trans h (step i t)) (refl s)

/-- One index's turn singled out: the turns before and after it all stand in a relation that the turns of other indices do. -/
theorem forEach_at {σ : Type} {n : Nat} {f : Fin n → σ → σ} (i : Fin n) (R : σ → σ → Prop) (refl : ∀ s, R s s)
    (trans : ∀ {a b c}, R a b → R b c → R a c) (step : ∀ j s, j ≠ i → R s (f j s)) (s : σ) :
    ∃ s1, R s s1 ∧ R (f i s1) (forEach n f s) := by
  have go : ∀ (l : List (Fin n)) (s : σ), i ∉ l → R s (l.foldl (fun s i => f i s) s) := by
    intro l
    induction l with
    | nil => intro s _; exact refl s
    | cons j l ih =>
      intro s h
      simp only [List.mem_cons, not_or] at h
      exact trans (step j s (Ne.symm h.1)) (ih _ h.2)
  obtain ⟨l1, l2, hl⟩ := List.append_of_mem (List.mem_finRange i)
  have hn := List.nodup_finRange n
  rw [hl, List.nodup_append] at hn
  obtain ⟨-, h2, h3⟩ := hn
  rw [List.nodup_cons] at h2
  refine ⟨l1.foldl (fun s i => f i s) s, go l1 s ?_, ?_⟩
  · intro h; exact h3 i h i (List.mem_cons_self) rfl
  · simp only [forEach, hl, List.foldl_append, List.foldl_cons]
    exact go l2 _ h2.1

/-! ### Searching and counting indices -/

theorem lowest_eq_some {n : Nat} {p : Fin n → Bool} {i : Fin n} :
    lowest n p = some i ↔ p i = true ∧ ∀ j, j < i → p j = false := by
  unfold lowest
  constructor
  · intro h
    refine ⟨List.find?_some h, ?_⟩
    intro j hj
    rw [List.find?_eq_some_iff_append] at h
    obtain ⟨_, as, bs, hab, hno⟩ := h
    have hs := List.pairwise_lt_finRange n
    rw [hab, List.pairwise_append] at hs
    have hjm : j ∈ as ++ i :: bs := hab ▸ List.mem_finRange j
    rcases List.mem_append.mp hjm with h | h
    · simpa using hno j h
    · rcases List.mem_cons.mp h with h | h
      · exact absurd hj (h ▸ lt_irrefl _)
      · have := (List.pairwise_cons.mp hs.2.1).1 j h
        exact absurd hj (not_lt.mpr (le_of_lt this))
  · rintro ⟨hp, hno⟩
    obtain ⟨l1, l2, hl⟩ := List.append_of_mem (List.mem_finRange i)
    rw [List.find?_eq_some_iff_append]
    refine ⟨hp, l1, l2, hl, ?_⟩
    intro a ha
    have hs := List.pairwise_lt_finRange n
    rw [hl, List.pairwise_append] at hs
    simp [hno a (hs.2.2 a ha i List.mem_cons_self)]

theorem lowest_eq_none {n : Nat} {p : Fin n → Bool} : lowest n p = none ↔ ∀ i, p i = false := by
  simp [lowest, List.find?_eq_none]

theorem lowest_isSome {n : Nat} {p : Fin n → Bool} : (lowest n p).isSome = true ↔ ∃ i, p i = true := by
  rw [Option.isSome_iff_ne_none, Ne, lowest_eq_none]
  simp

/-! ### Tables -/

@[simp] theorem getElem_mapTable {α β : Type} {n : Nat} (f : α → β) (v : Vector α n) (i : Nat) (h : i < n) :
    (mapTable f v)[i] = f v[i] := by
  simp [mapTable]

/-! ### Timers (R3) -/

@[simp] theorem Timer.tick_stopped : Timer.tick .stopped = .stopped := rfl

@[simp] theorem Timer.tick_running (n : Nat) : Timer.tick (.running n) = .running (n - 1) := rfl

@[simp] theorem Timer.due_running (n : Nat) : (Timer.running n).due = true ↔ n = 0 := by
  simp [Timer.due]

@[simp] theorem Timer.due_stopped : Timer.stopped.due = false := rfl

theorem Timer.due_iff (t : Timer) : t.due = true ↔ t = .running 0 := by simp [Timer.due]

@[simp] theorem Timer.start_ne_stopped (n : Nat) : Timer.start n ≠ .stopped := by simp [Timer.start]

/-! ### Index and flag arguments -/

theorem index?_ofNat {n : Nat} (hn : n ≤ 256) (i : Fin n) : index? n (BitVec.ofNat 8 i.val) = some i := by
  have : i.val < 256 := lt_of_lt_of_le i.isLt hn
  simp [index?, Nat.mod_eq_of_lt this]

theorem index?_of_le {n : Nat} {b : Byte} (h : n ≤ b.toNat) : index? n b = none := by
  simp [index?, Nat.not_lt.mpr h]

theorem flag?_ofNat (b : Bool) : flag? (BitVec.ofNat 8 b.toNat) = some b := by cases b <;> rfl

theorem flag?_of_le {b : Byte} (h : 2 ≤ b.toNat) : flag? b = none := by
  unfold flag?
  split
  · subst b; simp at h
  · split
    · subst b; simp at h
    · rfl

end Sys2Proof.Machine
end

