-- ==== Sys2Proof/Laws/Expiries.lean ====
section
/-! SUPPORT. Taking the expiries that stand changes nothing where none stands (R3): said once for each record and for the whole part. -/

namespace Sys2Proof.Machine

/-- Turns that each leave one state leave it together. -/
theorem forEach_eq_self {σ : Type} {n : Nat} {f : Fin n → σ → σ} {s : σ} (h : ∀ i, f i s = s) : forEach n f s = s :=
  forEach_induct (P := (· = s)) (fun i t ht => by rw [ht, h i]) rfl

theorem settleRoom_eq {r : Fin 8} {s : State} (h : (s.room r).expiryDue = false) : settleRoom r s = s := by
  simp only [Room.expiryDue, Bool.or_eq_false_iff] at h
  simp [settleRoom, expireHigh, expireLow, h.1, h.2]

theorem settleDoor_eq {d : Fin 24} {s : State} (h : (s.door d).expiryDue = false) : settleDoor d s = s := by
  unfold Door.expiryDue at h
  simp only [settleDoor, expireSeal, expireBreach, expireRelease]
  cases e : (s.door d).state <;> simp_all

theorem settleDefrost_eq {r : Fin 8} {s : State} (h : (s.defrost r).expiryDue = false) : settleDefrost r s = s := by
  unfold Defrost.expiryDue at h
  rw [Bool.or_eq_false_iff] at h
  simp only [settleDefrost, expireGrantHold, expireHeating, expireDrip, expireRecovery, expireInhibit]
  cases e : (s.defrost r).state <;> simp_all

theorem settleMove_eq {m : Fin 32} {s : State} (h : (s.move m).expiryDue = false) : settleMove m s = s := by
  unfold Move.expiryDue at h
  have h1 : expireLapse m s = s := if_neg fun ⟨a, b⟩ => by simp [a, b] at h
  have h2 : expireTransit m s = s := if_neg fun ⟨a, b⟩ => by simp [a, b] at h
  rw [settleMove, h1, h2]

theorem settleRooms_eq {s : State} (h : ∀ r : Fin 8, (s.room r).expiryDue = false) : settleRooms s = s :=
  forEach_eq_self fun r => settleRoom_eq (h r)

/-- A part with no expiry to take is left as it is. -/
theorem settleTimers_eq {s : State} (h : s.settled) : settleTimers s = s := by
  unfold settleTimers
  rw [settleRooms_eq h.1, forEach_eq_self fun d => settleDoor_eq (h.2.1 d), forEach_eq_self fun r => settleDefrost_eq (h.2.2.1 r),
    forEach_eq_self fun m => settleMove_eq (h.2.2.2 m)]

/-- Whether an expiry stands is read from the timers' records alone. -/
theorem State.settled_congr {s t : State} (h1 : t.rooms = s.rooms) (h2 : t.doors = s.doors) (h3 : t.defrosts = s.defrosts)
    (h4 : t.moves = s.moves) (h : s.settled) : t.settled := by
  simpa only [State.settled, State.room, State.door, State.defrost, State.move, h1, h2, h3, h4] using h

/-- A door record with no expiry to take keeps the part without one. -/
theorem State.settled_setDoor {s : State} {d : Fin 24} {x : Door} (hx : x.expiryDue = false) (h : s.settled) :
    (s.setDoor d x).settled := by
  refine ⟨h.1, fun d' => ?_, h.2.2⟩
  rw [State.door_setDoor]
  split
  · exact hx
  · exact h.2.1 d'

end Sys2Proof.Machine
end

