-- ==== Sys2Proof/Laws/Frames.lean ====
section
/-! SUPPORT. Frames: which fields of the state an operation can change, said once for every operation of the blocks. -/

namespace Sys2Proof.Machine

/-- The fields of the state. -/
inductive Field
  | clock
  | interval
  | phase
  | exposureDue
  | mode
  | channels
  | round
  | rooms
  | lines
  | doors
  | defrosts
  | heaterCapacity
  | remainingCapacity
  | defrostQueue
  | classes
  | pallets
  | moves
  | permitLimit
  | transitLimit
  | journal
  | alarms
  | attn
  | ports
  | pending
deriving DecidableEq, Repr

/-- The state with some fields put at their reset values, so that only the others are told apart. -/
def State.without (fs : List Field) (s : State) : State where
  clock := if Field.clock ∈ fs then State.reset.clock else s.clock
  interval := if Field.interval ∈ fs then State.reset.interval else s.interval
  phase := if Field.phase ∈ fs then State.reset.phase else s.phase
  exposureDue := if Field.exposureDue ∈ fs then State.reset.exposureDue else s.exposureDue
  mode := if Field.mode ∈ fs then State.reset.mode else s.mode
  channels := if Field.channels ∈ fs then State.reset.channels else s.channels
  round := if Field.round ∈ fs then State.reset.round else s.round
  rooms := if Field.rooms ∈ fs then State.reset.rooms else s.rooms
  lines := if Field.lines ∈ fs then State.reset.lines else s.lines
  doors := if Field.doors ∈ fs then State.reset.doors else s.doors
  defrosts := if Field.defrosts ∈ fs then State.reset.defrosts else s.defrosts
  heaterCapacity := if Field.heaterCapacity ∈ fs then State.reset.heaterCapacity else s.heaterCapacity
  remainingCapacity := if Field.remainingCapacity ∈ fs then State.reset.remainingCapacity else s.remainingCapacity
  defrostQueue := if Field.defrostQueue ∈ fs then State.reset.defrostQueue else s.defrostQueue
  classes := if Field.classes ∈ fs then State.reset.classes else s.classes
  pallets := if Field.pallets ∈ fs then State.reset.pallets else s.pallets
  moves := if Field.moves ∈ fs then State.reset.moves else s.moves
  permitLimit := if Field.permitLimit ∈ fs then State.reset.permitLimit else s.permitLimit
  transitLimit := if Field.transitLimit ∈ fs then State.reset.transitLimit else s.transitLimit
  journal := if Field.journal ∈ fs then State.reset.journal else s.journal
  alarms := if Field.alarms ∈ fs then State.reset.alarms else s.alarms
  attn := if Field.attn ∈ fs then State.reset.attn else s.attn
  ports := if Field.ports ∈ fs then State.reset.ports else s.ports
  pending := if Field.pending ∈ fs then State.reset.pending else s.pending

/-- Two states agree on every field outside a list. -/
def State.frame (fs : List Field) (s t : State) : Prop := t.without fs = s.without fs

theorem State.frame_refl (fs : List Field) (s : State) : s.frame fs s := rfl

theorem State.frame_trans {fs : List Field} {s t u : State} (h : s.frame fs t) (k : t.frame fs u) : s.frame fs u :=
  Eq.trans k h

theorem State.frame_clock {fs : List Field} {s t : State} (h : s.frame fs t) (hf : Field.clock ∉ fs) : t.clock = s.clock := by
  have h := congrArg State.clock h
  simpa only [State.without, if_neg hf] using h

theorem State.frame_interval {fs : List Field} {s t : State} (h : s.frame fs t) (hf : Field.interval ∉ fs) : t.interval = s.interval := by
  have h := congrArg State.interval h
  simpa only [State.without, if_neg hf] using h

theorem State.frame_phase {fs : List Field} {s t : State} (h : s.frame fs t) (hf : Field.phase ∉ fs) : t.phase = s.phase := by
  have h := congrArg State.phase h
  simpa only [State.without, if_neg hf] using h

theorem State.frame_exposureDue {fs : List Field} {s t : State} (h : s.frame fs t) (hf : Field.exposureDue ∉ fs) : t.exposureDue = s.exposureDue := by
  have h := congrArg State.exposureDue h
  simpa only [State.without, if_neg hf] using h

theorem State.frame_mode {fs : List Field} {s t : State} (h : s.frame fs t) (hf : Field.mode ∉ fs) : t.mode = s.mode := by
  have h := congrArg State.mode h
  simpa only [State.without, if_neg hf] using h

theorem State.frame_channels {fs : List Field} {s t : State} (h : s.frame fs t) (hf : Field.channels ∉ fs) : t.channels = s.channels := by
  have h := congrArg State.channels h
  simpa only [State.without, if_neg hf] using h

theorem State.frame_round {fs : List Field} {s t : State} (h : s.frame fs t) (hf : Field.round ∉ fs) : t.round = s.round := by
  have h := congrArg State.round h
  simpa only [State.without, if_neg hf] using h

theorem State.frame_rooms {fs : List Field} {s t : State} (h : s.frame fs t) (hf : Field.rooms ∉ fs) : t.rooms = s.rooms := by
  have h := congrArg State.rooms h
  simpa only [State.without, if_neg hf] using h

theorem State.frame_lines {fs : List Field} {s t : State} (h : s.frame fs t) (hf : Field.lines ∉ fs) : t.lines = s.lines := by
  have h := congrArg State.lines h
  simpa only [State.without, if_neg hf] using h

theorem State.frame_doors {fs : List Field} {s t : State} (h : s.frame fs t) (hf : Field.doors ∉ fs) : t.doors = s.doors := by
  have h := congrArg State.doors h
  simpa only [State.without, if_neg hf] using h

theorem State.frame_defrosts {fs : List Field} {s t : State} (h : s.frame fs t) (hf : Field.defrosts ∉ fs) : t.defrosts = s.defrosts := by
  have h := congrArg State.defrosts h
  simpa only [State.without, if_neg hf] using h

theorem State.frame_heaterCapacity {fs : List Field} {s t : State} (h : s.frame fs t) (hf : Field.heaterCapacity ∉ fs) : t.heaterCapacity = s.heaterCapacity := by
  have h := congrArg State.heaterCapacity h
  simpa only [State.without, if_neg hf] using h

theorem State.frame_remainingCapacity {fs : List Field} {s t : State} (h : s.frame fs t) (hf : Field.remainingCapacity ∉ fs) : t.remainingCapacity = s.remainingCapacity := by
  have h := congrArg State.remainingCapacity h
  simpa only [State.without, if_neg hf] using h

theorem State.frame_defrostQueue {fs : List Field} {s t : State} (h : s.frame fs t) (hf : Field.defrostQueue ∉ fs) : t.defrostQueue = s.defrostQueue := by
  have h := congrArg State.defrostQueue h
  simpa only [State.without, if_neg hf] using h

theorem State.frame_classes {fs : List Field} {s t : State} (h : s.frame fs t) (hf : Field.classes ∉ fs) : t.classes = s.classes := by
  have h := congrArg State.classes h
  simpa only [State.without, if_neg hf] using h

theorem State.frame_pallets {fs : List Field} {s t : State} (h : s.frame fs t) (hf : Field.pallets ∉ fs) : t.pallets = s.pallets := by
  have h := congrArg State.pallets h
  simpa only [State.without, if_neg hf] using h

theorem State.frame_moves {fs : List Field} {s t : State} (h : s.frame fs t) (hf : Field.moves ∉ fs) : t.moves = s.moves := by
  have h := congrArg State.moves h
  simpa only [State.without, if_neg hf] using h

theorem State.frame_permitLimit {fs : List Field} {s t : State} (h : s.frame fs t) (hf : Field.permitLimit ∉ fs) : t.permitLimit = s.permitLimit := by
  have h := congrArg State.permitLimit h
  simpa only [State.without, if_neg hf] using h

theorem State.frame_transitLimit {fs : List Field} {s t : State} (h : s.frame fs t) (hf : Field.transitLimit ∉ fs) : t.transitLimit = s.transitLimit := by
  have h := congrArg State.transitLimit h
  simpa only [State.without, if_neg hf] using h

theorem State.frame_journal {fs : List Field} {s t : State} (h : s.frame fs t) (hf : Field.journal ∉ fs) : t.journal = s.journal := by
  have h := congrArg State.journal h
  simpa only [State.without, if_neg hf] using h

theorem State.frame_alarms {fs : List Field} {s t : State} (h : s.frame fs t) (hf : Field.alarms ∉ fs) : t.alarms = s.alarms := by
  have h := congrArg State.alarms h
  simpa only [State.without, if_neg hf] using h

theorem State.frame_attn {fs : List Field} {s t : State} (h : s.frame fs t) (hf : Field.attn ∉ fs) : t.attn = s.attn := by
  have h := congrArg State.attn h
  simpa only [State.without, if_neg hf] using h

theorem State.frame_ports {fs : List Field} {s t : State} (h : s.frame fs t) (hf : Field.ports ∉ fs) : t.ports = s.ports := by
  have h := congrArg State.ports h
  simpa only [State.without, if_neg hf] using h

theorem State.frame_pending {fs : List Field} {s t : State} (h : s.frame fs t) (hf : Field.pending ∉ fs) : t.pending = s.pending := by
  have h := congrArg State.pending h
  simpa only [State.without, if_neg hf] using h

theorem State.frame_mk {fs : List Field} {s t : State}
    (h_clock : Field.clock ∉ fs → t.clock = s.clock)
    (h_interval : Field.interval ∉ fs → t.interval = s.interval)
    (h_phase : Field.phase ∉ fs → t.phase = s.phase)
    (h_exposureDue : Field.exposureDue ∉ fs → t.exposureDue = s.exposureDue)
    (h_mode : Field.mode ∉ fs → t.mode = s.mode)
    (h_channels : Field.channels ∉ fs → t.channels = s.channels)
    (h_round : Field.round ∉ fs → t.round = s.round)
    (h_rooms : Field.rooms ∉ fs → t.rooms = s.rooms)
    (h_lines : Field.lines ∉ fs → t.lines = s.lines)
    (h_doors : Field.doors ∉ fs → t.doors = s.doors)
    (h_defrosts : Field.defrosts ∉ fs → t.defrosts = s.defrosts)
    (h_heaterCapacity : Field.heaterCapacity ∉ fs → t.heaterCapacity = s.heaterCapacity)
    (h_remainingCapacity : Field.remainingCapacity ∉ fs → t.remainingCapacity = s.remainingCapacity)
    (h_defrostQueue : Field.defrostQueue ∉ fs → t.defrostQueue = s.defrostQueue)
    (h_classes : Field.classes ∉ fs → t.classes = s.classes)
    (h_pallets : Field.pallets ∉ fs → t.pallets = s.pallets)
    (h_moves : Field.moves ∉ fs → t.moves = s.moves)
    (h_permitLimit : Field.permitLimit ∉ fs → t.permitLimit = s.permitLimit)
    (h_transitLimit : Field.transitLimit ∉ fs → t.transitLimit = s.transitLimit)
    (h_journal : Field.journal ∉ fs → t.journal = s.journal)
    (h_alarms : Field.alarms ∉ fs → t.alarms = s.alarms)
    (h_attn : Field.attn ∉ fs → t.attn = s.attn)
    (h_ports : Field.ports ∉ fs → t.ports = s.ports)
    (h_pending : Field.pending ∉ fs → t.pending = s.pending) :
    s.frame fs t := by
  unfold State.frame State.without
  congr 1
  · by_cases h : Field.clock ∈ fs
    · rw [if_pos h, if_pos h]
    · rw [if_neg h, if_neg h, h_clock h]
  · by_cases h : Field.interval ∈ fs
    · rw [if_pos h, if_pos h]
    · rw [if_neg h, if_neg h, h_interval h]
  · by_cases h : Field.phase ∈ fs
    · rw [if_pos h, if_pos h]
    · rw [if_neg h, if_neg h, h_phase h]
  · by_cases h : Field.exposureDue ∈ fs
    · rw [if_pos h, if_pos h]
    · rw [if_neg h, if_neg h, h_exposureDue h]
  · by_cases h : Field.mode ∈ fs
    · rw [if_pos h, if_pos h]
    · rw [if_neg h, if_neg h, h_mode h]
  · by_cases h : Field.channels ∈ fs
    · rw [if_pos h, if_pos h]
    · rw [if_neg h, if_neg h, h_channels h]
  · by_cases h : Field.round ∈ fs
    · rw [if_pos h, if_pos h]
    · rw [if_neg h, if_neg h, h_round h]
  · by_cases h : Field.rooms ∈ fs
    · rw [if_pos h, if_pos h]
    · rw [if_neg h, if_neg h, h_rooms h]
  · by_cases h : Field.lines ∈ fs
    · rw [if_pos h, if_pos h]
    · rw [if_neg h, if_neg h, h_lines h]
  · by_cases h : Field.doors ∈ fs
    · rw [if_pos h, if_pos h]
    · rw [if_neg h, if_neg h, h_doors h]
  · by_cases h : Field.defrosts ∈ fs
    · rw [if_pos h, if_pos h]
    · rw [if_neg h, if_neg h, h_defrosts h]
  · by_cases h : Field.heaterCapacity ∈ fs
    · rw [if_pos h, if_pos h]
    · rw [if_neg h, if_neg h, h_heaterCapacity h]
  · by_cases h : Field.remainingCapacity ∈ fs
    · rw [if_pos h, if_pos h]
    · rw [if_neg h, if_neg h, h_remainingCapacity h]
  · by_cases h : Field.defrostQueue ∈ fs
    · rw [if_pos h, if_pos h]
    · rw [if_neg h, if_neg h, h_defrostQueue h]
  · by_cases h : Field.classes ∈ fs
    · rw [if_pos h, if_pos h]
    · rw [if_neg h, if_neg h, h_classes h]
  · by_cases h : Field.pallets ∈ fs
    · rw [if_pos h, if_pos h]
    · rw [if_neg h, if_neg h, h_pallets h]
  · by_cases h : Field.moves ∈ fs
    · rw [if_pos h, if_pos h]
    · rw [if_neg h, if_neg h, h_moves h]
  · by_cases h : Field.permitLimit ∈ fs
    · rw [if_pos h, if_pos h]
    · rw [if_neg h, if_neg h, h_permitLimit h]
  · by_cases h : Field.transitLimit ∈ fs
    · rw [if_pos h, if_pos h]
    · rw [if_neg h, if_neg h, h_transitLimit h]
  · by_cases h : Field.journal ∈ fs
    · rw [if_pos h, if_pos h]
    · rw [if_neg h, if_neg h, h_journal h]
  · by_cases h : Field.alarms ∈ fs
    · rw [if_pos h, if_pos h]
    · rw [if_neg h, if_neg h, h_alarms h]
  · by_cases h : Field.attn ∈ fs
    · rw [if_pos h, if_pos h]
    · rw [if_neg h, if_neg h, h_attn h]
  · by_cases h : Field.ports ∈ fs
    · rw [if_pos h, if_pos h]
    · rw [if_neg h, if_neg h, h_ports h]
  · by_cases h : Field.pending ∈ fs
    · rw [if_pos h, if_pos h]
    · rw [if_neg h, if_neg h, h_pending h]

theorem State.frame_mono {fs gs : List Field} {s t : State} (h : s.frame fs t) (hs : fs ⊆ gs) : s.frame gs t :=
  State.frame_mk
    (fun k => State.frame_clock h fun m => k (hs m))
    (fun k => State.frame_interval h fun m => k (hs m))
    (fun k => State.frame_phase h fun m => k (hs m))
    (fun k => State.frame_exposureDue h fun m => k (hs m))
    (fun k => State.frame_mode h fun m => k (hs m))
    (fun k => State.frame_channels h fun m => k (hs m))
    (fun k => State.frame_round h fun m => k (hs m))
    (fun k => State.frame_rooms h fun m => k (hs m))
    (fun k => State.frame_lines h fun m => k (hs m))
    (fun k => State.frame_doors h fun m => k (hs m))
    (fun k => State.frame_defrosts h fun m => k (hs m))
    (fun k => State.frame_heaterCapacity h fun m => k (hs m))
    (fun k => State.frame_remainingCapacity h fun m => k (hs m))
    (fun k => State.frame_defrostQueue h fun m => k (hs m))
    (fun k => State.frame_classes h fun m => k (hs m))
    (fun k => State.frame_pallets h fun m => k (hs m))
    (fun k => State.frame_moves h fun m => k (hs m))
    (fun k => State.frame_permitLimit h fun m => k (hs m))
    (fun k => State.frame_transitLimit h fun m => k (hs m))
    (fun k => State.frame_journal h fun m => k (hs m))
    (fun k => State.frame_alarms h fun m => k (hs m))
    (fun k => State.frame_attn h fun m => k (hs m))
    (fun k => State.frame_ports h fun m => k (hs m))
    (fun k => State.frame_pending h fun m => k (hs m))

theorem frame_forEach {fs : List Field} {n : Nat} {f : Fin n → State → State}
    (h : ∀ (i : Fin n) (s : State), s.frame fs (f i s)) (s : State) :
    s.frame fs (forEach n f s) :=
  forEach_rel (State.frame fs) (State.frame_refl fs) State.frame_trans h s

theorem frame_foldl {α : Type} {fs : List Field} {f : State → α → State}
    (h : ∀ (s : State) (a : α), s.frame fs (f s a)) (l : List α) (s : State) :
    s.frame fs (l.foldl f s) := by
  induction l generalizing s with
  | nil => exact State.frame_refl fs s
  | cons a l ih => exact State.frame_trans (h s a) (ih _)

/-! ### Records outside a frame -/

theorem State.frame_channel {fs : List Field} {s t : State} (h : s.frame fs t) (hf : Field.channels ∉ fs) (i : Fin 32) :
    t.channel i = s.channel i := by
  simp only [State.channel, State.frame_channels h hf]

theorem State.frame_room {fs : List Field} {s t : State} (h : s.frame fs t) (hf : Field.rooms ∉ fs) (i : Fin 8) :
    t.room i = s.room i := by
  simp only [State.room, State.frame_rooms h hf]

theorem State.frame_door {fs : List Field} {s t : State} (h : s.frame fs t) (hf : Field.doors ∉ fs) (i : Fin 24) :
    t.door i = s.door i := by
  simp only [State.door, State.frame_doors h hf]

theorem State.frame_defrost {fs : List Field} {s t : State} (h : s.frame fs t) (hf : Field.defrosts ∉ fs) (i : Fin 8) :
    t.defrost i = s.defrost i := by
  simp only [State.defrost, State.frame_defrosts h hf]

theorem State.frame_productClass {fs : List Field} {s t : State} (h : s.frame fs t) (hf : Field.classes ∉ fs) (i : Fin 8) :
    t.productClass i = s.productClass i := by
  simp only [State.productClass, State.frame_classes h hf]

theorem State.frame_pallet {fs : List Field} {s t : State} (h : s.frame fs t) (hf : Field.pallets ∉ fs) (i : Fin 256) :
    t.pallet i = s.pallet i := by
  simp only [State.pallet, State.frame_pallets h hf]

theorem State.frame_move {fs : List Field} {s t : State} (h : s.frame fs t) (hf : Field.moves ∉ fs) (i : Fin 32) :
    t.move i = s.move i := by
  simp only [State.move, State.frame_moves h hf]

theorem State.frame_port {fs : List Field} {s t : State} (h : s.frame fs t) (hf : Field.ports ∉ fs) (i : Port) :
    t.port i = s.port i := by
  simp only [State.port, State.frame_ports h hf]

/-! ### One record replaced -/

theorem frame_setChannel {fs : List Field} (h0 : Field.channels ∈ fs) (s : State) (c : Fin 32) (x : Channel) :
    s.frame fs (s.setChannel c x) := by
  simp only [State.frame, State.without, State.setChannel, if_pos h0]

theorem frame_setRoom {fs : List Field} (h0 : Field.rooms ∈ fs) (s : State) (r : Fin 8) (x : Room) :
    s.frame fs (s.setRoom r x) := by
  simp only [State.frame, State.without, State.setRoom, if_pos h0]

theorem frame_setDoor {fs : List Field} (h0 : Field.doors ∈ fs) (s : State) (d : Fin 24) (x : Door) :
    s.frame fs (s.setDoor d x) := by
  simp only [State.frame, State.without, State.setDoor, if_pos h0]

theorem frame_setDefrost {fs : List Field} (h0 : Field.defrosts ∈ fs) (s : State) (r : Fin 8) (x : Defrost) :
    s.frame fs (s.setDefrost r x) := by
  simp only [State.frame, State.without, State.setDefrost, if_pos h0]

theorem frame_setClass {fs : List Field} (h0 : Field.classes ∈ fs) (s : State) (c : Fin 8) (x : ProductClass) :
    s.frame fs (s.setClass c x) := by
  simp only [State.frame, State.without, State.setClass, if_pos h0]

theorem frame_setPallet {fs : List Field} (h0 : Field.pallets ∈ fs) (s : State) (q : Fin 256) (x : Pallet) :
    s.frame fs (s.setPallet q x) := by
  simp only [State.frame, State.without, State.setPallet, if_pos h0]

theorem frame_setMove {fs : List Field} (h0 : Field.moves ∈ fs) (s : State) (m : Fin 32) (x : Move) :
    s.frame fs (s.setMove m x) := by
  simp only [State.frame, State.without, State.setMove, if_pos h0]

theorem frame_setJournal {fs : List Field} (h0 : Field.journal ∈ fs) (s : State) (j : Journal) :
    s.frame fs (s.setJournal j) := by
  simp only [State.frame, State.without, State.setJournal, if_pos h0]

theorem frame_setPort {fs : List Field} (h0 : Field.ports ∈ fs) (s : State) (p : Port) (x : PortControl) :
    s.frame fs (s.setPort p x) := by
  simp only [State.frame, State.without, State.setPort, if_pos h0]

theorem frame_setAlarms {fs : List Field} (h0 : Field.alarms ∈ fs) (h1 : Field.attn ∈ fs) (s : State) (t : AlarmTable) :
    s.frame fs (s.setAlarms t) := by
  simp only [State.frame, State.without, State.setAlarms, if_pos h0, if_pos h1]

/-! ### The table in the state -/

theorem frame_raise (s : State) (code : AlarmCode) (subject : Subject) (tag : Option Word32) (detail : Option Word16) :
    s.frame [.alarms, .attn] (s.raise code subject tag detail).1 :=
  frame_setAlarms (by decide) (by decide) s _

theorem frame_raiseCondition {fs : List Field} (ha : Field.alarms ∈ fs) (hb : Field.attn ∈ fs) (s : State) (code : AlarmCode)
    (subject : Subject) (tag : Option Word32) (detail : Option Word16) {unposted : State → State}
    (hu : ∀ s : State, s.frame fs (unposted s)) : s.frame fs (s.raiseCondition code subject tag detail unposted) := by
  unfold State.raiseCondition State.raise
  dsimp only
  split
  · exact frame_setAlarms ha hb s _
  · exact State.frame_trans (frame_setAlarms ha hb s _) (hu _)

theorem frame_retryCondition {fs : List Field} (ha : Field.alarms ∈ fs) (hb : Field.attn ∈ fs) (s : State) (code : AlarmCode)
    (subject : Subject) (tag : Option Word32) (detail : Option Word16) {posted : State → State}
    (hu : ∀ s : State, s.frame fs (posted s)) : s.frame fs (s.retryCondition code subject tag detail posted) := by
  unfold State.retryCondition
  dsimp only
  split
  · exact State.frame_trans (frame_setAlarms ha hb s _) (hu _)
  · exact frame_setAlarms ha hb s _

theorem frame_post {fs : List Field} (ha : Field.alarms ∈ fs) (hb : Field.attn ∈ fs) (s : State) (code : AlarmCode)
    (subject : Subject) (detail : Option Word16) : s.frame fs (s.post code subject detail) :=
  frame_setAlarms ha hb s _

theorem frame_returnCondition {fs : List Field} (ha : Field.alarms ∈ fs) (hb : Field.attn ∈ fs) (s : State) (code : AlarmCode)
    (subject : Subject) : s.frame fs (s.returnCondition code subject) :=
  frame_setAlarms ha hb s _

/-! ### The Journal -/

theorem raiseJournalHigh_frame (s : State) : s.frame [.journal, .alarms, .attn] (raiseJournalHigh s) :=
  State.frame_trans (frame_setJournal (by decide) s _)
    (frame_raiseCondition (by decide) (by decide) _ _ _ _ _ fun s => frame_setJournal (by decide) s _)

theorem testJournalRaise_frame (s : State) : s.frame [.journal, .alarms, .attn] (testJournalRaise s) := by
  unfold testJournalRaise
  split
  · exact raiseJournalHigh_frame s
  · exact State.frame_refl _ s

theorem testJournalReturn_frame (s : State) : s.frame [.journal, .alarms, .attn] (testJournalReturn s) := by
  unfold testJournalReturn
  split
  · exact State.frame_trans (frame_setJournal (by decide) s _) (frame_returnCondition (by decide) (by decide) _ _ _)
  · exact State.frame_refl _ s

theorem retryJournal_frame (s : State) : s.frame [.journal, .alarms, .attn] (retryJournal s) := by
  unfold retryJournal
  split
  · exact frame_retryCondition (by decide) (by decide) _ _ _ _ _ fun s => frame_setJournal (by decide) s _
  · exact State.frame_refl _ s

theorem writeRecord_frame (j : JournalRecord) (s : State) : s.frame [.journal, .alarms, .attn] (writeRecord j s) :=
  State.frame_trans (frame_setJournal (by decide) s _) (testJournalRaise_frame _)

/-! ### The Room Unit -/

theorem evaluateHigh_frame (r : Fin 8) (s : State) : s.frame [.rooms, .alarms, .attn] (evaluateHigh r s) := by
  unfold evaluateHigh
  dsimp only
  split
  · exact State.frame_trans (State.frame_trans (frame_setRoom (by decide) s _ _) (frame_setRoom (by decide) _ _ _))
      (frame_returnCondition (by decide) (by decide) _ _ _)
  · exact frame_setRoom (by decide) s _ _

theorem evaluateLow_frame (r : Fin 8) (s : State) : s.frame [.rooms, .alarms, .attn] (evaluateLow r s) := by
  unfold evaluateLow
  dsimp only
  split
  · exact State.frame_trans (State.frame_trans (frame_setRoom (by decide) s _ _) (frame_setRoom (by decide) _ _ _))
      (frame_returnCondition (by decide) (by decide) _ _ _)
  · exact frame_setRoom (by decide) s _ _

theorem evaluateRoom_frame (r : Fin 8) (s : State) : s.frame [.rooms, .alarms, .attn] (evaluateRoom r s) := by
  unfold evaluateRoom
  split
  · exact State.frame_trans (evaluateHigh_frame r s) (evaluateLow_frame r _)
  · exact State.frame_refl _ s

theorem raiseProbesLost_frame (r : Fin 8) (s : State) : s.frame [.rooms, .alarms, .attn] (raiseProbesLost r s) :=
  State.frame_trans (frame_setRoom (by decide) s _ _)
    (frame_raiseCondition (by decide) (by decide) _ _ _ _ _ fun s => frame_setRoom (by decide) s _ _)

theorem evaluateLost_frame (r : Fin 8) (s : State) : s.frame [.rooms, .alarms, .attn] (evaluateLost r s) := by
  unfold evaluateLost
  dsimp only
  split
  · split
    · exact raiseProbesLost_frame r s
    · exact State.frame_refl _ s
  · split
    · exact State.frame_trans (frame_setRoom (by decide) s _ _) (frame_returnCondition (by decide) (by decide) _ _ _)
    · exact State.frame_refl _ s

theorem roundRoom_frame (r : Fin 8) (s : State) : s.frame [.rooms, .alarms, .attn] (roundRoom r s) :=
  State.frame_trans (State.frame_trans (frame_setRoom (by decide) s _ _) (evaluateRoom_frame r _)) (evaluateLost_frame r _)

theorem roundRooms_frame (s : State) : s.frame [.rooms, .alarms, .attn] (roundRooms s) := frame_forEach roundRoom_frame s

theorem resumeHigh_frame (r : Fin 8) (s : State) : s.frame [.rooms] (resumeHigh r s) := frame_setRoom (by decide) s _ _

theorem expireHigh_frame (r : Fin 8) (s : State) : s.frame [.rooms, .alarms, .attn] (expireHigh r s) := by
  unfold expireHigh
  split
  · exact State.frame_trans (frame_setRoom (by decide) s _ _)
      (frame_raiseCondition (by decide) (by decide) _ _ _ _ _ fun s => frame_setRoom (by decide) s _ _)
  · exact State.frame_refl _ s

theorem expireLow_frame (r : Fin 8) (s : State) : s.frame [.rooms, .alarms, .attn] (expireLow r s) := by
  unfold expireLow
  split
  · exact State.frame_trans (frame_setRoom (by decide) s _ _)
      (frame_raiseCondition (by decide) (by decide) _ _ _ _ _ fun s => frame_setRoom (by decide) s _ _)
  · exact State.frame_refl _ s

theorem settleRoom_frame (r : Fin 8) (s : State) : s.frame [.rooms, .alarms, .attn] (settleRoom r s) :=
  State.frame_trans (expireHigh_frame r s) (expireLow_frame r _)

theorem settleRooms_frame (s : State) : s.frame [.rooms, .alarms, .attn] (settleRooms s) := frame_forEach settleRoom_frame s

theorem retryHigh_frame (r : Fin 8) (s : State) : s.frame [.rooms, .alarms, .attn] (retryHigh r s) := by
  unfold retryHigh
  split
  · exact frame_retryCondition (by decide) (by decide) _ _ _ _ _ fun s => frame_setRoom (by decide) s _ _
  · exact State.frame_refl _ s

theorem retryLost_frame (r : Fin 8) (s : State) : s.frame [.rooms, .alarms, .attn] (retryLost r s) := by
  unfold retryLost
  split
  · exact frame_retryCondition (by decide) (by decide) _ _ _ _ _ fun s => frame_setRoom (by decide) s _ _
  · exact State.frame_refl _ s

theorem retryLow_frame (r : Fin 8) (s : State) : s.frame [.rooms, .alarms, .attn] (retryLow r s) := by
  unfold retryLow
  split
  · exact frame_retryCondition (by decide) (by decide) _ _ _ _ _ fun s => frame_setRoom (by decide) s _ _
  · exact State.frame_refl _ s

theorem retryRooms_frame (s : State) : s.frame [.rooms, .alarms, .attn] (retryRooms s) :=
  frame_forEach (fun r s => State.frame_trans (State.frame_trans (retryHigh_frame r s) (retryLost_frame r _))
    (retryLow_frame r _)) s

/-! ### The Door Unit -/

theorem modifyDoor_frame (d : Fin 24) (f : Door → Door) (s : State) : s.frame [.doors, .alarms, .attn] (s.modifyDoor d f) :=
  frame_setDoor (by decide) s _ _

theorem sampleStrobe_frame (tp pc sm : BitVec 24) (s : State) : s.frame [.doors] (sampleStrobe tp pc sm s) :=
  frame_forEach (fun _ s => frame_setDoor (by decide) s _ _) s

theorem enterFault_frame (cause : FaultCause) (d : Fin 24) (s : State) :
    s.frame [.doors, .alarms, .attn] (enterFault cause d s) :=
  State.frame_trans (modifyDoor_frame d _ s)
    (frame_raiseCondition (by decide) (by decide) _ _ _ _ _ fun s => modifyDoor_frame d _ s)

theorem leaveBreach_frame (d : Fin 24) (s : State) : s.frame [.doors, .alarms, .attn] (leaveBreach d s) :=
  State.frame_trans (modifyDoor_frame d _ s) (frame_returnCondition (by decide) (by decide) _ _ _)

theorem deriveDoor_frame (d : Fin 24) (s : State) : s.frame [.doors, .alarms, .attn] (deriveDoor d s) := by
  unfold deriveDoor
  split
  · exact enterFault_frame _ d s
  all_goals exact modifyDoor_frame d _ s

theorem doorTransition_frame (i : DoorInput) (level : Bool) (d : Fin 24) (s : State) :
    s.frame [.doors, .alarms, .attn] (doorTransition i level d s) := by
  unfold doorTransition
  split
  · unfold doorTrailerArrives
    split
    · exact modifyDoor_frame d _ s
    all_goals exact State.frame_refl _ s
  · unfold doorTrailerLeaves
    split
    · exact modifyDoor_frame d _ s
    · split
      · exact enterFault_frame _ d s
      · exact modifyDoor_frame d _ s
    · exact enterFault_frame _ d s
    · exact enterFault_frame _ d s
    all_goals exact State.frame_refl _ s
  · unfold doorPanelCloses
    split
    · exact modifyDoor_frame d _ s
    · exact State.frame_trans (leaveBreach_frame d s) (deriveDoor_frame d _)
    all_goals exact State.frame_refl _ s
  · unfold doorPanelOpens
    dsimp only
    split
    iterate 4 exact modifyDoor_frame d _ s
    · split
      · exact modifyDoor_frame d _ s
      · exact modifyDoor_frame d _ s
    all_goals exact State.frame_refl _ s
  · unfold doorSealMade
    dsimp only
    split
    · exact enterFault_frame _ d s
    · exact modifyDoor_frame d _ s
    · exact modifyDoor_frame d _ s
    · split
      · exact State.frame_trans (leaveBreach_frame d s) (modifyDoor_frame d _ _)
      · exact State.frame_refl _ s
    all_goals exact State.frame_refl _ s
  · unfold doorSealLost
    split
    · exact modifyDoor_frame d _ s
    · exact modifyDoor_frame d _ s
    all_goals exact State.frame_refl _ s

theorem restartGrace_frame (before : DoorState) (d : Fin 24) (s : State) :
    s.frame [.doors, .alarms, .attn] (restartGrace before d s) := by
  unfold restartGrace
  split
  · exact modifyDoor_frame d _ s
  · exact State.frame_refl _ s

theorem doorEvent_frame (i : DoorInput) (level : Bool) (d : Fin 24) (s : State) :
    s.frame [.doors, .alarms, .attn] (doorEvent i level d s) := by
  unfold doorEvent
  dsimp only
  refine State.frame_trans (State.frame_trans ?_ (doorTransition_frame i level d _)) (restartGrace_frame _ d _)
  split
  · exact modifyDoor_frame d _ s
  · exact State.frame_refl _ s

theorem expireSeal_frame (d : Fin 24) (s : State) : s.frame [.doors, .alarms, .attn] (expireSeal d s) := by
  unfold expireSeal
  dsimp only
  split
  · split
    · exact State.frame_trans (frame_post (by decide) (by decide) s _ _ _) (modifyDoor_frame d _ _)
    · exact State.frame_trans (frame_post (by decide) (by decide) s _ _ _) (modifyDoor_frame d _ _)
  · exact State.frame_refl _ s

theorem expireBreach_frame (d : Fin 24) (s : State) : s.frame [.doors, .alarms, .attn] (expireBreach d s) := by
  unfold expireBreach
  dsimp only
  split
  · exact State.frame_trans (modifyDoor_frame d _ s)
      (frame_raiseCondition (by decide) (by decide) _ _ _ _ _ fun s => modifyDoor_frame d _ s)
  · exact State.frame_refl _ s

theorem expireRelease_frame (d : Fin 24) (s : State) : s.frame [.doors, .alarms, .attn] (expireRelease d s) := by
  unfold expireRelease
  dsimp only
  split
  · split
    · exact enterFault_frame _ d s
    · split
      · exact modifyDoor_frame d _ s
      · exact modifyDoor_frame d _ s
  · exact State.frame_refl _ s

theorem settleDoor_frame (d : Fin 24) (s : State) : s.frame [.doors, .alarms, .attn] (settleDoor d s) :=
  State.frame_trans (State.frame_trans (expireSeal_frame d s) (expireBreach_frame d _)) (expireRelease_frame d _)

theorem takeChange_frame (d : Fin 24) (i : DoorInput) (s : State) :
    s.frame [.doors, .alarms, .attn] (takeChange d i s) := by
  unfold takeChange
  dsimp only
  split
  · exact State.frame_trans (modifyDoor_frame d _ s) (doorEvent_frame i _ d _)
  · exact modifyDoor_frame d _ s

theorem debouncedChange_frame (d : Fin 24) (i : DoorInput) (s : State) :
    s.frame [.doors, .alarms, .attn] (debouncedChange d i s) := by
  unfold debouncedChange
  split
  · exact State.frame_trans (settleDoor_frame d s) (takeChange_frame d i _)
  · exact State.frame_refl _ s

theorem givePermit_frame (r : Fin 8) (d : Fin 24) (s : State) : s.frame [.doors, .alarms, .attn] (givePermit r d s) := by
  unfold givePermit
  dsimp only
  split
  · exact State.frame_trans (frame_setDoor (by decide) s _ _) (frame_post (by decide) (by decide) _ _ _ _)
  · exact State.frame_refl _ s

theorem givePermits_frame (r : Fin 8) (s : State) : s.frame [.doors, .alarms, .attn] (givePermits r s) :=
  frame_forEach (givePermit_frame r) s

theorem retryDoor_frame (d : Fin 24) (s : State) : s.frame [.doors, .alarms, .attn] (retryDoor d s) := by
  unfold retryDoor
  dsimp only
  split
  · exact frame_retryCondition (by decide) (by decide) _ _ _ _ _ fun s => modifyDoor_frame d _ s
  · split
    · exact frame_retryCondition (by decide) (by decide) _ _ _ _ _ fun s => modifyDoor_frame d _ s
    · exact State.frame_refl _ s

theorem retryDoors_frame (s : State) : s.frame [.doors, .alarms, .attn] (retryDoors s) := frame_forEach retryDoor_frame s

theorem deriveDoors_frame (s : State) : s.frame [.doors, .alarms, .attn] (deriveDoors s) :=
  frame_forEach (fun d s => by
    split
    · exact deriveDoor_frame d s
    · exact State.frame_refl _ s) s

theorem restartDoor_frame (d : Fin 24) (s : State) : s.frame [.doors, .alarms, .attn] (restartDoor d s) := by
  unfold restartDoor
  dsimp only
  have h := State.frame_trans (modifyDoor_frame d Door.restarted s) (deriveDoor_frame d _)
  split
  · split
    · exact State.frame_trans h (modifyDoor_frame d _ _)
    · exact h
  · exact State.frame_refl _ s

theorem restartDoors_frame (s : State) : s.frame [.doors, .alarms, .attn] (restartDoors s) := frame_forEach restartDoor_frame s

/-! ### The Pallet Unit -/

theorem raiseWarning_frame (q : Fin 256) (s : State) : s.frame [.pallets, .alarms, .attn] (raiseWarning q s) :=
  frame_raiseCondition (by decide) (by decide) _ _ _ _ _ fun s => frame_setPallet (by decide) s _ _

theorem raiseExceeded_frame (q : Fin 256) (s : State) : s.frame [.pallets, .alarms, .attn] (raiseExceeded q s) :=
  frame_raiseCondition (by decide) (by decide) _ _ _ _ _ fun s => frame_setPallet (by decide) s _ _

theorem testWarning_frame (q : Fin 256) (s : State) : s.frame [.pallets, .alarms, .attn] (testWarning q s) := by
  unfold testWarning
  dsimp only
  split
  · exact State.frame_trans (frame_setPallet (by decide) s _ _) (raiseWarning_frame q _)
  · exact State.frame_refl _ s

theorem testOverBudget_frame (q : Fin 256) (s : State) : s.frame [.pallets, .alarms, .attn] (testOverBudget q s) := by
  unfold testOverBudget
  dsimp only
  split
  · exact State.frame_trans (frame_setPallet (by decide) s _ _) (raiseExceeded_frame q _)
  · exact State.frame_refl _ s

theorem chargePallet_frame (q : Fin 256) (s : State) : s.frame [.pallets, .alarms, .attn] (chargePallet q s) := by
  unfold chargePallet
  dsimp only
  split
  · exact State.frame_trans (State.frame_trans (frame_setPallet (by decide) s _ _) (testWarning_frame q _))
      (testOverBudget_frame q _)
  · exact State.frame_refl _ s

theorem chargePallets_frame (s : State) : s.frame [.pallets, .alarms, .attn] (chargePallets s) :=
  frame_forEach chargePallet_frame s

theorem retryPallet_frame (q : Fin 256) (s : State) : s.frame [.pallets, .alarms, .attn] (retryPallet q s) := by
  unfold retryPallet
  dsimp only
  have h : ∀ (s : State) (code : AlarmCode) (tag : Option Word32) (detail : Option Word16) (f : Pallet → Pallet),
      s.frame [.pallets, .alarms, .attn]
        (s.retryCondition code (.pallet q) tag detail fun s => s.modifyPallet q f) := fun s code tag detail f =>
    frame_retryCondition (by decide) (by decide) _ _ _ _ _ fun s => frame_setPallet (by decide) s _ _
  split
  · split
    · exact State.frame_trans (h _ _ _ _ _) (h _ _ _ _ _)
    · exact h _ _ _ _ _
  · split
    · exact h _ _ _ _ _
    · exact State.frame_refl _ s

theorem retryPallets_frame (s : State) : s.frame [.pallets, .alarms, .attn] (retryPallets s) :=
  frame_forEach retryPallet_frame s

theorem reraisePallet_frame (q : Fin 256) (s : State) : s.frame [.pallets, .alarms, .attn] (reraisePallet q s) := by
  unfold reraisePallet
  dsimp only
  split
  · split
    · exact State.frame_trans (raiseWarning_frame q s) (raiseExceeded_frame q _)
    · exact raiseWarning_frame q s
  · split
    · exact raiseExceeded_frame q s
    · exact State.frame_refl _ s

theorem freePallet_frame (kind : RecordKind) (lost : Bool) (q : Fin 256) (s : State) :
    s.frame [.pallets, .journal, .alarms, .attn] (freePallet kind lost q s) := by
  unfold freePallet
  dsimp only
  refine State.frame_trans ?_ (frame_setPallet (by decide) _ _ _)
  have h := State.frame_mono (gs := [.pallets, .journal, .alarms, .attn])
    (writeRecord_frame (palletRecord kind lost (s.pallet q) s.clock) s) (by decide)
  have k : ∀ (s : State) (code : AlarmCode), s.frame [.pallets, .journal, .alarms, .attn]
      (s.returnCondition code (.pallet q)) := fun s code => frame_returnCondition (by decide) (by decide) _ _ _
  split
  · split
    · exact State.frame_trans (State.frame_trans h (k _ _)) (k _ _)
    · exact State.frame_trans h (k _ _)
  · split
    · exact State.frame_trans h (k _ _)
    · exact h

/-! ### The Defrost Unit -/

theorem raiseFrostDue_frame (r : Fin 8) (s : State) : s.frame [.defrosts, .alarms, .attn] (raiseFrostDue r s) :=
  State.frame_trans (frame_setDefrost (by decide) s _ _)
    (frame_raiseCondition (by decide) (by decide) _ _ _ _ _ fun s => frame_setDefrost (by decide) s _ _)

theorem raiseForced_frame (r : Fin 8) (s : State) : s.frame [.defrosts, .alarms, .attn] (raiseForced r s) :=
  State.frame_trans (frame_setDefrost (by decide) s _ _)
    (frame_raiseCondition (by decide) (by decide) _ _ _ _ _ fun s => frame_setDefrost (by decide) s _ _)

theorem raiseOverrun_frame (r : Fin 8) (s : State) : s.frame [.defrosts, .alarms, .attn] (raiseOverrun r s) :=
  State.frame_trans (frame_setDefrost (by decide) s _ _)
    (frame_raiseCondition (by decide) (by decide) _ _ _ _ _ fun s => frame_setDefrost (by decide) s _ _)

theorem testFrostDue_frame (r : Fin 8) (s : State) : s.frame [.defrosts, .alarms, .attn] (testFrostDue r s) := by
  unfold testFrostDue
  dsimp only
  split
  · exact raiseFrostDue_frame r s
  · exact State.frame_refl _ s

theorem testForced_frame (r : Fin 8) (s : State) : s.frame [.defrosts, .alarms, .attn] (testForced r s) := by
  unfold testForced
  split
  · exact State.frame_trans (frame_setDefrost (by decide) s _ _) (raiseForced_frame r _)
  · exact State.frame_refl _ s

theorem accumulateFrost_frame (r : Fin 8) (s : State) : s.frame [.defrosts, .alarms, .attn] (accumulateFrost r s) := by
  unfold accumulateFrost
  dsimp only
  split
  · exact State.frame_refl _ s
  · exact State.frame_trans (State.frame_trans (frame_setDefrost (by decide) s _ _) (testFrostDue_frame r _))
      (testForced_frame r _)

/-- The fields an evaluation of the defrost queue can change (R75). -/
def queueFields : List Field := [.defrosts, .remainingCapacity, .defrostQueue, .alarms, .attn]

theorem frame_capacity (fs : List Field) (hr : Field.remainingCapacity ∈ fs) (s : State) (n : Nat) :
    s.frame fs { s with remainingCapacity := n } := by
  simp only [State.frame, State.without, if_pos hr]

theorem frame_queue (fs : List Field) (hq : Field.defrostQueue ∈ fs) (s : State) (l : List (Fin 8)) :
    s.frame fs { s with defrostQueue := l } := by
  simp only [State.frame, State.without, if_pos hq]

theorem grant_frame (r : Fin 8) (s : State) : s.frame queueFields (grant r s) := by
  unfold grant
  dsimp only
  refine State.frame_trans (State.frame_trans (State.frame_trans (frame_queue _ (by decide) s _)
    (frame_capacity _ (by decide) _ _)) (frame_setDefrost (by decide) _ _ _)) (frame_post (by decide) (by decide) _ _ _ _)

theorem arbiterTurn_frame (s : State) (bar : Bool) (r : Fin 8) : s.frame queueFields (arbiterTurn (s, bar) r).1 := by
  unfold arbiterTurn
  dsimp only
  have h := frame_setDefrost (fs := queueFields) (by decide) s r { s.defrost r with state := s.queueState r }
  split
  · exact h
  · split
    · exact h
    · split
      · exact h
      · exact State.frame_trans h (grant_frame r _)

theorem evaluateQueue_frame (s : State) : s.frame queueFields (evaluateQueue s) := by
  have go : ∀ (l : List (Fin 8)) (a : State × Bool), a.1.frame queueFields (l.foldl arbiterTurn a).1 := by
    intro l
    induction l with
    | nil => intro a; exact State.frame_refl _ _
    | cons r l ih => intro a; exact State.frame_trans (arbiterTurn_frame a.1 a.2 r) (ih _)
  exact go _ (s, false)

theorem accumulateAll_frame (s : State) : s.frame queueFields (accumulateAll s) :=
  State.frame_trans (State.frame_mono (frame_forEach accumulateFrost_frame s) (by decide)) (evaluateQueue_frame _)

theorem expireGrantHold_frame (r : Fin 8) (s : State) : s.frame (.doors :: queueFields) (expireGrantHold r s) := by
  unfold expireGrantHold
  dsimp only
  split
  · exact State.frame_trans (State.frame_trans (State.frame_trans (State.frame_trans (frame_setDefrost (by decide) s _ _)
      (frame_capacity _ (by decide) _ _)) (frame_post (by decide) (by decide) _ _ _ _))
      (State.frame_mono (givePermits_frame r _) (by decide))) (State.frame_mono (evaluateQueue_frame _) (by decide))
  · exact State.frame_refl _ s

theorem expireHeating_frame (r : Fin 8) (s : State) : s.frame [.defrosts, .alarms, .attn] (expireHeating r s) := by
  unfold expireHeating
  dsimp only
  split
  · exact State.frame_trans (frame_setDefrost (by decide) s _ _) (raiseOverrun_frame r _)
  · exact State.frame_refl _ s

theorem expireDrip_frame (r : Fin 8) (s : State) : s.frame [.defrosts, .doors, .alarms, .attn] (expireDrip r s) := by
  unfold expireDrip
  dsimp only
  split
  · exact State.frame_trans (frame_setDefrost (by decide) s _ _) (State.frame_mono (givePermits_frame r _) (by decide))
  · exact State.frame_refl _ s

theorem expireRecovery_frame (r : Fin 8) (s : State) : s.frame [.rooms, .defrosts, .alarms, .attn] (expireRecovery r s) := by
  unfold expireRecovery
  dsimp only
  split
  · exact State.frame_trans (State.frame_trans (frame_setDefrost (by decide) s _ _)
      (frame_post (by decide) (by decide) _ _ _ _)) (frame_setRoom (by decide) _ _ _)
  · exact State.frame_refl _ s

theorem testRecovery_frame (r : Fin 8) (s : State) : s.frame [.rooms, .defrosts, .alarms, .attn] (testRecovery r s) := by
  unfold testRecovery
  split
  · exact State.frame_trans (frame_setDefrost (by decide) s _ _) (frame_setRoom (by decide) _ _ _)
  · exact State.frame_refl _ s

theorem expireInhibit_frame (r : Fin 8) (s : State) : s.frame queueFields (expireInhibit r s) := by
  unfold expireInhibit
  split
  · exact State.frame_trans (frame_setDefrost (by decide) s _ _) (evaluateQueue_frame _)
  · exact State.frame_refl _ s

/-- The fields the expiries of the Defrost Unit can change: what an evaluation can, permits and high timers. -/
def phaseFields : List Field := .doors :: .rooms :: queueFields

theorem settleDefrost_frame (r : Fin 8) (s : State) : s.frame phaseFields (settleDefrost r s) :=
  State.frame_trans (State.frame_trans (State.frame_trans (State.frame_trans
    (State.frame_mono (expireGrantHold_frame r s) (by decide)) (State.frame_mono (expireHeating_frame r _) (by decide)))
    (State.frame_mono (expireDrip_frame r _) (by decide))) (State.frame_mono (expireRecovery_frame r _) (by decide)))
    (State.frame_mono (expireInhibit_frame r _) (by decide))

theorem testTerminate_frame (r : Fin 8) (s : State) : s.frame [.rooms, .defrosts, .alarms, .attn] (testTerminate r s) := by
  unfold testTerminate
  dsimp only
  split
  · exact State.frame_refl _ s
  · split
    · exact State.frame_trans (frame_setDefrost (by decide) s _ _) (frame_post (by decide) (by decide) _ _ _ _)
    · exact State.frame_refl _ s

theorem roundDefrost_frame (s : State) : s.frame [.rooms, .defrosts, .alarms, .attn] (roundDefrost s) := by
  unfold roundDefrost
  split
  · exact frame_forEach (fun r s => State.frame_trans (testTerminate_frame r s) (testRecovery_frame r _)) s
  · exact State.frame_refl _ s

theorem retryDefrostRoom_frame (r : Fin 8) (s : State) : s.frame [.defrosts, .alarms, .attn] (retryDefrostRoom r s) := by
  unfold retryDefrostRoom
  dsimp only
  have h : ∀ (s : State) (code : AlarmCode) (detail : Option Word16) (f : Defrost → Defrost),
      s.frame [.defrosts, .alarms, .attn]
        (s.retryCondition code (.room r) none detail fun s => s.modifyDefrost r f) := fun s code detail f =>
    frame_retryCondition (by decide) (by decide) _ _ _ _ _ fun s => frame_setDefrost (by decide) s _ _
  have step : ∀ (b : Prop) [Decidable b] (s t : State), s.frame [.defrosts, .alarms, .attn] t →
      s.frame [.defrosts, .alarms, .attn] (if b then t else s) := fun b _ s t ht => by
    split
    · exact ht
    · exact State.frame_refl _ s
  exact State.frame_trans (State.frame_trans (step _ _ _ (h s _ _ _)) (step _ _ _ (h _ _ _ _))) (step _ _ _ (h _ _ _ _))

theorem retryDefrost_frame (s : State) : s.frame [.defrosts, .alarms, .attn] (retryDefrost s) :=
  frame_forEach retryDefrostRoom_frame s

theorem reraiseDefrost_frame (r : Fin 8) (s : State) : s.frame [.defrosts, .alarms, .attn] (reraiseDefrost r s) := by
  unfold reraiseDefrost
  dsimp only
  have step : ∀ (b : Prop) [Decidable b] (s t : State), s.frame [.defrosts, .alarms, .attn] t →
      s.frame [.defrosts, .alarms, .attn] (if b then t else s) := fun b _ s t ht => by
    split
    · exact ht
    · exact State.frame_refl _ s
  exact State.frame_trans (State.frame_trans (step _ _ _ (raiseFrostDue_frame r s)) (step _ _ _ (raiseForced_frame r _)))
    (step _ _ _ (raiseOverrun_frame r _))

/-! ### The Move Unit and the settling of trailers -/

/-- The fields an end of a move can change (R119). -/
def endFields : List Field := .pallets :: .moves :: .journal :: queueFields

theorem settleMoved_frame (m : Fin 32) (settle : Option (PalletState × Place)) (s : State) :
    s.frame [.pallets] (settleMoved m settle s) := by
  unfold settleMoved
  split
  · exact frame_setPallet (by decide) s _ _
  · exact State.frame_refl _ s

theorem endMove_frame (kind : RecordKind) (f : EndFlags) (settle : Option (PalletState × Place)) (m : Fin 32) (s : State) :
    s.frame endFields (endMove kind f settle m s) := by
  unfold endMove
  dsimp only
  have h1 := State.frame_mono (gs := endFields) (settleMoved_frame m settle s) (by decide)
  have h2 := fun j => State.frame_trans h1 (State.frame_mono (gs := endFields) (writeRecord_frame j _) (by decide))
  refine State.frame_trans (State.frame_trans ?_ (frame_setMove (by decide) _ _ _))
    (State.frame_mono (evaluateQueue_frame _) (by decide))
  split
  · exact State.frame_trans (h2 _) (frame_returnCondition (by decide) (by decide) _ _ _)
  · exact h2 _

theorem expireLapse_frame (m : Fin 32) (s : State) : s.frame endFields (expireLapse m s) := by
  unfold expireLapse
  dsimp only
  split
  · exact State.frame_trans (endMove_frame _ _ _ _ s) (frame_post (by decide) (by decide) _ _ _ _)
  · exact State.frame_refl _ s

theorem expireTransit_frame (m : Fin 32) (s : State) : s.frame [.moves, .alarms, .attn] (expireTransit m s) := by
  unfold expireTransit
  dsimp only
  split
  · exact State.frame_trans (frame_setMove (by decide) s _ _)
      (frame_raiseCondition (by decide) (by decide) _ _ _ _ _ fun s => frame_setMove (by decide) s _ _)
  · exact State.frame_refl _ s

theorem settleMove_frame (m : Fin 32) (s : State) : s.frame endFields (settleMove m s) :=
  State.frame_trans (expireLapse_frame m s) (State.frame_mono (expireTransit_frame m _) (by decide))

/-- The fields expiries can change (R3). -/
def expiryFields : List Field := .doors :: .rooms :: endFields

theorem settleTimers_frame (s : State) : s.frame expiryFields (settleTimers s) :=
  State.frame_trans (State.frame_trans (State.frame_trans (State.frame_mono (settleRooms_frame s) (by decide))
    (State.frame_mono (frame_forEach settleDoor_frame _) (by decide)))
    (State.frame_mono (frame_forEach settleDefrost_frame _) (by decide)))
    (State.frame_mono (frame_forEach settleMove_frame _) (by decide))

theorem retryMove_frame (m : Fin 32) (s : State) : s.frame [.moves, .alarms, .attn] (retryMove m s) := by
  unfold retryMove
  dsimp only
  split
  · exact frame_retryCondition (by decide) (by decide) _ _ _ _ _ fun s => frame_setMove (by decide) s _ _
  · exact State.frame_refl _ s

theorem retryMoves_frame (s : State) : s.frame [.moves, .alarms, .attn] (retryMoves s) := frame_forEach retryMove_frame s

theorem restartMove_frame (m : Fin 32) (s : State) : s.frame endFields (restartMove m s) := by
  unfold restartMove
  split
  · exact State.frame_refl _ s
  · exact endMove_frame _ _ _ _ s
  · exact endMove_frame _ _ _ _ s

theorem restartMoves_frame (s : State) : s.frame endFields (restartMoves s) := frame_forEach restartMove_frame s

theorem settleTrailerPallet_frame (st : PalletState) (kind : RecordKind) (lost : Bool) (d : Fin 24) (q : Fin 256) (s : State) :
    s.frame [.pallets, .journal, .alarms, .attn] (settleTrailerPallet st kind lost d q s) := by
  unfold settleTrailerPallet
  split
  · exact freePallet_frame kind lost q s
  · exact State.frame_refl _ s

theorem shipAboard_frame (lost : Bool) (d : Fin 24) (s : State) :
    s.frame [.pallets, .journal, .alarms, .attn] (shipAboard lost d s) :=
  frame_forEach (settleTrailerPallet_frame _ _ _ d) s

theorem rejectInbound_frame (d : Fin 24) (s : State) : s.frame [.pallets, .journal, .alarms, .attn] (rejectInbound d s) :=
  frame_forEach (settleTrailerPallet_frame _ _ _ d) s

theorem writeOffMove_frame (d : Fin 24) (m : Fin 32) (s : State) : s.frame endFields (writeOffMove d m s) := by
  unfold writeOffMove
  dsimp only
  split
  · exact endMove_frame _ _ _ _ s
  · exact State.frame_refl _ s

theorem writeOff_frame (d : Fin 24) (s : State) : s.frame (.doors :: endFields) (writeOff d s) :=
  State.frame_trans (State.frame_trans (State.frame_trans
    (State.frame_mono (frame_forEach (writeOffMove_frame d) s) (by decide))
    (State.frame_mono (shipAboard_frame true d _) (by decide))) (State.frame_mono (rejectInbound_frame d _) (by decide)))
    (State.frame_mono (modifyDoor_frame d _ _) (by decide))

/-! ### The Probe Scan Unit -/

theorem raiseProbeFault_frame (c : Fin 32) (s : State) : s.frame [.channels, .alarms, .attn] (raiseProbeFault c s) :=
  frame_raiseCondition (by decide) (by decide) _ _ _ _ _ fun s => frame_setChannel (by decide) s _ _

theorem classifyGood_frame (c : Fin 32) (code : BitVec 12) (s : State) :
    s.frame [.channels, .alarms, .attn] (classifyGood c code s) := by
  unfold classifyGood
  dsimp only
  split
  · exact frame_setChannel (by decide) s _ _
  · exact State.frame_trans (State.frame_trans (frame_setChannel (by decide) s _ _) (frame_setChannel (by decide) _ _ _))
      (frame_returnCondition (by decide) (by decide) _ _ _)

theorem classifyFailure_frame (c : Fin 32) (cls : ChannelState) (code : Option (BitVec 12)) (s : State) :
    s.frame [.channels, .alarms, .attn] (classifyFailure c cls code s) := by
  unfold classifyFailure
  dsimp only
  split
  · exact frame_setChannel (by decide) s _ _
  · exact State.frame_trans (frame_setChannel (by decide) s _ _) (raiseProbeFault_frame c _)

theorem classifyCode_frame (c : Fin 32) (code : BitVec 12) (s : State) :
    s.frame [.channels, .alarms, .attn] (classifyCode c code s) := by
  unfold classifyCode
  split
  · exact classifyFailure_frame c _ _ s
  · split
    · exact classifyFailure_frame c _ _ s
    · exact classifyGood_frame c code s

theorem frame_round (fs : List Field) (hr : Field.round ∈ fs) (s : State) (x : Round) : s.frame fs { s with round := x } := by
  simp only [State.frame, State.without, if_pos hr]

theorem continueRound_frame (start : Nat) (s : State) : s.frame [.round] (continueRound start s) := by
  unfold continueRound
  split
  · exact frame_round _ (by decide) s _
  · exact frame_round _ (by decide) s _

theorem startRound_frame (s : State) : s.frame [.round] (startRound s) := by
  unfold startRound
  split
  · exact continueRound_frame 0 s
  · exact State.frame_refl _ s
  · exact State.frame_refl _ s

theorem completeTransaction_frame (bits : Word16) (s : State) :
    s.frame [.round, .channels, .alarms, .attn] (completeTransaction bits s) := by
  unfold completeTransaction
  split
  · refine State.frame_trans ?_ (State.frame_mono (continueRound_frame _ _) (by decide))
    split
    · exact State.frame_refl _ s
    · exact State.frame_mono (classifyCode_frame _ _ s) (by decide)
  · exact State.frame_refl _ s
  · exact State.frame_refl _ s

theorem expireReplyLimit_frame (s : State) : s.frame [.round, .channels, .alarms, .attn] (expireReplyLimit s) := by
  unfold expireReplyLimit
  split
  · refine State.frame_trans ?_ (State.frame_mono (continueRound_frame _ _) (by decide))
    split
    · exact State.frame_refl _ s
    · exact State.frame_mono (classifyFailure_frame _ _ _ s) (by decide)
  · exact State.frame_refl _ s
  · exact State.frame_refl _ s

theorem retryProbe_frame (c : Fin 32) (s : State) : s.frame [.channels, .alarms, .attn] (retryProbe c s) := by
  unfold retryProbe
  dsimp only
  split
  · exact frame_retryCondition (by decide) (by decide) _ _ _ _ _ fun s => frame_setChannel (by decide) s _ _
  · exact State.frame_refl _ s

theorem retryProbes_frame (s : State) : s.frame [.channels, .alarms, .attn] (retryProbes s) := frame_forEach retryProbe_frame s

/-! ### Retries, entry into RUN and warm restart -/

/-- The fields retries can change: the table, and the records that hold unposted marks (R148). -/
def retryFields : List Field := [.channels, .rooms, .doors, .defrosts, .pallets, .moves, .journal, .alarms, .attn]

theorem retryAll_frame (order : List RetryBlock) (s : State) : s.frame retryFields (retryAll order s) := by
  refine frame_foldl (fun s b => ?_) _ s
  cases b
  · exact State.frame_mono (retryProbes_frame s) (by decide)
  · exact State.frame_mono (retryRooms_frame s) (by decide)
  · exact State.frame_mono (retryDoors_frame s) (by decide)
  · exact State.frame_mono (retryDefrost_frame s) (by decide)
  · exact State.frame_mono (retryPallets_frame s) (by decide)
  · exact State.frame_mono (retryMoves_frame s) (by decide)
  · exact State.frame_mono (retryJournal_frame s) (by decide)

/-- Entry into RUN keeps the clock, E, the lines, the classes, the tables of pallets and moves, the Journal and the ports (R176). -/
theorem enterRun_frame (s : State) :
    s.frame [.mode, .phase, .rooms, .doors, .defrosts, .remainingCapacity, .defrostQueue, .alarms, .attn] (enterRun s) := by
  unfold enterRun
  dsimp only
  refine State.frame_trans (State.frame_trans (State.frame_trans ?_ (State.frame_mono (deriveDoors_frame _) (by decide)))
    (State.frame_mono (frame_forEach evaluateRoom_frame _) (by decide))) (frame_post (by decide) (by decide) _ _ _ _)
  rfl

end Sys2Proof.Machine
end

