-- ==== Sys2Proof/Tests/Slice0.lean ====
section
/-! SUPPORT. Tests of one step each, with results worked out from the manual, and for every statement with hypotheses a witness: a
concrete state and operands that meet them, at the boundary values of each clause. -/

namespace Sys2Proof.Tests

open Sys2Proof Sys2Proof.Machine

set_option Elab.async false

/-! ### Helpers -/

/-- The part in RUN with its cold reset records. -/
def running : State := { State.reset with mode := .run }

/-- The part in RUN with one command waiting. -/
def waitingFor (c : Instr) (s : State) : State := { s with pending := [c] }

/-- Door 0 of the part in RUN. -/
def atDoor (x : Door) : State := running.setDoor 0 x

/-- Room 0 of the part in RUN, and its defrost record. -/
def atRoom (x : Room) (y : Defrost) : State := (running.setRoom 0 x).setDefrost 0 y

/-- The Dock port of the part in RUN. -/
def atPort (x : PortControl) : State := running.setPort .dock x

/-- What an executed command leads to, seen through a reading; none at a stop. -/
def after {α : Type} (c : Instr) (s : State) (f : State → α) : Option α :=
  match exec c s with
  | .next t => some (f t)
  | .fault _ => none
  | .refused _ => none

/-- The bytes of the reply that a request executed on a port is answered with. -/
def replied (c : Instr) (p : Port) (s : State) : Option (List Byte) :=
  (after c s fun t => (t.port p).inService.map fun x => x.reply.payload).join

/-- A frame of READ CLOCK. -/
def clockFrame : Frame := Request.readClock.frame 7

/-- A port with a request in service. -/
def busyPort : PortControl := { PortControl.initial with inService := some ⟨clockFrame, clockFrame⟩ }

/-- A port with a request in service and a frame waiting. -/
def fullPort : PortControl := { busyPort with waiting := some clockFrame }

/-- A port in a break. -/
def brokenPort : PortControl := { PortControl.initial with inBreak := true }

/-- An enabled WORKING door with its trailer. -/
def workingDoor : Door :=
  { Door.initial with
    enabled := true, state := .working
    tp := { InputLine.initial with level := true }, sm := { InputLine.initial with level := true } }

/-- An enabled SEALED door with its trailer. -/
def sealedDoor : Door :=
  { workingDoor with state := .sealed, pc := { InputLine.initial with level := true } }

/-- An enabled DOCKED door with its trailer. -/
def dockedDoor : Door :=
  { sealedDoor with state := .docked, sm := .initial }

/-- A pallet INBOUND at the trailer of door 0, with a move permitted. -/
def inboundPallet : Pallet :=
  { Pallet.empty with state := .inbound, tag := 11, location := .at (.trailer 0), handle := some ⟨0, 5⟩ }

/-- A pallet PLACED in room 2, with no move. -/
def placedPallet : Pallet :=
  { Pallet.empty with state := .placed, tag := 12, cls := 1, location := .at (.room 2) }

/-- A pallet on its way from room 1 to the lane of door 0. -/
def ridingPallet : Pallet :=
  { Pallet.empty with
    state := .inTransit, tag := 13, location := .inTransit, handle := some ⟨1, 7⟩, pickState := some .placed }

/-- The move of the inbound pallet, into room 1. -/
def permittedMove : Move :=
  { Move.empty 5 with
    state := .permitted, tag := 11, origin := some (.trailer 0), destination := some (.room 1), lapseTimer := .running 120 }

/-- The move of the riding pallet, overdue. -/
def ridingMove : Move :=
  { Move.empty 7 with
    state := .inTransit, tag := 13, origin := some (.room 1), destination := some (.lane 0), pickTime := some 3
    transitTimer := .stopped, overdueFlag := true }

/-- A port's state in an entry that only that port is to show. -/
def pendingAt (p : Port) : PerPort Delivery := .of fun q => if q = p then .pending else .notRouted

/-- The entry of ROOM_HIGH for room 0, PENDING at the Dock port. -/
def highEntry : AlarmEntry := ⟨.roomHigh, .room 0, none, some 0xFEF0, 3, 3, 0, .active, pendingAt .dock⟩

/-- The entry of MOVE_OVERDUE for move 1, PENDING at the Movement port. -/
def overdueEntry : AlarmEntry := ⟨.moveOverdue, .move 1, none, some 0xE1, 3, 3, 0, .active, pendingAt .movement⟩

/-- The entry of DOOR_FAULT for door 3, taken by the Dock port. -/
def faultEntry : AlarmEntry :=
  ⟨.doorFault, .door 3, none, some 1, 3, 3, 0, .active, ⟨.inService, .notRouted, .notRouted⟩⟩

/-- A table of three entries, one of them taken. -/
def threeEntries : AlarmTable :=
  AlarmTable.setPortAlarms
    { AlarmTable.initial with
      entries := ((AlarmTable.initial.entries.set 1 (some highEntry)).set 2 (some overdueEntry)).set 3 (some faultEntry)
      order := [3, 2, 1] } .dock { AlarmTable.initial.ports.dock with stack := [3] }

/-- The placed pallet with an exposure and an over budget mark. -/
def placedWith (exposure : Nat) (marked : Bool) : Pallet := { placedPallet with exposure := exposure, overBudget := marked }

/-- The records of the part at work: a WORKING door 0, a DOCKED door 1, three pallets, two moves, room 2 queued for defrost and room 3
HEATING. -/
def siteRecords (exposure : Nat) (marked : Bool) : State :=
  ((((((((running.setDoor 0 workingDoor).setDoor 1 dockedDoor).setPallet 0 inboundPallet).setPallet 1 (placedWith exposure marked)).setPallet 2 ridingPallet).setMove 0
    permittedMove).setMove 1 ridingMove).setDefrost 2 { Defrost.initial with state := .queued }).setDefrost 3
    { Defrost.initial with state := .heating, phaseTimer := .running 1800 }

/-- The part at work, with a record in the Journal, a held count, and three entries in the table. -/
def siteOf (exposure : Nat) (marked : Bool) (held : Nat) : State :=
  ({ siteRecords exposure marked with
    defrostQueue := [2], remainingCapacity := 4
    journal := { Journal.initial with
      records := [⟨0, .rejected, 9, 0, none, .at (.lane 0), 1, 2, 0, ⟨false, false, false, false⟩⟩], held := held, next := 1 } } :
    State).setAlarms threeEntries

/-- The part at work with room 3 past its heating limit, its expiry not yet taken. -/
def lateSite : State := (siteOf 0 false 1).setDefrost 3 { Defrost.initial with state := .heating, phaseTimer := .running 0 }

/-- The part at work as it is used below, its placed pallet not yet exposed and its held count right. -/
def site : State := siteOf 0 false 1

/-- A table with entries 1 to 47 all occupied, entry 0 as given. -/
def crowdedTable (first : Option AlarmEntry) : AlarmTable :=
  { AlarmTable.initial with
    entries := (Vector.ofFn fun i : Fin 48 =>
      if i = 0 then first
      else some ⟨.exposureWarning, .pallet ⟨i.val, by omega⟩, some 1, some 45, 0, 0, 0, .active, .of fun _ => .done⟩)
    order := (List.finRange 48).filter fun i => i != 0 || first.isSome }

/-- A TABLE_FULL entry that every port has ended. -/
def fullEntry (n : Word16) : AlarmEntry := ⟨.tableFull, .none, none, some n, 0, 0, 0, .active, .of fun _ => .done⟩

/-! ### WellFormed -/

theorem test_secondTick_twice_ill_formed : Instr.wellFormed (.secondTick [.rooms, .doors, .rooms]) = false := by decide

theorem test_secondTick_well_formed : Instr.wellFormed (.secondTick [.journal, .rooms]) = true := by decide

theorem test_unknownRequest_known_code_ill_formed : Instr.wellFormed (.unknownRequest .dock 49 0 []) = false := by decide

theorem test_unknownRequest_long_ill_formed :
    Instr.wellFormed (.unknownRequest .dock 50 0 (List.replicate 57 0)) = false := by decide

theorem test_unknownRequest_well_formed :
    Instr.wellFormed (.unknownRequest .dock 0 0 (List.replicate 56 0)) = true := by decide

/-! ### Frames and values -/

/-- R158: the CRC of the nine bytes of "123456789" is 0x29B1. -/
theorem test_crc_check_value : crc16 [0x31, 0x32, 0x33, 0x34, 0x35, 0x36, 0x37, 0x38, 0x39] = 0x29B1 := by decide +kernel

/-- No table row gives bits, so no word spells a command (log entry 22). -/
theorem test_no_word_spells_a_command : decodeTableWord 16 0xA500 = none := by decide

/-- R14, the five worked codes. -/
theorem test_worked_conversions :
    codeTemp 1435 480 0 = -288 ∧ codeTemp 1430 480 0 = -290 ∧ codeTemp 2048 480 0 = 0 ∧ codeTemp 2600 480 (-8) = 250
      ∧ codeTemp 4000 4095 0 = 960 := by decide

/-- R20: the vote of four, three and two probes. -/
theorem test_worked_votes :
    vote [-290, -287, -300, -250] = some (-288) ∧ vote [-290, -287, -300] = some (-290)
      ∧ vote [-290, -287] = some (-287) := by decide

/-- R22, worked steps with k = 32. -/
theorem test_worked_smoothing :
    smoothStep (-68) (-80) 32 = 2 ∧ smoothStep (-80) (-68) 32 = -1 ∧ smoothStep (-64) (-65) 32 = 1
      ∧ smoothStep (-64) (-63) 32 = -1 ∧ smoothStep (-64) (-64) 32 = 0 := by decide

/-- R38 lists active first; READ DOOR sends a level active as 1 (log entry 7). -/
theorem test_read_door_levels :
    (replied (.readDoor .dock 7 0) .dock (atDoor workingDoor)).map (fun l => (l.drop 9).take 3) = some [1, 0, 1] := by
  decide +kernel

/-- R62: a dock room at −5.0 °C gives a lane at −4.0 °C while WORKING, and +3.0 °C in BREACH. -/
theorem test_worked_lane_temperatures :
    ((atDoor workingDoor).setRoom 0 { Room.initial with filtered := -80 }).laneTemp 0 = -64
      ∧ ((atDoor { workingDoor with state := .breach }).setRoom 0 { Room.initial with filtered := -80 }).laneTemp 0
        = 48 := by decide +kernel

/-! ### Expiries that stand -/

theorem running_settled : running.settled := by unfold State.settled; decide +kernel

theorem site_settled : site.settled := by unfold State.settled; decide +kernel

theorem siteOf_settled (e : Nat) (b : Bool) (n : Nat) : (siteOf e b n).settled :=
  State.settled_congr (s := site) rfl rfl rfl rfl site_settled

theorem atPort_ready (x : PortControl) (h1 : x.inBreak = false) (h2 : x.receiver = .hunting) (h3 : x.inService = none) :
    (atPort x).ready .dock := ⟨h1, h2, h3, State.settled_congr (s := running) rfl rfl rfl rfl running_settled⟩

theorem atDoor_ready (x : Door) (h : x.expiryDue = false) (p : Port) : (atDoor x).ready p := by
  cases p <;> exact ⟨rfl, rfl, rfl, State.settled_setDoor h running_settled⟩

/-- R3: the tick came first, so the lapse timer has expired before the PICK; the handle is of the move's next life. -/
theorem test_pick_after_the_lapse_is_too_late :
    replied (.pick .movement 7 0xA0) .movement (site.setMove 0 { permittedMove with lapseTimer := .running 0 })
      = some [9, 6] := by decide +kernel

/-- R3: the grace ran out before the panel closed, so the breach is raised and then returned. -/
theorem test_panel_closing_after_the_grace_has_raised_the_breach :
    after (.debouncedChange 0 .pc)
      (atDoor { workingDoor with
        state := .breach, breachTimer := .running 0, pc := { InputLine.initial with count := 5, changeDue := true } })
      (fun t => ((t.door 0).state, (t.door 0).breachFlag,
        (t.alarms.entries[(1 : Fin 48)]).map fun e => (e.code, e.condition)))
      = some (.sealed, false, some (.doorBreach, .returned)) := by decide +kernel

/-! ### Events -/

/-- R2, R4: in RUN the phase reaches E = 10 and the exposure tick falls due. -/
theorem test_secondTick_counts :
    ∃ t, exec (.secondTick []) { running with phase := 9 } = .next t ∧ t.clock = 1 ∧ t.phase = 0 ∧ t.exposureDue = true :=
  have h := retryAll_frame [] (startRound (advancePhase (tickTimers { running with phase := 9, clock := 1 })))
  have e : exec (.secondTick []) { running with phase := 9 }
      = .next (retryAll [] (startRound (advancePhase (tickTimers { running with phase := 9, clock := 1 })))) := by
    show Host.Outcome.next (tickSecond [] _) = _
    unfold tickSecond
    rw [settleTimers_eq (s := { running with phase := 9 })
      (State.settled_congr (s := running) rfl rfl rfl rfl running_settled)]
    rfl
  ⟨_, e, State.frame_clock h (by decide), State.frame_phase h (by decide), State.frame_exposureDue h (by decide)⟩

/-- R38: with active-low polarity, a low line is active; the fifth differing strobe completes the change. -/
theorem test_strobe_completes_a_change :
    after (.sampleStrobe 0xFFFFFE 0xFFFFFF 0xFFFFFF)
      (atDoor { Door.initial with tp := { InputLine.initial with count := 4 } })
      (fun t => ((t.door 0).tp, (t.door 1).tp)) = some (⟨false, 5, true, false, false⟩, .initial) := by decide +kernel

theorem test_change_docks_a_trailer :
    after (.debouncedChange 0 .tp)
      (atDoor { Door.initial with
        enabled := true, tp := ⟨false, 5, true, false, false⟩, pc := { InputLine.initial with level := true } })
      (fun t => ((t.door 0).state, (t.door 0).tp)) = some (.docked, ⟨true, 0, false, true, false⟩) := by decide +kernel

theorem test_seal_lost_while_working_is_a_breach :
    after (.debouncedChange 0 .sm) (atDoor { workingDoor with sm := ⟨true, 5, true, false, false⟩ })
      (fun t => ((t.door 0).state, (t.door 0).breachOrigin, (t.door 0).sb)) = some (.breach, true, true) := by
  decide +kernel

/-- R104: an excess of 208 sixteenths for 10 s is 2080 units. -/
theorem test_exposure_tick_charges :
    after (.exposureTick false)
      { (running.setPallet 1 placedPallet).setRoom 2 { Room.initial with filtered := -80 } with exposureDue := true }
      (fun t => (t.pallet 1).exposure) = some 2080 := by decide +kernel

/-- R16, round 5 of the worked case: the third failure in a row makes the state SHORT and raises PROBE_FAULT with 2 as detail. -/
theorem test_third_failure_raises :
    after (.converterTransactionComplete 0xF000)
      { running.setChannel 12 { Channel.initial with role := .room, room := 3, suspect := 2, measured := true } with
        round := .converting ⟨12, 0x8C, false⟩ }
      (fun t => ((t.channel 12).state, (t.channel 12).lastCode, (t.alarms.entries[(1 : Fin 48)]).map (·.detail), t.round))
      = some (.short, some 0, some (some 2), .ended) := by decide +kernel

/-- R16, round 8 of the worked case: one good code restores the probe, and PROBE_FAULT is returned. -/
theorem test_good_code_returns_the_fault :
    after (.converterTransactionComplete 1430)
      ({ running.setChannel 12 { Channel.initial with role := .room, room := 3, state := .opened, suspect := 3 } with
        round := .converting ⟨12, 0x8C, false⟩ }.setAlarms
          { AlarmTable.initial with
            entries := AlarmTable.initial.entries.set 1
              (some ⟨.probeFault, .probe 12, none, some 1, 3, 3, 0, .active, pendingAt .plant⟩)
            order := [1] })
      (fun t => ((t.channel 12).state, (t.channel 12).temperature, (t.alarms.entries[(1 : Fin 48)]).map (·.condition)))
      = some (.ok, -290, some .returned) := by decide +kernel

theorem test_no_reply_keeps_the_last_code :
    after .converterReplyLimitExpiry
      { running.setChannel 31 { Channel.initial with role := .room, lastCode := some 1435, temperature := -288 } with
        round := .converting ⟨31, 0x9F, false⟩ }
      (fun t => ((t.channel 31).suspect, (t.channel 31).lastCode, (t.channel 31).temperature))
      = some (1, some 1435, -288) := by decide +kernel

theorem test_select_follows_the_transaction :
    State.converterSelect { running with round := .converting ⟨31, 0x9F, false⟩ } = true
      ∧ State.converterSelect running = false := by decide

theorem test_first_vote_sets_the_filter :
    after (.roundComplete false)
      { running.setChannel 5 { Channel.initial with role := .room, room := 3, temperature := -288, measured := true } with
        round := .ended }
      (fun t => ((t.room 3).filtered, (t.room 3).firstVote, (t.room 0).lostFlag)) = some (-288, true, true) := by
  decide +kernel

theorem test_high_timer_raises :
    after (.highTimerExpiry 0) (atRoom { Room.initial with highTimer := .running 0 } .initial)
      (fun t => ((t.room 0).highFlag, (t.alarms.entries[(1 : Fin 48)]).map (·.code), t.attn))
      = some (true, some .roomHigh, ⟨true, true, true⟩) := by decide +kernel

theorem test_low_timer_not_due_does_nothing :
    after (.lowTimerExpiry 0) (atRoom { Room.initial with lowTimer := .running 1 } .initial)
      (fun t => (t.room 0).lowTimer) = some (.running 1) := by decide +kernel

theorem test_seal_expiry_docks :
    after (.sealTimerExpiry 0) (atDoor { dockedDoor with state := .sealing, sealTimer := .running 0 })
      (fun t => ((t.door 0).state, (t.alarms.entries[(1 : Fin 48)]).map (·.code))) = some (.docked, some .sealTimeout) := by
  decide +kernel

theorem test_grace_expiry_raises :
    after (.breachGraceExpiry 0) (atDoor { workingDoor with state := .breach, breachTimer := .running 0 })
      (fun t => ((t.door 0).breachFlag, (t.door 0).breachTimer)) = some (true, .stopped) := by decide +kernel

theorem test_release_expiry_with_seal_is_a_fault :
    after (.releaseTimerExpiry 0) (atDoor { sealedDoor with state := .releasing, releaseTimer := .running 0 })
      (fun t => ((t.door 0).state, (t.door 0).faultCause)) = some (.fault, .sealStuck) := by decide +kernel

theorem test_grant_hold_expiry_lapses :
    after (.grantHoldExpiry 0)
      { atRoom .initial { Defrost.initial with state := .granted, phaseTimer := .running 0 } with remainingCapacity := 4 }
      (fun t => ((t.defrost 0).state, t.remainingCapacity)) = some (.idle, 8) := by decide +kernel

theorem test_heating_limit_overruns :
    after (.heatingLimitExpiry 3) lateSite (fun t => ((t.defrost 3).state, (t.defrost 3).overrunFlag)) = some (.heating, true) := by
  decide +kernel

theorem test_drip_gives_a_held_permit :
    after (.dripTimeExpiry 0)
      ((atDoor { sealedDoor with permit := .pending }).setDefrost 0
        { Defrost.initial with state := .drip, phaseTimer := .running 0 })
      (fun t => ((t.defrost 0).phaseTimer, (t.door 0).permit, (t.door 0).pr)) = some (.running 2700, .given, true) := by
  decide +kernel

theorem test_recovery_limit_ends_the_cycle :
    after (.recoveryLimitExpiry 0)
      (atRoom .initial { Defrost.initial with state := .recovery, phaseTimer := .running 0, cycleCount := 65535 })
      (fun t => ((t.defrost 0).state, (t.defrost 0).cycleCount)) = some (.idle, 0) := by decide +kernel

/-- R78, R79, the first of the three worked evaluations: the forced room 4 is granted, room 3 sets the bar, room 1 drains. -/
theorem test_worked_evaluation :
    after (.inhibitExpiry 7)
      { ((((((running.setDefrost 7 { Defrost.initial with inhibitDue := true }).setDefrost 3
          { Defrost.initial with state := .queued, heaterLoad := 5, inhibit := 120 }).setDefrost 1
          { Defrost.initial with state := .queued }).setDefrost 5
          { Defrost.initial with state := .queued, heaterLoad := 2 }).setDefrost 4
          { Defrost.initial with state := .queued, heaterLoad := 3, forcedMark := true }).setDefrost 6
          { Defrost.initial with state := .queued }).setMove 0 permittedMove with
        defrostQueue := [3, 1, 5, 4, 6], remainingCapacity := 6 }
      (fun t => ((t.defrost 4).state, (t.defrost 3).state, (t.defrost 1).state, t.remainingCapacity, t.defrostQueue))
      = some (.granted, .queued, .draining, 3, [3, 1, 5, 6]) := by decide +kernel

theorem test_transit_expiry_marks_overdue :
    after (.transitTimerExpiry 1) (site.setMove 1 { ridingMove with transitTimer := .running 0, overdueFlag := false })
      (fun t => ((t.move 1).overdueFlag, (t.move 1).state)) = some (true, .inTransit) := by decide +kernel

/-! ### Bytes, replies and breaks -/

theorem test_start_byte_starts_a_frame :
    after (.byteReceived .plant 0xA5 true) running (fun t => (t.port .plant).receiver) = some .length := by decide +kernel

theorem test_framing_error_hunts :
    after (.byteReceived .dock 0xA5 false) (atPort { PortControl.initial with receiver := .body 2 [2] })
      (fun t => (t.port .dock).receiver) = some .hunting := by decide +kernel

theorem test_gap_discards_a_partial_frame :
    after (.frameGapTimeout .dock) (atPort { PortControl.initial with receiver := .body 2 [2] })
      (fun t => (t.port .dock).receiver) = some .hunting := by decide +kernel

theorem test_reply_sent_takes_the_waiting_frame :
    after (.replySent .dock) (atPort fullPort)
      (fun t => ((t.port .dock).waiting, (t.port .dock).inService.map (·.reply.code))) = some (none, some 0x82) := by
  decide +kernel

theorem test_link_reset_puts_back :
    after (.linkReset .dock) site
      (fun t => ((t.alarms.ports.get .dock).stack, (t.alarms.entries[(3 : Fin 48)]).map (·.delivery.dock)))
      = some ([], some .pending) := by decide +kernel

theorem test_return_to_mark_ends_the_break :
    after (.rxReturnToMark .dock) (atPort brokenPort) (fun t => (t.port .dock).inBreak) = some false := by decide +kernel

/-- R162, R163: READ CLOCK in RUN, its status, port flags (RUN is bit 2), clock, mode, E and phase. -/
theorem test_read_clock_reply :
    replied (.readClock .dock 7) .dock { running with clock := 0x01020304, phase := 3 }
      = some [0, 4, 1, 2, 3, 4, 1, 10, 0, 3] := by decide +kernel

theorem test_unknown_code_status : replied (.unknownRequest .dock 50 7 []) .dock running = some [5, 4] := by decide +kernel

theorem test_overrun_is_reported_once :
    after (.readClock .dock 7) (atPort fullPort) (fun t => (t.port .dock).overrun) = some true
      ∧ replied (.readRoom .dock 7 8) .dock (atPort { PortControl.initial with overrun := true }) = some [8, 5] := by
  decide +kernel

/-! ### Requests -/

theorem test_take_alarm_takes_the_most_urgent :
    after (.takeAlarm .dock 7) site (fun t => (t.alarms.ports.get .dock).stack) = some [1, 3] := by decide +kernel

theorem test_end_alarm_keeps_an_active_entry :
    after (.endAlarm .dock 7) site
      (fun t => ((t.alarms.ports.get .dock).stack, (t.alarms.entries[(3 : Fin 48)]).map (·.delivery.dock)))
      = some ([], some .done) := by decide +kernel

theorem test_setup_complete_of_the_last_port_validates :
    replied (.setupComplete .dock 7) .dock
      { State.reset with ports := .of fun _ => { PortControl.initial with setupComplete := true } }
      = some [0, 2, 2, 0, 0, 0, 2, 0] := by decide +kernel

theorem test_clamped_door_times :
    after (.setDoorTimes .dock 7 0 121 301 0) running
      (fun t => ((t.door 0).sealLimit, (t.door 0).breachGrace, (t.door 0).releaseTime)) = some (120, 300, 1) := by
  decide +kernel

theorem test_arm_seal :
    after (.doorArmSeal .dock 7 0) (atDoor dockedDoor) (fun t => ((t.door 0).state, (t.door 0).sealTimer))
      = some (.sealing, .running 30) := by decide +kernel

theorem test_permit_held_in_defrost :
    after (.doorOpenPermit .dock 7 0) ((atDoor sealedDoor).setDefrost 0 { Defrost.initial with state := .drip })
      (fun t => (t.door 0).permit) = some .pending := by decide +kernel

theorem test_release_is_busy_with_a_pallet_inbound :
    replied (.doorRelease .dock 7 0) .dock (site.setDoor 0 sealedDoor) = some [11, 6] := by decide +kernel

theorem test_wrong_role : replied (.setHeaterCapacity .dock 7 8) .dock State.reset = some [6, 0] := by decide +kernel

theorem test_wrong_mode : replied (.setHeaterCapacity .plant 7 8) .plant running = some [7, 4] := by decide +kernel

theorem test_heating_ended_starts_the_drip :
    after (.heatingEnded .plant 7 0 1)
      { atRoom .initial { Defrost.initial with state := .heating } with remainingCapacity := 4 }
      (fun t => ((t.defrost 0).state, (t.defrost 0).phaseTimer, t.remainingCapacity)) = some (.drip, .running 300, 8) := by
  decide +kernel

theorem test_enter_pallet_takes_the_lowest_slot :
    replied (.enterPallet .movement 7 77 0 0) .movement site = some [0, 6, 3] := by decide +kernel

theorem test_request_move_into_a_heating_room_is_refused :
    replied (.requestMove .movement 7 12 3) .movement site = some [13, 6] := by decide +kernel

theorem test_pick_lifts_the_pallet :
    after (.pick .movement 7 0xA0) site (fun t => ((t.pallet 0).state, (t.pallet 0).pickState, (t.move 0).transitTimer))
      = some (.inTransit, some .inbound, .running 300) := by decide +kernel

theorem test_put_sets_the_pallet_down :
    after (.put .movement 7 0xE1 none) site (fun t => ((t.pallet 2).location, t.move 1, t.journal.next))
      = some (.at (.lane 0), .empty 0, 2) := by decide +kernel

theorem test_release_journal_is_clamped :
    replied (.releaseJournal .movement 7 2) .movement site = some [1, 6, 0, 1, 0, 0, 0, 0, 0, 1] := by decide +kernel

/-! ### The part at work meets every invariant -/

theorem siteOf_pallet (e : Nat) (b : Bool) (n : Nat) (q : Fin 256) : (siteOf e b n).pallet q
    = if q = 0 then inboundPallet else if q = 1 then placedWith e b else if q = 2 then ridingPallet else .empty := by
  have h : running.pallet q = .empty := by simp [running, State.reset, State.pallet]
  show (siteRecords e b).pallet q = _
  simp only [siteRecords, State.setDefrost_pallet, State.setMove_pallet, State.pallet_setPallet, State.setDoor_pallet, h]
  grind

theorem siteOf_move (e : Nat) (b : Bool) (n : Nat) (m : Fin 32) : (siteOf e b n).move m
    = if m = 0 then permittedMove else if m = 1 then ridingMove else .empty 0 := by
  have h : running.move m = .empty 0 := by simp [running, State.reset, State.move]
  show (siteRecords e b).move m = _
  simp only [siteRecords, State.setDefrost_move, State.move_setMove, State.setPallet_move, State.setDoor_move, h]
  grind

theorem site_pallet (q : Fin 256) : site.pallet q
    = if q = 0 then inboundPallet else if q = 1 then placedPallet else if q = 2 then ridingPallet else .empty :=
  siteOf_pallet 0 false 1 q

theorem site_move (m : Fin 32) : site.move m
    = if m = 0 then permittedMove else if m = 1 then ridingMove else .empty 0 :=
  siteOf_move 0 false 1 m

theorem site_attentionKept : site.attentionKept := rfl

theorem site_outputsKept : site.outputsKept := by unfold State.outputsKept; decide +kernel

theorem site_journalKept : site.journalKept := by unfold State.journalKept; decide +kernel

theorem site_accountingKept (c : Instr) : (waitingFor c site).accountingKept := by
  have h1 : (waitingFor c site).livePallets ≤ 256 := le_trans List.countP_le_length (by simp)
  have h2 : (waitingFor c site).liveMoves ≤ 32 := le_trans List.countP_le_length (by simp)
  have h3 : (waitingFor c site).journal.held = 1 := rfl
  simp only [State.accountingKept, State.accounting, Config.journalCapacity]
  omega

theorem site_defrostKept : site.defrostKept := by
  refine ⟨by decide, by decide +kernel, by decide +kernel, by decide +kernel, fun h => ?_⟩
  exact absurd h (by decide)

theorem site_doorsKept : site.doorsKept := by
  unfold State.doorsKept Door.agrees Door.quiet
  decide +kernel

theorem siteOf_tags (e : Nat) (b : Bool) (n : Nat) : ∀ q : Fin 256, ((siteOf e b n).pallet q).live = true → q = 0 ∧ ((siteOf e b n).pallet q).tag = 11
    ∨ q = 1 ∧ ((siteOf e b n).pallet q).tag = 12 ∨ q = 2 ∧ ((siteOf e b n).pallet q).tag = 13 := by
  intro q h
  rw [siteOf_pallet] at h ⊢
  split_ifs at h ⊢ with h0 h1 h2
  · exact .inl ⟨h0, rfl⟩
  · exact .inr (.inl ⟨h1, rfl⟩)
  · exact .inr (.inr ⟨h2, rfl⟩)
  · exact absurd h (by decide)

theorem siteOf_tagsKept (e : Nat) (b : Bool) (n : Nat) : (siteOf e b n).tagsKept := by
  refine ⟨fun q h => ?_, fun q q' h h' e' => ?_⟩
  · obtain ⟨_, h⟩ | ⟨_, h⟩ | ⟨_, h⟩ := siteOf_tags _ _ _ q h <;> rw [h] <;> decide
  · obtain ⟨a, k⟩ | ⟨a, k⟩ | ⟨a, k⟩ := siteOf_tags _ _ _ q h <;> obtain ⟨c, d⟩ | ⟨c, d⟩ | ⟨c, d⟩ := siteOf_tags _ _ _ q' h' <;>
      rw [a, c] <;> rw [k, d] at e' <;> exact absurd e' (by decide)

theorem siteOf_recordsKept (e : Nat) (b : Bool) (n : Nat) : (siteOf e b n).recordsKept := by
  refine ⟨siteOf_tagsKept _ _ _, fun q h e' => ?_, fun q => ?_, fun m => ?_, ?_,
    fun h => nomatch (show Mode.run = .setup from h)⟩
  · rw [siteOf_pallet] at e' ⊢
    split_ifs at e' ⊢ with h0 h1 h2
    · cases e'; exact ⟨rfl, rfl, rfl⟩
    · cases e'
    · cases e'; exact ⟨rfl, rfl, rfl⟩
    · cases e'
  · rw [siteOf_pallet]
    split_ifs
    · exact ⟨⟨0, rfl⟩, rfl⟩
    · exact ⟨⟨.room 2, rfl, rfl⟩, rfl⟩
    · exact ⟨rfl, rfl, .inr (.inl rfl)⟩
    · rfl
  · unfold State.moveAgrees
    rw [siteOf_move]
    split_ifs with h0 h1
    · exact ⟨⟨_, _, rfl, rfl, 0, rfl, rfl, by subst h0; rfl, rfl⟩, rfl, by decide, rfl, rfl⟩
    · exact ⟨⟨_, _, rfl, rfl, 2, rfl, by subst h1; rfl, rfl, fun _ => rfl, fun _ => rfl⟩, rfl, rfl⟩
    · rfl
  · have h : ∀ d : Fin 24, (siteOf e b n).trailerHeld d = true → d = 0 := by
      intro d h
      simp only [State.trailerHeld, Bool.or_eq_true, lowest_isSome] at h
      obtain ⟨q, h⟩ | ⟨m, h⟩ := h
      · rw [siteOf_pallet] at h
        split_ifs at h
        · revert h; revert d; decide
        · simp [Pallet.atTrailer, placedWith, placedPallet] at h
        · revert h; revert d; decide
        · revert h; revert d; decide
      · rw [siteOf_move] at h
        split_ifs at h
        · revert h; revert d; decide
        · revert h; revert d; decide
        · revert h; revert d; decide
    intro d hd
    rw [h d hd, show (siteOf e b n).door 0 = workingDoor.driven running.lines from rfl]
    decide

theorem site_tags : ∀ q : Fin 256, (site.pallet q).live = true → q = 0 ∧ (site.pallet q).tag = 11
    ∨ q = 1 ∧ (site.pallet q).tag = 12 ∨ q = 2 ∧ (site.pallet q).tag = 13 := siteOf_tags _ _ _

theorem site_tagsKept : site.tagsKept := siteOf_tagsKept _ _ _

theorem site_recordsKept : site.recordsKept := siteOf_recordsKept _ _ _

theorem site_temperaturesKept : site.temperaturesKept := by
  unfold State.temperaturesKept Channel.inRange inTempRange
  refine ⟨by decide +kernel, fun r => ?_, by decide +kernel⟩
  have h : site.room r = .initial := by revert r; decide
  rw [h]
  refine ⟨by decide, by decide, ?_, ?_, by decide, ?_, ?_, by decide, ?_, rfl, by decide, by decide⟩
  all_goals (unfold inTempRange; decide)

theorem site_budgetsKept : site.budgetsKept := by
  unfold State.budgetsKept Defrost.inRange ProductClass.inRange inTempRange
  refine ⟨by decide +kernel, by decide +kernel, fun q => ?_⟩
  rw [site_pallet]
  split_ifs <;> exact ⟨by decide, by decide +kernel, fun h => absurd h (by decide)⟩

/-- A check of a table that the kernel can evaluate, entry by entry. -/
def tableCheck (t : AlarmTable) : Bool :=
  decide t.order.Nodup && (List.finRange 48).all (fun i =>
      decide (i ∈ t.order) == t.entries[i].isSome
      && (match t.entries[i] with
        | none => true
        | some a => (a.code == .tableFull) == (i == 0) && !a.freeable && decide (a.repeatCount ≤ 255)
            && (!a.code.isNotice || a.condition == .returned)
            && (List.finRange 48).all fun j => match t.entries[j] with
              | none => true
              | some b => i == j || a.code != b.code || a.subject != b.subject)
      && [Port.dock, .plant, .movement].all fun p => decide (i ∈ (t.ports.get p).stack)
          == (match t.entries[i] with | none => false | some a => a.delivery.get p == .inService))
    && [Port.dock, .plant, .movement].all fun p => decide (t.ports.get p).stack.Nodup && decide ((t.ports.get p).floor ≤ 2)
      && (match (t.ports.get p).stack with
        | [] => true
        | [_] => true
        | _ => false)

theorem kept_of_check (t : AlarmTable) (h : tableCheck t = true) : t.kept := by
  simp only [tableCheck, Bool.and_eq_true, List.all_eq_true, List.mem_finRange, true_implies, decide_eq_true_eq] at h
  obtain ⟨⟨h1, h2⟩, h3⟩ := h
  have hp : ∀ p : Port, p ∈ [Port.dock, .plant, .movement] := by intro p; cases p <;> decide
  refine ⟨h1, fun i => ?_, fun i j a b ha hb hc hs => ?_, fun i a ha => ?_, fun p => ⟨(h3 p (hp p)).1.1, (h3 p (hp p)).1.2, ?_, fun i => ?_⟩⟩
  · have := (h2 i).1.1
    simp only [beq_iff_eq] at this
    rw [← this]; simp
  · have := (h2 i).1.2
    rw [ha] at this
    simp only [Bool.and_eq_true, List.all_eq_true, List.mem_finRange, true_implies] at this
    have := this.2 j
    rw [hb] at this
    simpa [hc, hs] using this
  · have := (h2 i).1.2
    rw [ha] at this
    simp only [Bool.and_eq_true, beq_iff_eq, Bool.not_eq_true', decide_eq_true_eq] at this
    obtain ⟨⟨⟨⟨k1, k2⟩, k3⟩, k4⟩, -⟩ := this
    refine ⟨?_, k2, k3, fun hn => by simpa [hn] using k4⟩
    have := congrArg (· = true) k1
    simpa using this
  · have := (h3 p (hp p)).2
    revert this
    generalize (t.ports.get p).stack = l
    intro this
    match l, this with
    | [], _ => trivial
    | [x], _ => exact ⟨by simp, trivial⟩
  · have := (h2 i).2 p (hp p)
    simp only [beq_iff_eq] at this
    rw [← decide_eq_true_iff (p := i ∈ _), this]
    cases t.entries[i] <;> simp

theorem site_tableKept : site.tableKept := kept_of_check _ (by decide +kernel)

theorem crowded_kept : (crowdedTable none).kept := kept_of_check _ (by decide +kernel)

theorem crowded_full_kept (n : Word16) (h : n = 1 ∨ n = 65535) : (crowdedTable (some (fullEntry n))).kept := by
  obtain rfl | rfl := h <;> exact kept_of_check _ (by decide +kernel)

/-! ### Witnesses: requests and frames -/

theorem witness_FramesAreTakenStoredOrLost :
    Instr.request? (.readClock .dock 7) = some (.dock, 7, .readClock) ∧ ((atPort brokenPort).port .dock).inBreak = true
      ∧ (running.port .dock).inBreak = false ∧ (running.port .dock).inService = none
      ∧ ((atPort busyPort).port .dock).inBreak = false ∧ ((atPort busyPort).port .dock).inService.isSome = true
      ∧ ((atPort busyPort).port .dock).waiting = none ∧ ((atPort fullPort).port .dock).inBreak = false
      ∧ ((atPort fullPort).port .dock).inService.isSome = true
      ∧ ((atPort fullPort).port .dock).waiting = some clockFrame := by decide

theorem witness_FrameBytesCompleteTheFrame :
    (Frame.mk 2 7 []).payload.length ≤ payloadMax ∧ (Frame.mk 50 7 (List.replicate 56 0)).payload.length ≤ payloadMax
      ∧ (running.port .dock).inBreak = false ∧ (running.port .dock).receiver = .hunting := by decide

theorem witness_BadFrameLeavesNoTrace :
    (2 ≤ [2, 7].length ∧ [2, 7].length ≤ payloadMax + 2 ∧ crc16 [2, 2, 7] ≠ join16 0 0)
      ∧ (2 ≤ (List.replicate 58 (0 : Byte)).length ∧ (List.replicate 58 (0 : Byte)).length ≤ payloadMax + 2
        ∧ crc16 (58 :: List.replicate 58 0) ≠ join16 0 0)
      ∧ (running.port .dock).inBreak = false ∧ (running.port .dock).receiver = .hunting := by decide +kernel

theorem witness_ReceiverFollowsTheLine :
    ((atPort brokenPort).port .dock).inBreak = true ∧ (running.port .dock).inBreak = false
      ∧ (running.port .dock).receiver = .hunting
      ∧ ((atPort { PortControl.initial with receiver := .length }).port .dock).receiver = .length
      ∧ ((atPort { PortControl.initial with receiver := .body 2 [2, 7] }).port .dock).receiver = .body 2 [2, 7]
      ∧ [(2 : Byte), 7].length + 1 < (2 : Byte).toNat + 2
      ∧ (List.replicate 58 (0 : Byte)).length + 1 < (58 : Byte).toNat + 2 := by decide

theorem running_ready (p : Port) : running.ready p := by cases p <;> exact ⟨rfl, rfl, rfl, running_settled⟩

theorem reset_settled : State.reset.settled := State.settled_congr (s := running) rfl rfl rfl rfl running_settled

theorem reset_ready (p : Port) : State.reset.ready p := by cases p <;> exact ⟨rfl, rfl, rfl, reset_settled⟩

theorem site_ready (p : Port) : site.ready p := by cases p <;> exact ⟨rfl, rfl, rfl, site_settled⟩

theorem witness_UnknownCodeIsAnswered :
    running.ready .dock ∧ ((0 : Byte).toNat = 0 ∨ requestCount < (0 : Byte).toNat)
      ∧ ((50 : Byte).toNat = 0 ∨ requestCount < (50 : Byte).toNat)
      ∧ (List.replicate 56 (0 : Byte)).length ≤ payloadMax :=
  ⟨running_ready _, by decide, by decide, by decide⟩

theorem witness_RequestChecksInOrder : ∃ row, requestRow (Request.setHeaterCapacity 8).code = some row
    ∧ Instr.request? (.setHeaterCapacity .dock 7 8) = some (.dock, 7, .setHeaterCapacity 8)
    ∧ Instr.request? (.setHeaterCapacity .plant 7 8) = some (.plant, 7, .setHeaterCapacity 8)
    ∧ running.ready .dock ∧ running.ready .plant ∧ State.reset.ready .plant ∧ row.role.isSome = true ∧ row.role = some .plant
    ∧ running.takes .plant row = false ∧ State.reset.takes .plant row = true ∧ row.parse [] = none :=
  ⟨_, rfl, rfl, rfl, running_ready _, running_ready _, reset_ready _, rfl, rfl, rfl, rfl, rfl⟩

theorem witness_LinkResetClearsOnePort :
    ((atPort brokenPort).port .dock).inBreak = true ∧ site.alarms.kept ∧ (site.port .dock).inBreak = false :=
  ⟨rfl, site_tableKept, rfl⟩

theorem witness_WarmRestartSettlesThePart :
    site.ready .plant ∧ site.mode = .run ∧ (site.door 0).enabled = true ∧ (State.reset.ready .plant ∧ State.reset.mode ≠ .run)
      ∧ site.recordsKept ∧ site.defrostKept ∧ (site.defrost 2).state = .queued ∧ (site.defrost 3).state = .heating
      ∧ ((site.pallet 2).state = .inTransit ∧ (site.pallet 2).handle = some ⟨1, 7⟩)
      ∧ (site.alarms.ports.get .dock).routes[(23 : Fin 24)] = true
      ∧ (let silent := site.setAlarms { AlarmTable.initial with ports := .of fun _ => ⟨[], 2, Vector.replicate 24 false⟩ }
        silent.mode = .run ∧ ∀ p, (silent.alarms.ports.get p).routes[(23 : Fin 24)] = false) :=
  ⟨site_ready _, rfl, rfl, ⟨reset_ready _, by decide⟩, site_recordsKept, site_defrostKept, rfl, rfl, ⟨rfl, rfl⟩, rfl, rfl,
    fun p => by cases p <;> rfl⟩

/-- A part in trouble: every probe open, no room with a valid one, every evaporator due. -/
def troubled : State :=
  { running with
    channels := Vector.replicate 32 { Channel.initial with role := .room, state := .opened }
    defrosts := Vector.replicate 8 { Defrost.initial with frostIndex := 20000 } }

/-- A warm restart up to the defrost conditions, which are raised again before the pallets' and the Journal's (R177, step 7). -/
def restartUpToDefrost (s : State) : State :=
  forEach 8 reraiseDefrost (forEach 8 evaluateLost (forEach 32 reraiseProbe
    (restartRooms (restartDoors ((clearTable (restartDefrost (restartMoves s))).post .warmRestart .none none)))))

/-- What follows those leaves the defrost records. -/
theorem restartPart_frame (s : State) :
    (restartUpToDefrost s).frame [.pallets, .journal, .alarms, .attn] (restartPart s) := by
  unfold restartPart reraiseConditions reraiseJournal
  refine State.frame_trans (t := forEach 256 reraisePallet (restartUpToDefrost s))
    (frame_forEach (fun q t => State.frame_mono (reraisePallet_frame q t) (by decide)) _) ?_
  split
  · exact State.frame_mono (raiseJournalHigh_frame _) (by decide)
  · exact State.frame_refl _ _

theorem troubled_defrosts : (restartUpToDefrost troubled).alarms.entries[(47 : Fin 48)].map (fun e => (e.code, e.subject))
      = some (.frostDue, .room 5)
    ∧ ((restartUpToDefrost troubled).defrost 5).dueFlag = true ∧ ((restartUpToDefrost troubled).defrost 5).dueUnposted = false
    ∧ ((restartUpToDefrost troubled).defrost 6).dueFlag = true
    ∧ ((restartUpToDefrost troubled).defrost 6).dueUnposted = true
    ∧ ((restartUpToDefrost troubled).defrost 7).forcedFlag = false := by decide +kernel

/-- WARM_RESTART, 32 probes and 8 rooms leave six entries: the frost of room 5 is entered, that of room 6 is not. -/
theorem witness_WarmRestartSettlesThePart_again :
    troubled.mode = .run ∧ (let u := restartPart troubled
      ((u.defrost 5).dueFlag = true ∧ (u.defrost 5).dueUnposted = false)
        ∧ ((u.defrost 6).dueFlag = true ∧ (u.defrost 6).dueUnposted = true) ∧ (u.defrost 7).forcedFlag = false) := by
  have h := fun r => State.frame_defrost (restartPart_frame troubled) (by decide) r
  simp only [h]
  obtain ⟨-, h1, h2, h3, h4, h5⟩ := troubled_defrosts
  exact ⟨rfl, ⟨h1, h2⟩, ⟨h3, h4⟩, h5⟩

theorem exec_answers (c : Instr) (s : State) : ∃ t, exec c s = .next t := by cases c <;> exact ⟨_, rfl⟩

theorem step_answers (s : State) : ∃ t, step s = .next t := by
  unfold step
  split
  · exact ⟨_, rfl⟩
  · exact exec_answers _ _

/-! ### Witnesses: invariants, kept by a step that does something -/

theorem witness_StepKeepsAttentionLines :
    (waitingFor (.takeAlarm .dock 7) site).attentionKept ∧ ∃ t, step (waitingFor (.takeAlarm .dock 7) site) = .next t :=
  ⟨site_attentionKept, step_answers _⟩

theorem reset_doorsKept : State.reset.doorsKept := by
  unfold State.doorsKept Door.agrees Door.quiet
  decide +kernel

/-- Door 0 at work with door 2 disabled, and every door in SETUP. -/
theorem witness_StepKeepsDoorOutputs :
    (waitingFor (.doorClose .dock 7 0) site).outputsKept
      ∧ (∃ t, step (waitingFor (.doorClose .dock 7 0) site) = .next t ∧ (t.door 2).enabled = false)
      ∧ (waitingFor (.doorClose .dock 7 0) site).doorsKept
      ∧ State.reset.outputsKept ∧ State.reset.doorsKept ∧ step State.reset = .next State.reset ∧ State.reset.mode = .setup :=
  ⟨site_outputsKept, ⟨_, rfl, by decide +kernel⟩, site_doorsKept, by unfold State.outputsKept; decide +kernel, reset_doorsKept, rfl,
    rfl⟩

theorem witness_StepKeepsJournalOrder :
    (waitingFor (.rejectPallet .movement 7 12) site).journalKept
      ∧ ∃ t, step (waitingFor (.rejectPallet .movement 7 12) site) = .next t :=
  ⟨site_journalKept, step_answers _⟩

theorem witness_StepKeepsJournalAccounting :
    (waitingFor (.enterPallet .movement 7 14 0 0) site).accountingKept
      ∧ ∃ t, step (waitingFor (.enterPallet .movement 7 14 0 0) site) = .next t :=
  ⟨site_accountingKept _, step_answers _⟩

theorem witness_StepKeepsHeaterCapacity :
    (waitingFor (.heatingEnded .plant 7 3 1) site).defrostKept
      ∧ ∃ t, step (waitingFor (.heatingEnded .plant 7 3 1) site) = .next t ∧ t.mode = .run :=
  ⟨site_defrostKept, _, rfl, by decide +kernel⟩

theorem witness_StepKeepsDoorRecords :
    (waitingFor (.doorClose .dock 7 0) site).doorsKept ∧ ∃ t, step (waitingFor (.doorClose .dock 7 0) site) = .next t :=
  ⟨site_doorsKept, step_answers _⟩

theorem witness_StepKeepsPalletsAndMovesLinked :
    (waitingFor (.pick .movement 7 0xA0) site).recordsKept
      ∧ ∃ t, step (waitingFor (.pick .movement 7 0xA0) site) = .next t :=
  ⟨site_recordsKept, step_answers _⟩

theorem witness_StepKeepsTemperaturesInRange :
    (waitingFor (.setRoomLimits .plant 7 0 0 0 0 0 0) site).temperaturesKept
      ∧ ∃ t, step (waitingFor (.setRoomLimits .plant 7 0 0 0 0 0 0) site) = .next t :=
  ⟨site_temperaturesKept, step_answers _⟩

theorem witness_StepKeepsBudgetMarks :
    (waitingFor (.exposureTick true) site).budgetsKept ∧ ∃ t, step (waitingFor (.exposureTick true) site) = .next t :=
  ⟨site_budgetsKept, step_answers _⟩

theorem witness_StepKeepsTheAlarmTable :
    (waitingFor (.endAlarm .dock 7) site).tableKept ∧ ∃ t, step (waitingFor (.endAlarm .dock 7) site) = .next t :=
  ⟨site_tableKept, step_answers _⟩

/-! ### Witnesses: rules of the whole part -/

theorem witness_ClockAndConfigurationAreFixed :
    (∃ t, exec (.doorClose .dock 7 0) site = .next t) ∧ Instr.doorClose .dock 7 0 ≠ .coldReset
      ∧ (∀ order, Instr.doorClose .dock 7 0 ≠ .secondTick order) ∧ site.mode = .run :=
  ⟨⟨_, rfl⟩, by decide, by simp, rfl⟩

/-- Pallet 0 with the largest exposure there is, picked up. -/
theorem witness_ExposureNeverDecreases :
    let s := site.setPallet 0 { inboundPallet with exposure := 4294967295, warned := true, overBudget := true }
    ∃ t, exec (.pick .movement 7 0xA0) s = .next t ∧ Instr.pick .movement 7 0xA0 ≠ .coldReset
      ∧ (s.pallet 0).exposure ≤ Config.exposureMax ∧ (s.pallet 0).live = true ∧ (t.pallet 0).live = true
      ∧ (s.pallet 0).warned = true ∧ (s.pallet 0).overBudget = true :=
  ⟨_, rfl, by decide, by decide +kernel, rfl, by decide +kernel, rfl, rfl⟩

/-! ### Witnesses: events of the clock and the lines -/

theorem witness_SecondTickCounts :
    State.reset.mode = .setup ∧ running.mode = .run ∧ State.phase { running with phase := 8 } + 1 < running.interval
      ∧ running.interval ≤ State.phase { running with phase := 9 } + 1 ∧ site.outputsKept :=
  ⟨rfl, rfl, by decide, by decide, site_outputsKept⟩

/-- A channel and a room with a mark, retried into a table with room and into a full one; a door whose mark has outlived its state. -/
theorem witness_SecondTickCounts_retries :
    let marked := running.setChannel 31 { Channel.initial with role := .room, state := .opened, unposted := true }
    let full := marked.setAlarms (crowdedTable none)
    let stale := site.setDoor 0 { workingDoor with breachUnposted := true }
    (marked.channel 31).unposted = true ∧ (marked.channel 31).state ≠ .ok
      ∧ ((retryProbes marked).channel 31).unposted = false
      ∧ full.tableKept ∧ (full.channel 31).unposted = true ∧ ((retryProbes full).channel 31).unposted = true
      ∧ (stale.door 0).breachUnposted = true ∧ (stale.door 0).state ≠ .breach ∧ site.tableKept :=
  ⟨rfl, by decide, by decide +kernel, crowded_kept, rfl, by decide +kernel, rfl, by decide, site_tableKept⟩

/-- A tick that names two blocks, one that names none, and lines that follow the table. -/
theorem witness_SecondTickCounts_order :
    [RetryBlock.journal, .rooms].Nodup ∧ ([] : List RetryBlock).Nodup ∧ site.attentionKept :=
  ⟨by decide, by decide, site_attentionKept⟩

theorem witness_SecondTickStartsTheRound :
    State.round { running with round := .ended } ≠ .idle ∧ running.round = .idle
      ∧ (∀ c : Fin 32, (running.channel c).role = .unused)
      ∧ ((running.setChannel 0 { Channel.initial with role := .room }).channel 0).role ≠ .unused
      ∧ ((running.setChannel 31 { Channel.initial with role := .coil }).channel 31).role ≠ .unused
      ∧ (∀ i : Fin 32, i < 31 → ((running.setChannel 31 { Channel.initial with role := .coil }).channel i).role = .unused) := by
  decide

theorem witness_StrobeSamplesEveryInput : site.outputsKept := site_outputsKept

/-- A door whose seal input has a change due, in RUN, in SETUP, and disabled. -/
theorem witness_DebouncedChangeSetsItsEdge :
    let due : Door := { workingDoor with sm := ⟨true, 5, true, false, false⟩ }
    (site.setDoor 0 due).outputsKept ∧ (((site.setDoor 0 due).door 0).input .sm).changeDue = true
      ∧ State.mode { atDoor due with mode := .setup } = .setup
      ∧ ((atDoor { due with enabled := false }).door 0).enabled = false := by
  refine ⟨?_, by decide, rfl, rfl⟩
  unfold State.outputsKept
  decide +kernel

/-- A SEALED door that loses its seal goes to SEALING; a door in BREACH that loses its trailer stays. -/
theorem witness_DoorFollowsTheTransitionTable :
    let sealed := atDoor { sealedDoor with sm := ⟨true, 5, true, false, false⟩ }
    let breach := atDoor { workingDoor with state := .breach, breachOrigin := true, tp := ⟨true, 5, true, false, false⟩ }
    ((sealed.door 0).input .sm).changeDue = true ∧ sealed.mode = .run ∧ (sealed.door 0).enabled = true
      ∧ (∃ t, exec (.debouncedChange 0 .sm) sealed = .next t ∧ (t.door 0).state = .sealing)
      ∧ ((breach.door 0).input .tp).changeDue = true ∧ ((breach.door 0).input .tp).level = true
      ∧ ∃ t, exec (.debouncedChange 0 .tp) breach = .next t ∧ (t.door 0).state = .breach
        ∧ (t.door 0).breachOrigin = true :=
  ⟨rfl, rfl, rfl, ⟨_, rfl, by decide +kernel⟩, rfl, rfl, _, rfl, by decide +kernel, by decide +kernel⟩

/-- A door in BREACH whose panel closes leaves it, to SEALED with its trailer and seal, and to FAULT where the trailer of pallet 0 is gone; a
SEALED door that loses its trailer is in FAULT, which a full table leaves unposted. -/
theorem witness_DoorFollowsTheTransitionTable_flags :
    let breach : Door := { workingDoor with state := .breach, breachFlag := true, pc := ⟨false, 5, true, false, false⟩ }
    let closes := atDoor breach
    let lost := site.setDoor 0 { breach with tp := .initial, sm := .initial }
    let crowded := (atDoor { sealedDoor with tp := ⟨true, 5, true, false, false⟩ }).setAlarms (crowdedTable none)
    ((closes.door 0).state = .breach ∧ ∃ t, exec (.debouncedChange 0 .pc) closes = .next t ∧ (t.door 0).state = .sealed
        ∧ (t.door 0).breachFlag = false)
      ∧ (((lost.door 0).input .pc).changeDue = true ∧ lost.mode = .run ∧ (lost.door 0).enabled = true
        ∧ (lost.door 0).state = .breach ∧ ∃ t, exec (.debouncedChange 0 .pc) lost = .next t ∧ (t.door 0).state = .fault
          ∧ (t.door 0).faultFlag = true)
      ∧ (crowded.door 0).state ≠ .fault ∧ ∃ t, exec (.debouncedChange 0 .tp) crowded = .next t ∧ (t.door 0).state = .fault
        ∧ (t.door 0).faultUnposted = true :=
  ⟨⟨rfl, _, rfl, by decide +kernel, by decide +kernel⟩,
    ⟨rfl, rfl, rfl, rfl, _, rfl, by decide +kernel, by decide +kernel⟩,
    by decide, _, rfl, by decide +kernel, by decide +kernel⟩

theorem witness_DoorTimerExpiries :
    let sealing := atDoor { dockedDoor with state := .sealing, sealTimer := .running 0 }
    let breach := atDoor { workingDoor with state := .breach, breachTimer := .running 0 }
    let stuck := atDoor { sealedDoor with state := .releasing, releaseTimer := .running 0 }
    let there := atDoor { dockedDoor with state := .releasing, releaseTimer := .running 0 }
    let gone := atDoor { dockedDoor with state := .releasing, releaseTimer := .running 0, tp := .initial }
    ((sealing.door 0).state = .sealing ∧ (sealing.door 0).sealTimer = .running 0)
      ∧ ((breach.door 0).state = .breach ∧ (breach.door 0).breachTimer = .running 0)
      ∧ ((stuck.door 0).state = .releasing ∧ (stuck.door 0).releaseTimer = .running 0 ∧ (stuck.door 0).sm.level = true)
      ∧ ((there.door 0).state = .releasing ∧ (there.door 0).releaseTimer = .running 0 ∧ (there.door 0).sm.level = false
        ∧ (there.door 0).tp.level = true)
      ∧ (gone.door 0).state = .releasing ∧ (gone.door 0).releaseTimer = .running 0 ∧ (gone.door 0).sm.level = false
        ∧ (gone.door 0).tp.level = false := by decide

/-- An exposure tick due, with pallet 100 a unit short of its warning in a warm room and room 3 at ten frost units below its hard limit. -/
def shortSite (table : AlarmTable) : State :=
  ({ ((running.setPallet 100 { placedPallet with exposure := 43199 }).setRoom 2 { Room.initial with filtered := -80 }).setDefrost 3
    { Defrost.initial with frostIndex := 29990 } with exposureDue := true } : State).setAlarms table

theorem shortSite_open : (∃ t, exec (.exposureTick false) (shortSite .initial) = .next t
      ∧ ((t.pallet 100).warned = true ∧ (t.pallet 100).warnUnposted = false)
      ∧ (t.defrost 3).dueFlag = true ∧ (t.defrost 3).dueUnposted = false
      ∧ (t.defrost 3).forcedMark = true ∧ (t.defrost 3).forcedUnposted = false) :=
  ⟨_, rfl, by decide +kernel⟩

theorem shortSite_full : (∃ t, exec (.exposureTick false) (shortSite (crowdedTable none)) = .next t
      ∧ ((t.pallet 100).warned = true ∧ (t.pallet 100).warnUnposted = true)
      ∧ (t.defrost 3).dueFlag = true ∧ (t.defrost 3).dueUnposted = true
      ∧ (t.defrost 3).forcedMark = true ∧ (t.defrost 3).forcedUnposted = true) :=
  ⟨_, rfl, by decide +kernel⟩

theorem initial_kept : AlarmTable.initial.kept := kept_of_check _ (by decide +kernel)

/-- The warning of pallet 100 is raised into the empty table and not into a full one; pallet 2 rides from room 1 to the lane of door 0. -/
theorem witness_ExposureTickChargesPallets :
    (∀ table, (shortSite table).mode = .run ∧ (shortSite table).exposureDue = true ∧ (shortSite table).attentionKept
        ∧ ((shortSite table).pallet 100).warned = false ∧ ((shortSite table).pallet 100).warnUnposted = false)
      ∧ (shortSite .initial).tableKept ∧ (shortSite (crowdedTable none)).tableKept
      ∧ (∃ t, exec (.exposureTick false) (shortSite .initial) = .next t ∧ (t.pallet 100).warned = true
        ∧ (t.pallet 100).warnUnposted = false)
      ∧ (∃ t, exec (.exposureTick false) (shortSite (crowdedTable none)) = .next t ∧ (t.pallet 100).warned = true
        ∧ (t.pallet 100).warnUnposted = true)
      ∧ (site.pallet 1).location = .at (.room 2)
      ∧ (site.pallet 2).location = .inTransit ∧ (site.pallet 2).handle = some ⟨1, 7⟩
      ∧ (site.move 1).origin = some (.room 1) ∧ (site.move 1).destination = some (.lane 0) :=
  ⟨fun _ => ⟨rfl, rfl, rfl, rfl, rfl⟩, initial_kept, crowded_kept,
    let ⟨t, h, k, _⟩ := shortSite_open; ⟨t, h, k⟩, let ⟨t, h, k, _⟩ := shortSite_full; ⟨t, h, k⟩, by decide +kernel, by decide +kernel,
    by decide +kernel, rfl, rfl⟩

/-- Room 3 is HEATING and room 2 is not; at the short site both levels of room 3 are reached, with room in the table and without. -/
theorem witness_ExposureTickAddsFrost :
    State.mode { site with exposureDue := true } = .run ∧ State.exposureDue { site with exposureDue := true } = true
      ∧ (site.defrost 3).state = .heating ∧ (site.defrost 2).state ≠ .heating ∧ (site.defrost 2).state ≠ .drip
      ∧ (∀ table, ((shortSite table).defrost 3).dueFlag = false ∧ ((shortSite table).defrost 3).dueUnposted = false
        ∧ ((shortSite table).defrost 3).forcedMark = false ∧ ((shortSite table).defrost 3).forcedUnposted = false
        ∧ (shortSite table).attentionKept)
      ∧ (∃ t, exec (.exposureTick false) (shortSite .initial) = .next t
        ∧ (t.defrost 3).dueFlag = true ∧ (t.defrost 3).dueUnposted = false
        ∧ (t.defrost 3).forcedMark = true ∧ (t.defrost 3).forcedUnposted = false)
      ∧ ∃ t, exec (.exposureTick false) (shortSite (crowdedTable none)) = .next t
        ∧ (t.defrost 3).dueFlag = true ∧ (t.defrost 3).dueUnposted = true
        ∧ (t.defrost 3).forcedMark = true ∧ (t.defrost 3).forcedUnposted = true :=
  ⟨rfl, rfl, rfl, by decide, by decide, fun _ => ⟨rfl, rfl, rfl, rfl, rfl⟩,
    let ⟨t, h, _, k⟩ := shortSite_open; ⟨t, h, k⟩, let ⟨t, h, _, k⟩ := shortSite_full; ⟨t, h, k⟩⟩

/-! ### Witnesses: the converter and the rooms -/

/-- The lowest and the highest good code. -/
theorem witness_GoodCodeIsConverted :
    let x : Transaction := ⟨31, 0x9F, false⟩
    State.round { running with round := .converting x } = .converting x ∧ x.discarded = false
      ∧ (0x0001 : Word16).extractLsb' 0 12 ≠ (0 : BitVec 12) ∧ (0x0001 : Word16).extractLsb' 0 12 ≠ (4095 : BitVec 12)
      ∧ (0xFFFE : Word16).extractLsb' 0 12 ≠ (0 : BitVec 12) ∧ (0xFFFE : Word16).extractLsb' 0 12 ≠ (4095 : BitVec 12) := by
  decide

/-- A channel that was failing and one that was not. -/
theorem witness_GoodCodeIsConverted_returns :
    (running.channel 31).state = .ok
      ∧ ((running.setChannel 31 { Channel.initial with role := .room, state := .short }).channel 31).state ≠ .ok := by decide

/-- A third failure in a row, of each class. -/
theorem witness_FailedConversionCounts :
    let x : Transaction := ⟨31, 0x9F, false⟩
    let s := { running.setChannel 31 { Channel.initial with role := .room, suspect := 2 } with round := .converting x }
    s.round = .converting x ∧ x.discarded = false ∧ (0xFFFF : Word16).extractLsb' 0 12 = (4095 : BitVec 12)
      ∧ (0xF000 : Word16).extractLsb' 0 12 = (0 : BitVec 12) ∧ (s.channel 31).lastCode = none
      ∧ (∃ t, exec .converterReplyLimitExpiry s = .next t ∧ (t.channel 31).state ≠ (s.channel 31).state)
      ∧ ∃ t, exec .converterReplyLimitExpiry
          { running.setChannel 31 { Channel.initial with role := .room, suspect := 1 } with round := .converting x } = .next t
        ∧ (t.channel 31).state = .ok :=
  ⟨rfl, rfl, by decide, by decide, rfl, ⟨_, rfl, by decide +kernel⟩, _, rfl, by decide +kernel⟩

/-- A round at channel 30 with channel 31 still to come, and one at channel 31, its outcome discarded. -/
theorem witness_RoundGoesToTheNextChannel :
    let x : Transaction := ⟨30, 0x9E, false⟩
    let s := { running.setChannel 31 { Channel.initial with role := .coil } with round := .converting x }
    let last := State.round { running with round := .converting ⟨31, 0x9F, true⟩ }
    s.round = .converting x ∧ x.channel < 31 ∧ (s.channel 31).role ≠ .unused
      ∧ (∀ i : Fin 32, x.channel < i → i < 31 → (s.channel i).role = .unused) ∧ last = .converting ⟨31, 0x9F, true⟩
      ∧ (∀ i : Fin 32, (31 : Fin 32) < i → (running.channel i).role = .unused) := by decide

theorem witness_VoteOfOneToFourProbes :
    (-300 : Int) ≤ -290 ∧ (-290 : Int) ≤ -290 ∧ (-290 : Int) ≤ -287 ∧ [-287, -300, -290].Perm [-300, -290, (-287 : Int)]
      ∧ [-287, -300, -290, -290].Perm [-300, -290, -290, (-287 : Int)] ∧ vote [-287, -300, -290, -290] = some (-290) := by decide

/-- The lowest and highest weight, a step that the minimum takes, and F and R at the ends of their range. -/
theorem witness_SmoothingStepStaysShortOfTheReading :
    vote [-288] = some (-288) ∧ ({ Room.initial with firstVote := true } : Room).firstVote = true
      ∧ (0 : Int) = Int.fdiv ((((-64) - (-65)) * ((1 : Nat) : Int)) + 128) 256 ∧ 0 < (-64 : Int) - (-65)
      ∧ (0 : Int) = Int.fdiv ((((-64) - (-63)) * ((1 : Nat) : Int)) + 128) 256 ∧ (-64 : Int) - (-63) < 0
      ∧ (1920 : Int) = Int.fdiv (((960 - (-960)) * ((256 : Nat) : Int)) + 128) 256 ∧ (1920 : Int) ≠ 0
      ∧ 1 ≤ 256 ∧ 256 ≤ 256 ∧ (-960 : Int) ≤ 960 := by decide

/-- Room 3 has one valid probe, room 0 none; room 3 has voted before in one state and not in the other. -/
theorem witness_RoundCompleteVotesEveryRoom :
    let s := { running.setChannel 5 { Channel.initial with role := .room, room := 3, temperature := -288, measured := true }
      with round := .ended }
    s.round = .ended ∧ vote (s.probeTemps .room 3) = some (-288) ∧ vote (s.probeTemps .room 0) = none
      ∧ (s.room 3).firstVote = false ∧ ((s.setRoom 3 { Room.initial with firstVote := true }).room 3).firstVote = true := by
  decide +kernel

/-- Room 0 without a probe in RUN, and in SETUP with and without a vote; with the flag set, without a probe and with one valid probe. -/
theorem witness_RoundCompleteVotesEveryRoom_lost :
    let lost := site.setRoom 0 { Room.initial with lostFlag := true, lostUnposted := true }
    let back := State.setChannel { lost with round := .ended } 31
      { Channel.initial with role := .room, room := 0, temperature := -288, measured := true }
    let voted := State.reset.setRoom 0 { Room.initial with firstVote := true }
    ((running.room 0).validCount = 0 ∧ (running.room 0).lostFlag = false ∧ running.mode = .run)
      ∧ (State.round { site with round := .ended } = .ended ∧ site.tableKept)
      ∧ ((voted.room 0).firstVote = true ∧ (State.reset.room 0).firstVote = false ∧ State.reset.mode = .setup)
      ∧ (back.round = .ended ∧ back.tableKept ∧ (back.room 0).lostFlag = true ∧ vote (back.probeTemps .room 0) = some (-288))
      ∧ (lost.room 0).validCount = 0
      ∧ (let valid := lost.setRoom 0 { Room.initial with lostFlag := true, validCount := 1 }
        0 < (valid.room 0).validCount ∧ (valid.room 0).lostFlag = true)
      ∧ ((roundRooms back).room 0).lostFlag = false ∧ ((roundRooms back).room 0).lostUnposted = false :=
  ⟨⟨rfl, rfl, rfl⟩, ⟨rfl, site_tableKept⟩, ⟨rfl, rfl, rfl⟩, ⟨rfl, site_tableKept, rfl, by decide +kernel⟩, rfl,
    ⟨by decide, rfl⟩, by decide +kernel, by decide +kernel⟩

/-- A RECOVERY room at its limit and one a sixteenth above it, and a HEATING room with a warm coil. -/
theorem witness_RoundCompleteEndsRecovery :
    let s := ({ running.setChannel 5 { Channel.initial with role := .coil, room := 3, temperature := 160, measured := true }
      with round := .ended }.setDefrost 3 { Defrost.initial with state := .heating }).setDefrost 0
        { Defrost.initial with state := .recovery }
    let at288 := s.setRoom 0 { Room.initial with filtered := -288 }
    let at287 := s.setRoom 0 { Room.initial with filtered := -287 }
    s.round = .ended ∧ s.mode = .run ∧ (s.defrost 3).state = .heating
      ∧ coldest (s.probeTemps .coil 3) = some 160 ∧ (s.defrost 3).terminateTemp ≤ 160 ∧ (s.defrost 0).state = .recovery
      ∧ (at288.room 0).filtered ≤ (at288.room 0).effectiveUpper ∧ (at287.room 0).effectiveUpper < (at287.room 0).filtered
      ∧ (s.defrost 1).state ≠ .heating ∧ (s.defrost 1).state ≠ .recovery := by decide +kernel

/-- A coil at its limit of 160 has TERMINATE_REACHED posted with 160 as detail; a room without a coil probe has no coldest one. -/
theorem witness_RoundCompleteEndsRecovery_notice :
    let hot := (running.setChannel 5 { Channel.initial with role := .coil, room := 3, temperature := 160, measured := true }).setDefrost
      3 { Defrost.initial with state := .heating }
    coldest (hot.probeTemps .coil 3) = some 160 ∧ coldest (hot.probeTemps .coil 0) = none ∧ coldest [160, -1, 3] = some (-1)
      ∧ ((testTerminate 3 hot).defrost 3).terminateMark = true
      ∧ ((testTerminate 3 hot).alarms.entries[(1 : Fin 48)]).map (fun e => (e.code, e.detail))
        = some (.terminateReached, some 160) := by decide +kernel

theorem witness_RoomTimerExpiries :
    ((atRoom { Room.initial with highTimer := .running 0 } .initial).room 0).highTimer = .running 0
      ∧ ((atRoom { Room.initial with lowTimer := .running 0 } .initial).room 0).lowTimer = .running 0 := by decide

/-- A part with nothing to take, and parts with an expiry to take before a request, a debounced change and a round-complete event. -/
theorem witness_RoomTimerExpiries_settled :
    site.settled ∧ ¬ lateSite.settled ∧ (lateSite.defrost 3).expiryDue = true
      ∧ (let s := atDoor { workingDoor with
          state := .breach, breachTimer := .running 0, pc := { InputLine.initial with count := 5, changeDue := true } }
        ((s.door 0).input .pc).changeDue = true ∧ (s.door 0).expiryDue = true)
      ∧ (let s := { atRoom { Room.initial with highTimer := .running 0 } .initial with round := .ended }
        s.round = .ended ∧ (s.room 0).expiryDue = true) :=
  ⟨site_settled, fun h => absurd (h.2.2.1 3) (by decide), by decide, ⟨rfl, rfl⟩, rfl, rfl⟩

theorem witness_DefrostTimerExpiries :
    (let s := atRoom .initial { Defrost.initial with state := .granted, phaseTimer := .running 0 };
      (s.defrost 0).state = .granted ∧ (s.defrost 0).phaseTimer = .running 0)
    ∧ ((lateSite.defrost 3).state = .heating ∧ (lateSite.defrost 3).phaseTimer = .running 0)
    ∧ (let s := atRoom .initial { Defrost.initial with state := .drip, phaseTimer := .running 0 };
      (s.defrost 0).state = .drip ∧ (s.defrost 0).phaseTimer = .running 0)
    ∧ (let s := atRoom .initial { Defrost.initial with state := .recovery, phaseTimer := .running 0 };
      (s.defrost 0).state = .recovery ∧ (s.defrost 0).phaseTimer = .running 0)
    ∧ ((atRoom .initial { Defrost.initial with inhibitDue := true }).defrost 0).inhibitDue = true := by decide

/-- A SEALED door of room 0 whose permit is held, and the disabled doors, whose permit is not. -/
theorem witness_DefrostTimerExpiries_permits :
    let s := atDoor { sealedDoor with permit := .pending }
    s.doorsKept ∧ s.attentionKept
      ∧ ((s.door 0).enabled = true ∧ (s.door 0).dockRoom = 0 ∧ (s.door 0).permit = .pending)
      ∧ (s.door 1).permit ≠ .pending ∧ ((givePermits 0 s).door 0).pr = true
      ∧ ((givePermits 0 s).alarms.entries[(1 : Fin 48)]).map (fun e => (e.code, e.subject))
        = some (.openPermitReleased, .door 0) := by
  refine ⟨?_, rfl, ⟨rfl, rfl, rfl⟩, by decide, by decide +kernel, by decide +kernel⟩
  unfold State.doorsKept Door.agrees Door.quiet
  decide +kernel

theorem witness_MoveTimerExpiries :
    let lapsed := site.setMove 0 { permittedMove with lapseTimer := .running 0 }
    let late := site.setMove 1 { ridingMove with transitTimer := .running 0, overdueFlag := false }
    (lapsed.move 0).state = .permitted ∧ (lapsed.move 0).lapseTimer = .running 0
      ∧ (late.move 1).state = .inTransit ∧ (late.move 1).transitTimer = .running 0 := by decide

/-! ### Witnesses: the arbiter, the end of a move, and the table -/

/-- A load equal to the remaining capacity fits and one more does not; an inhibited room is blocked; a forced one is granted. -/
theorem witness_ArbiterTakesEntriesInOrder :
    (site.defrost 2).heaterLoad ≤ site.remainingCapacity
      ∧ State.remainingCapacity { site with remainingCapacity := 3 } < (site.defrost 2).heaterLoad
      ∧ (site.defrost 2).forcedMark = false
      ∧ 0 < ((site.setDefrost 2 { Defrost.initial with state := .queued, inhibit := 1 }).defrost 2).inhibit
      ∧ (let s := { running.setDefrost 0 { Defrost.initial with state := .queued, forcedMark := true } with
          defrostQueue := [0] };
        (s.defrost 0).forcedMark = true ∧ (s.defrost 0).state ≠ .granted
          ∧ ((evaluateQueue s).defrost 0).state = .granted) := by decide +kernel

/-- A move that leaves its pallet where it stands, one that sets it down, and the three states an end of a move may give. -/
theorem witness_EndOfAMoveInOrder :
    site.recordsKept ∧ site.tableKept ∧ (site.move 0).live = true ∧ (site.move 1).live = true
      ∧ (site.move 1).overdueFlag = true
      ∧ (∀ x : PalletState × Place, none = some x → x.1 ≠ .free)
      ∧ (∀ x : PalletState × Place, some (PalletState.placed, Place.lane 0) = some x → x.1 ≠ .free)
      ∧ (∀ x : PalletState × Place, some (PalletState.aboard, Place.trailer 0) = some x → x.1 ≠ .free)
      ∧ ∀ x : PalletState × Place, some (PalletState.inbound, Place.trailer 0) = some x → x.1 ≠ .free :=
  ⟨site_recordsKept, site_tableKept, rfl, rfl, rfl, by simp, by simp, by simp, by simp⟩

/-- Entry 1 is re-raised, entry 0 too; entry 4 is the lowest free one; a notice is routed to no port; the crowded table is full. -/
theorem witness_RaiseOccupiesOrReRaises :
    threeEntries.kept ∧ (threeEntries.entries[(1 : Fin 48)] = some highEntry ∧ highEntry.code = .roomHigh)
      ∧ (crowdedTable (some (fullEntry 65535))).kept
      ∧ (crowdedTable (some (fullEntry 65535))).entries[(0 : Fin 48)] = some (fullEntry 65535)
      ∧ (∀ i : Fin 48, threeEntries.find .warmRestart .none = none ∧ (threeEntries.entries[i]).all (·.code != .warmRestart))
      ∧ threeEntries.entries[(4 : Fin 48)] = none
      ∧ (∀ j : Fin 48, j ≠ 0 → j < 4 → threeEntries.entries[j].isSome = true)
      ∧ (threeEntries.ports.get .dock).routes[AlarmCode.warmRestart.place] = true ∧ AlarmCode.warmRestart.isNotice = true
      ∧ (crowdedTable none).kept ∧ (∀ i : Fin 48, i ≠ 0 → (crowdedTable none).entries[i].isSome = true) :=
  ⟨site_tableKept, ⟨rfl, rfl⟩, crowded_full_kept _ (.inr rfl), rfl, by decide +kernel, rfl, by decide +kernel, rfl, rfl, crowded_kept,
    by decide +kernel⟩

/-- A notice that no port routes. -/
theorem witness_RaiseOccupiesOrReRaises_unrouted :
    let t := { AlarmTable.initial with ports := .of fun _ => ⟨[], 2, Vector.replicate 24 false⟩ }
    t.kept ∧ t.entries[(1 : Fin 48)] = none
      ∧ ∀ p, (t.ports.get p).routes[AlarmCode.sealTimeout.place] = false :=
  ⟨kept_of_check _ (by decide +kernel), rfl, fun p => by cases p <;> rfl⟩

/-- An absent pair, an entry that keeps a port, one that keeps none, and TABLE_FULL at the ends of its count. -/
theorem witness_ReturnsFreeAndFullTablesCount :
    threeEntries.kept ∧ AlarmCode.roomHigh ≠ .tableFull ∧ threeEntries.find .roomLow (.room 0) = none
      ∧ highEntry.condition = .active ∧ highEntry.delivery.get .dock = .pending
      ∧ (crowdedTable none).kept ∧ (∀ i : Fin 48, i ≠ 0 → (crowdedTable none).entries[i].isSome = true)
      ∧ (crowdedTable none).entries[(0 : Fin 48)] = none
      ∧ (∀ n, n = 1 ∨ n = 65535 → (crowdedTable (some (fullEntry n))).kept
        ∧ (crowdedTable (some (fullEntry n))).entries[(0 : Fin 48)] = some (fullEntry n))
      ∧ (fullEntry 65535).detail = some 65535 ∧ (fullEntry 1).detail = some 1
      ∧ (∃ e, (crowdedTable none).entries[(1 : Fin 48)] = some e ∧ e.code = .exposureWarning ∧ e.subject = .pallet 1
        ∧ e.condition = .active ∧ ∀ p, e.delivery.get p = .done)
      ∧ ∀ p, (fullEntry 1).delivery.get p = .done :=
  ⟨site_tableKept, by decide, by decide +kernel, rfl, rfl, crowded_kept, by decide +kernel, rfl,
    fun n h => ⟨crowded_full_kept n h, by obtain rfl | rfl := h <;> rfl⟩, rfl, rfl, ⟨_, rfl, rfl, rfl, rfl, fun p => by cases p <;> rfl⟩,
    fun p => by cases p <;> rfl⟩

/-- A returned entry that a port still has, and a TABLE_FULL that a port still has. -/
theorem witness_ReturnsFreeAndFullTablesCount_held :
    let held : AlarmEntry := { highEntry with condition := .returned }
    let full : AlarmEntry := { fullEntry 1 with delivery := .of fun _ => .pending }
    AlarmTable.kept { threeEntries with entries := threeEntries.entries.set 1 (some held) } ∧ held.condition = .returned
      ∧ (crowdedTable (some full)).kept ∧ (crowdedTable (some full)).entries[(0 : Fin 48)] = some full
      ∧ full.delivery.get .dock = .pending :=
  ⟨kept_of_check _ (by decide +kernel), rfl, kept_of_check _ (by decide +kernel), rfl, rfl⟩

/-! ### Witnesses: requests of any port -/

theorem site_no_tag (pallet : Word32) (h1 : pallet ≠ 11) (h2 : pallet ≠ 12) (h3 : pallet ≠ 13) :
    ∀ q : Fin 256, (site.pallet q).live = true → (site.pallet q).tag ≠ pallet := by
  intro q h
  obtain ⟨_, h⟩ | ⟨_, h⟩ | ⟨_, h⟩ := site_tags q h <;> rw [h]
  · exact Ne.symm h1
  · exact Ne.symm h2
  · exact Ne.symm h3

theorem witness_ReadsReportTheRecords :
    site.ready .dock ∧ 8 ≤ (8 : Byte).toNat ∧ 32 ≤ (32 : Byte).toNat ∧ 3 ≤ (3 : Byte).toNat ∧ site.tagsKept
      ∧ (site.pallet 2).live = true ∧ (∀ q : Fin 256, (site.pallet q).live = true → (site.pallet q).tag ≠ 14)
      ∧ (∀ q : Fin 256, (site.pallet q).live = true → (site.pallet q).tag ≠ 0) ∧ site.defrostQueue.length ≤ 8
      ∧ site.tableKept :=
  ⟨site_ready _, by decide, by decide, by decide, site_tagsKept, by decide +kernel,
    site_no_tag _ (by decide) (by decide) (by decide), site_no_tag _ (by decide) (by decide) (by decide), by decide,
    site_tableKept⟩

/-- R166, R167: pallet 13, IN_TRANSIT with handle 0xE1, was picked up PLACED: its location byte, its pick state present, its place 1. -/
theorem test_read_pallet_pick_state :
    (replied (.readPallet .dock 7 13) .dock site).map (fun l => (l.drop 8).take 4) = some [3, 0xC0, 1, 1] := by decide +kernel

/-- A snapshot of the part. -/
def unreadPort : PortControl := { PortControl.initial with snapshot := some running.takeSnapshot }

theorem witness_LatchesAndClearingReads :
    (running.ready .dock ∧ (running.port .dock).snapshot = none)
      ∧ ((atPort unreadPort).ready .dock ∧ ∃ x, ((atPort unreadPort).port .dock).snapshot = some x ∧ x.readLow = false)
      ∧ (let read := { unreadPort with
          snapshot := some { running.takeSnapshot with readLow := true, readHigh := true } };
        (atPort read).ready .dock
          ∧ ∃ x, ((atPort read).port .dock).snapshot = some x ∧ x.readLow = true ∧ x.readHigh = true)
      ∧ 2 ≤ (2 : Byte).toNat ∧ (1 : Byte).toNat < 2 ∧ 24 ≤ (24 : Byte).toNat :=
  ⟨⟨running_ready _, rfl⟩, ⟨atPort_ready _ rfl rfl rfl, _, rfl, rfl⟩, ⟨atPort_ready _ rfl rfl rfl, _, rfl, rfl, rfl⟩, by decide,
    by decide, by decide⟩

/-- The Dock port has an entry to take and one to end; the reset part has neither. -/
theorem witness_AlarmRequestsServeOnePort :
    running.ready .dock ∧ (∀ i : Fin 48, running.alarms.presentable .dock i = false)
      ∧ (running.alarms.ports.get .dock).stack = []
      ∧ site.ready .dock ∧ site.alarms.kept ∧ site.alarms.entries[(1 : Fin 48)] = some highEntry
      ∧ site.alarms.presentable .dock 1 = true
      ∧ (∀ j : Fin 48, site.alarms.presentable .dock j = true →
        site.alarms.urgencyOf 1 < site.alarms.urgencyOf j
          ∨ site.alarms.urgencyOf 1 = site.alarms.urgencyOf j ∧ site.alarms.order.idxOf 1 ≤ site.alarms.order.idxOf j)
      ∧ (site.alarms.ports.get .dock).stack = 3 :: [] ∧ site.alarms.entries[(3 : Fin 48)] = some faultEntry
      ∧ 24 ≤ (24 : Byte).toNat ∧ 2 ≤ (2 : Byte).toNat :=
  ⟨running_ready _, by decide +kernel, rfl, site_ready _, site_tableKept, rfl, by decide +kernel, by decide +kernel, rfl, rfl,
    by decide, by decide⟩

/-- Entry 2 is not for the Dock port, entry 3 is taken already; class 1 is not below a class 1 on the stack. -/
theorem witness_AlarmRequestsServeOnePort_presentable :
    (highEntry.delivery.get .dock = .pending ∧ highEntry.code.urgency ≤ (site.alarms.ports.get .dock).floor
        ∧ highEntry.code.urgency < site.alarms.urgencyOf 3)
      ∧ site.alarms.presentable .dock 2 = false ∧ site.alarms.presentable .dock 3 = false
      ∧ ¬ site.alarms.urgencyOf 3 < site.alarms.urgencyOf 3 := by decide +kernel

/-- A site that passes the validation: a ROOM probe in every room. -/
def validSetup : State :=
  forEach 8 (fun r s => s.setChannel ⟨r.val, by omega⟩ { Channel.initial with role := .room, room := r })
    { State.reset with
      ports := ⟨.initial, { PortControl.initial with setupComplete := true }, { PortControl.initial with setupComplete := true }⟩ }

theorem validSetup_settled : validSetup.settled := State.settled_congr (s := State.reset) rfl rfl rfl rfl reset_settled

theorem witness_SetupCompleteValidates :
    State.reset.ready .dock ∧ State.reset.mode = .setup ∧ (¬ ∀ q, q ≠ Port.dock → (State.reset.port q).setupComplete = true)
      ∧ validSetup.ready .dock ∧ validSetup.mode = .setup ∧ (∀ q, q ≠ Port.dock → (validSetup.port q).setupComplete = true)
      ∧ validSetup.validate = none := by
  refine ⟨reset_ready _, rfl, fun h => ?_, ⟨rfl, rfl, rfl, validSetup_settled⟩, rfl, fun q hq => ?_, by decide +kernel⟩
  · exact absurd (h .plant (by decide)) (by decide)
  · cases q
    · exact absurd rfl hq
    · rfl
    · rfl

/-- A valid setup with a warm room 7 that has voted, and a door 3 whose seal is made without a trailer, its panel closed. -/
def faultySetup : State :=
  ((validSetup.setRoom 7 { Room.initial with firstVote := true }).setRoom 0 { Room.initial with kind := .dock }).setDoor 3
    { Door.initial with
      enabled := true, pc := { InputLine.initial with level := true }, sm := { InputLine.initial with level := true } }

/-- R176: the entry into RUN raises DOOR_FAULT at that door, starts the high timer of room 7, and posts OPERATION_STARTED. -/
theorem witness_SetupCompleteValidates_entry :
    faultySetup.validate = none ∧ (faultySetup.door 3).enabled = true
      ∧ (faultySetup.door 3).derive (faultySetup.trailerHeld 3) = .fault .sealWithoutTrailer
      ∧ ((faultySetup.room 7).firstVote = true ∧ (faultySetup.room 7).highTimer = .stopped
        ∧ (faultySetup.room 7).lowTimer = .stopped ∧ (faultySetup.room 7).highFlag = false
        ∧ (faultySetup.room 7).lowFlag = false)
      ∧ (faultySetup.room 6).firstVote = false
      ∧ (let t := enterRun faultySetup
        (t.alarms.entries[(1 : Fin 48)]).map (fun e => (e.code, e.detail)) = some (.doorFault, some 2)
          ∧ (t.alarms.entries[(2 : Fin 48)]).map (·.code) = some .operationStarted
          ∧ (t.room 7).highTimer = .running 900) := by decide +kernel

/-- A first failing check of each number, at the highest index. -/
theorem witness_SetupCompleteValidates_checks :
    (validSetup.setDoor 23 { Door.initial with enabled := true }).validate = some (1, 23)
      ∧ (validSetup.setChannel 7 .initial).validate = some (2, 7)
      ∧ (validSetup.setDefrost 7 { Defrost.initial with heaterLoad := 15 }).validate = some (3, 7)
      ∧ ({ validSetup with classes := validSetup.classes.set 7 { ProductClass.initial with warn := 2, budget := 1 } } : State).validate
        = some (4, 7) := by decide +kernel

/-! ### Witnesses: requests of one role -/

/-- The Plant's request on a room with four ROOM probes, of another channel, of one of the four, and of one that starts afresh. -/
theorem witness_StructuralRequestsStoreTheirValues :
    let probe : Channel := { Channel.initial with role := .room }
    let s := (((State.reset.setChannel 0 probe).setChannel 1 probe).setChannel 2 probe).setChannel 3 probe
    let others := fun c : Fin 32 =>
      countWhere 32 fun i => i != c && (s.channel i).role == .room && (s.channel i).room == (0 : Fin 8)
    s.mode = .setup ∧ s.ready .dock ∧ s.ready .plant ∧ s.ready .movement ∧ (∀ p, (s.port p).setupComplete = false)
      ∧ 4 ≤ others 31 ∧ others 3 < 4 ∧ ((s.channel 3).role = .room ∧ (s.channel 3).room = 0)
      ∧ ¬ ((s.channel 31).role = .coil ∧ (s.channel 31).room = 0)
      ∧ 1 ≤ (1 : Byte).toNat ∧ (15 : Byte).toNat ≤ 15 ∧ (0 : Byte).toNat = 0 ∧ 16 ≤ (16 : Byte).toNat
      ∧ 24 ≤ (24 : Byte).toNat ∧ 32 ≤ (32 : Byte).toNat ∧ 3 ≤ (3 : Byte).toNat ∧ 8 ≤ (8 : Byte).toNat
      ∧ 2 ≤ (2 : Byte).toNat := by
  intro probe s others
  have h : s.settled := State.settled_congr (s := State.reset) rfl rfl rfl rfl reset_settled
  refine ⟨rfl, ⟨rfl, rfl, rfl, h⟩, ⟨rfl, rfl, rfl, h⟩, ⟨rfl, rfl, rfl, h⟩, fun p => by cases p <;> rfl, ?_⟩
  decide +kernel

/-- Class temperatures at the ends of their range and one past them. -/
theorem witness_StructuralRequestsStoreTheirValues_class :
    -960 ≤ (0xFC40 : Word16).toInt ∧ (0x03C0 : Word16).toInt ≤ 960 ∧ (0xFC3F : Word16).toInt < -960
      ∧ 960 < (0x03C1 : Word16).toInt ∧ (1 : Word16) ≠ 0 ∧ (7 : Byte) = BitVec.ofNat 8 (7 : Fin 8) := by decide

theorem witness_SetExposureTickStoresTheInterval :
    State.reset.ready .movement ∧ State.reset.mode = .setup ∧ (State.reset.port .movement).setupComplete = false
      ∧ 1 ≤ (1 : Byte).toNat ∧ (60 : Byte).toNat ≤ 60 ∧ (0 : Byte).toNat = 0 ∧ 60 < (61 : Byte).toNat
      ∧ running.ready .movement ∧ running.mode = .run
      ∧ (validSetup.ready .movement ∧ (validSetup.port .movement).setupComplete = true) :=
  ⟨reset_ready _, rfl, rfl, by decide, by decide, by decide, by decide, running_ready _, rfl,
    ⟨rfl, rfl, rfl, validSetup_settled⟩, rfl⟩

/-- In RUN, phases below E and at it, and an exposure tick due with a live pallet. -/
theorem witness_SetExposureTickStoresTheInterval_used :
    State.phase { running with phase := 8 } + 1 < running.interval ∧ running.interval ≤ State.phase { running with phase := 9 } + 1
      ∧ (shortSite .initial).mode = .run ∧ (shortSite .initial).exposureDue = true
      ∧ ((shortSite .initial).pallet 100).live = true := by decide +kernel

theorem witness_TunablesAreForcedIntoRange :
    running.ready .dock ∧ running.ready .plant ∧ running.ready .movement ∧ State.reset.ready .plant
      ∧ 24 ≤ (24 : Byte).toNat ∧ 32 ≤ (32 : Byte).toNat ∧ 8 ≤ (8 : Byte).toNat :=
  ⟨running_ready _, running_ready _, running_ready _, reset_ready _, by decide, by decide, by decide⟩

/-- Thresholds at and above the held count of 1, with the flag clear and set. -/
theorem witness_JournalRequestsFollowTheList :
    State.reset.ready .movement ∧ State.reset.mode = .setup ∧ site.ready .movement ∧ site.mode = .run ∧ site.journalKept
      ∧ site.journal.held ≤ 512 ∧ (3 : Byte) ≠ 1 ∧ (3 : Byte) ≠ 2
      ∧ max 1 (min (1 : Word16).toNat 512) ≤ site.journal.held ∧ site.journal.highFlag = false
      ∧ (let marked := site.setJournal { site.journal with highFlag := true }
        marked.journal.held < max 1 (min (2 : Word16).toNat 512) ∧ marked.journal.highFlag = true) :=
  ⟨reset_ready _, rfl, site_ready _, rfl, site_journalKept, by decide, by decide, by decide, by decide, rfl, by decide, rfl⟩

theorem witness_LimitChangesAreEvaluatedAtOnce :
    running.ready .plant ∧ running.ready .movement ∧ 8 ≤ (8 : Byte).toNat ∧ 2 ≤ (2 : Byte).toNat
      ∧ State.reset.mode = .setup ∧ running.mode = .run ∧ (running.room 7).firstVote = false
      ∧ ((atRoom { Room.initial with firstVote := true } .initial).room 0).firstVote = true :=
  ⟨running_ready _, running_ready _, by decide, by decide, rfl, rfl, rfl, rfl⟩

/-- A voted room 0.5 °C below its limit with both flags set, whose alarms return, and one at RECOVERY's end. -/
theorem witness_LimitChangesAreEvaluatedAtOnce_returns :
    let room := { Room.initial with firstVote := true, highFlag := true, lowFlag := true, filtered := -296 }
    let s := atRoom room { Defrost.initial with state := .recovery, frostIndex := 30000 }
    s.mode = .run ∧ s.attentionKept ∧ (s.room 0).firstVote = true ∧ (s.room 0).highFlag = true
      ∧ (s.room 0).filtered ≤ (s.room 0).effectiveUpper - 8 ∧ (s.room 0).lowFlag = true
      ∧ (s.room 0).lower + 8 ≤ (s.room 0).filtered ∧ (s.defrost 0).state = .recovery
      ∧ (s.room 0).filtered ≤ (s.room 0).effectiveUpper ∧ (s.defrost 0).hardLimit ≤ (s.defrost 0).frostIndex
      ∧ (s.defrost 0).forcedMark = false :=
  ⟨rfl, rfl, rfl, rfl, by decide, rfl, by decide, rfl, by decide, by decide, rfl⟩

/-- Door 0 in each state that takes a request, with and without what holds its trailer. -/
theorem witness_DoorRequestsMoveTheDoor :
    (site.ready .dock ∧ site.mode = .run ∧ (site.door 0).enabled = true ∧ (site.door 0).state = .working)
      ∧ ((atDoor dockedDoor).ready .dock ∧ ((atDoor dockedDoor).door 0).state = .docked)
      ∧ ((atDoor sealedDoor).ready .dock ∧ ((atDoor sealedDoor).door 0).state = .sealed ∧ (atDoor sealedDoor).outputsKept)
      ∧ (let s := site.setDoor 0 sealedDoor;
        (s.door 0).state = .sealed ∧ (s.pallet 0).state = .inbound ∧ (s.pallet 0).location = .at (.trailer 0))
      ∧ (∀ m : Fin 32, ((atDoor sealedDoor).move m).live = false)
      ∧ (let gone := atDoor { dockedDoor with state := .fault, faultCause := .trailerLost, tp := .initial };
        (gone.door 0).state = .fault ∧ (gone.door 0).sm.level = false ∧ (gone.door 0).tp.level = false)
      ∧ ((running.door 23).enabled = false ∧ (23 : Byte) = BitVec.ofNat 8 (23 : Fin 24) ∧ 24 ≤ (24 : Byte).toNat
        ∧ 2 ≤ (2 : Byte).toNat) := by
  refine ⟨⟨site_ready _, rfl, rfl, rfl⟩, ⟨atDoor_ready _ rfl _, rfl⟩, ⟨atDoor_ready _ rfl _, rfl, ?_⟩, by decide +kernel, by decide +kernel,
    by decide, by decide⟩
  unfold State.outputsKept
  decide +kernel

/-- The empty pallet table of the reset part holds no door, and has no free slot before slot 0. -/
theorem witness_DoorRequestsMoveTheDoor_free :
    ∀ q : Fin 256, ((atDoor sealedDoor).pallet q).state = .inbound →
      ((atDoor sealedDoor).pallet q).location ≠ .at (.trailer 0) := by
  intro q h
  have e : (atDoor sealedDoor).pallet q = .empty := by simp [atDoor, running, State.reset, State.pallet, State.setDoor]
  rw [e] at h
  exact absurd h (by decide)

/-- A SEALED door 0 with pallet 1 aboard, warned, and a full table that shows it. -/
def aboardSite : State :=
  (((atDoor sealedDoor).setPallet 1
    { placedPallet with state := .aboard, location := .at (.trailer 0), warned := true })).setAlarms (crowdedTable none)

/-- Door 0 of the part at work, its trailer and seal lost. -/
def lostTrailer : State :=
  site.setDoor 0 { workingDoor with state := .fault, faultCause := .trailerLost, faultFlag := true, tp := .initial, sm := .initial }

theorem lostTrailer_recordsKept : lostTrailer.recordsKept := by
  obtain ⟨h1, h2, h3, h4, h5, h6⟩ := site_recordsKept
  refine ⟨h1, h2, h3, h4, fun d h => ?_, h6⟩
  have := h5 d h
  by_cases e : d = 0
  · subst e
    decide
  · simpa [lostTrailer, State.door_setDoor, e] using this

/-- Door 0 with a pallet aboard, warned, that is shipped; and the part at work with its trailer lost, an INBOUND pallet in it and a move
out of it. -/
theorem witness_DoorRequestsMoveTheDoor_records :
    (aboardSite.ready .dock ∧ aboardSite.mode = .run ∧ (aboardSite.door 0).enabled = true ∧ (aboardSite.door 0).state = .sealed
        ∧ (∀ q : Fin 256, (aboardSite.pallet q).state = .inbound → (aboardSite.pallet q).location ≠ .at (.trailer 0))
        ∧ (∀ m : Fin 32, (aboardSite.move m).live = false) ∧ aboardSite.tableKept ∧ (aboardSite.pallet 1).state = .aboard
        ∧ (aboardSite.pallet 1).location = .at (.trailer 0) ∧ (aboardSite.pallet 1).warned = true
        ∧ ∃ e, aboardSite.alarms.entries[(1 : Fin 48)] = some e ∧ e.subject = .pallet 1 ∧ e.code = .exposureWarning)
      ∧ lostTrailer.ready .dock ∧ lostTrailer.mode = .run ∧ (lostTrailer.door 0).enabled = true
      ∧ (lostTrailer.door 0).state = .fault ∧ (lostTrailer.door 0).sm.level = false ∧ (lostTrailer.door 0).tp.level = false
      ∧ lostTrailer.recordsKept ∧ lostTrailer.tableKept ∧ (lostTrailer.move 0).namesTrailer 0 = true
      ∧ (lostTrailer.pallet 0).state = .inbound ∧ (lostTrailer.pallet 0).location = .at (.trailer 0) := by
  have h : ∀ q : Fin 256, aboardSite.pallet q = if 1 = q then
      { placedPallet with state := .aboard, location := .at (.trailer 0), warned := true } else .empty := fun q => by
    have e : (atDoor sealedDoor).pallet q = .empty := by simp [atDoor, running, State.reset, State.pallet, State.setDoor]
    simp only [aboardSite, State.setAlarms_pallet, State.pallet_setPallet, e]
  refine ⟨⟨⟨rfl, rfl, rfl, State.settled_congr (s := atDoor sealedDoor) rfl rfl rfl rfl (State.settled_setDoor rfl running_settled)⟩,
    rfl, rfl, rfl, fun q hq => ?_, by decide +kernel, crowded_kept, rfl, rfl, rfl, _, rfl, rfl, rfl⟩,
    ⟨rfl, rfl, rfl, State.settled_setDoor rfl site_settled⟩, rfl, rfl, rfl, rfl, rfl, lostTrailer_recordsKept, site_tableKept, rfl, rfl, rfl⟩
  rw [h] at hq ⊢
  split_ifs at hq
  all_goals cases hq

/-- R45, R58: a fault cleared with the trailer of pallet 0 at door 0 and its seal off leaves SEALING with the seal limit with the panel
closed, and BREACH with the grace with the panel open. -/
theorem witness_DoorRequestsMoveTheDoor_clears :
    let stuck := fun pc : InputLine =>
      site.setDoor 0 { workingDoor with state := .fault, faultCause := .trailerLost, faultFlag := true, sm := .initial, pc := pc }
    let closed : InputLine := { InputLine.initial with level := true }
    (stuck closed).ready .dock ∧ (stuck closed).mode = .run ∧ ((stuck closed).door 0).enabled = true
      ∧ ((stuck closed).door 0).state = .fault ∧ ((stuck closed).door 0).tp.level = true
      ∧ after (.doorClearFault .dock 7 0) (stuck closed) (fun t => ((t.door 0).state, (t.door 0).sealTimer))
        = some (.sealing, .running (site.door 0).sealLimit)
      ∧ after (.doorClearFault .dock 7 0) (stuck .initial) (fun t => ((t.door 0).state, (t.door 0).breachTimer))
        = some (.breach, .running (site.door 0).breachGrace) :=
  ⟨⟨rfl, rfl, rfl, State.settled_setDoor rfl site_settled⟩, rfl, rfl, rfl, rfl, by decide +kernel, by decide +kernel⟩

/-- The first record of a release, and of a trailer that is gone, reaches the threshold of 1 with the high flag clear. -/
theorem witness_DoorRequestsMoveTheDoor_high :
    let low := fun s : State => s.setJournal { s.journal with threshold := s.journal.held + 1 }
    ((low aboardSite).ready .dock ∧ (low aboardSite).tableKept ∧ (low aboardSite).journal.highFlag = false
        ∧ (low aboardSite).journal.threshold ≤ (low aboardSite).journal.held + 1
        ∧ ∀ i : Fin 48, i ≠ 0 → (low aboardSite).alarms.entries[i].isSome = true)
      ∧ ((low lostTrailer).ready .dock ∧ (low lostTrailer).recordsKept ∧ (low lostTrailer).tableKept
        ∧ (low lostTrailer).journal.highFlag = false
        ∧ (low lostTrailer).journal.threshold ≤ (low lostTrailer).journal.held + 1
        ∧ (low lostTrailer).alarms.entries[(4 : Fin 48)] = none) :=
  ⟨⟨⟨rfl, rfl, rfl, State.settled_congr (s := atDoor sealedDoor) rfl rfl rfl rfl (State.settled_setDoor rfl running_settled)⟩,
      crowded_kept, rfl, le_refl _, by decide +kernel⟩,
    ⟨rfl, rfl, rfl, State.settled_congr (s := lostTrailer) rfl rfl rfl rfl (State.settled_setDoor rfl site_settled)⟩,
    lostTrailer_recordsKept, site_tableKept, rfl, le_refl _, rfl⟩

theorem witness_DefrostRequestsFollowTheState :
    (site.ready .plant ∧ site.ready .movement ∧ site.mode = .run ∧ site.attentionKept ∧ (site.defrost 3).state = .heating
        ∧ (site.defrost 2).state = .queued ∧ (site.defrost 0).state = .idle)
      ∧ ((atRoom .initial { Defrost.initial with state := .granted, forcedFlag := true }).defrost 0).state = .granted
      ∧ Termination.temperature ≠ .none ∧ Termination.time ≠ .none ∧ (3600 : Word16) ≠ 0 ∧ 8 ≤ (8 : Byte).toNat
      ∧ 3 ≤ (3 : Byte).toNat ∧ (0 : Byte).toNat = 0 :=
  ⟨⟨site_ready _, site_ready _, rfl, site_attentionKept, rfl, rfl, rfl⟩, rfl, by decide, by decide, by decide, by decide,
    by decide, by decide⟩

theorem witness_PalletsEnterAndLeave :
    site.ready .movement ∧ site.mode = .run ∧ 8 ≤ (8 : Byte).toNat ∧ 24 ≤ (24 : Byte).toNat
      ∧ ((site.door 2).enabled = false ∧ (site.door 0).enabled = true ∧ (site.door 0).state = .working)
      ∧ ((site.pallet 1).live = true ∧ (site.pallet 1).tag = 12)
      ∧ (∀ q : Fin 256, (site.pallet q).live = true → (site.pallet q).tag ≠ 14)
      ∧ ((site.pallet 3).live = false ∧ ∀ i : Fin 256, i < 3 → (site.pallet i).live = true) ∧ site.accounting < 512
      ∧ 512 ≤ State.accounting { site with journal := { site.journal with held := 512 } }
      ∧ site.tagsKept ∧ site.tableKept ∧ (site.pallet 0).handle.isSome = true
      ∧ ((site.pallet 1).handle = none ∧ (site.pallet 1).state = .placed) := by
  have h1 : site.livePallets ≤ 256 := le_trans List.countP_le_length (by simp)
  have h2 : site.liveMoves ≤ 32 := le_trans List.countP_le_length (by simp)
  have h3 : site.journal.held = 1 := rfl
  refine ⟨site_ready _, rfl, by decide, by decide, ⟨rfl, rfl, rfl⟩, ⟨by decide +kernel, by decide +kernel⟩,
    site_no_tag _ (by decide) (by decide) (by decide), ⟨by decide +kernel, fun i hi => ?_⟩, ?_, ?_, site_tagsKept,
    site_tableKept, by decide +kernel, by decide +kernel, by decide +kernel⟩
  · rw [site_pallet]
    split_ifs
    · rfl
    · rfl
    · rfl
    · omega
  · unfold State.accounting
    omega
  · exact Nat.le_add_right_of_le (Nat.le_add_right_of_le (le_refl 512))

/-- Slot 2 is the lowest free entry; the two live entries are PERMITTED and IN_TRANSIT; handle 0xC0 is of another life of slot 0. -/
theorem witness_MoveRequestsFollowTheHandle :
    site.ready .movement ∧ site.mode = .run ∧ site.recordsKept ∧ (site.pallet 0).handle.isSome = true
      ∧ ((site.pallet 1).live = true ∧ (site.pallet 1).handle = none ∧ (site.pallet 1).location = .at (.room 2))
      ∧ (site.onSite (.room 1) = true ∧ Place.room 1 ≠ .room 2 ∧ site.endWorking (.room 2) = true
        ∧ site.endWorking (.room 1) = true ∧ site.endOpen (.room 1) = true)
      ∧ site.endOpen (.room 3) = false ∧ (site.onSite (.trailer 0) = true ∧ site.endWorking (.trailer 0) = true)
      ∧ (site.setDoor 0 sealedDoor).endWorking (.trailer 0) = false
      ∧ ((site.move 2).live = false ∧ ∀ i : Fin 32, i < 2 → (site.move i).live = true)
      ∧ (site.move 0).state = .permitted ∧ (site.move 1).state = .inTransit ∧ (site.move 1).destination = some (.lane 0)
      ∧ (Place.room 2).isTrailer = false
      ∧ ((site.pallet 2).pickState = some .placed ∧ (site.move 1).origin = some (.room 1))
      ∧ (site.move (handleOf 0xC0).slot).generation ≠ (handleOf 0xC0).generation
      ∧ (site.move (handleOf 0x02).slot).live = false := by
  refine ⟨site_ready _, rfl, site_recordsKept, ?_⟩
  decide +kernel

/-- An open move to the trailer at door 0 is turned away for a pallet over budget, for one with a unit too little left for the
transit reserve but not for one with just enough, and for a full Journal; door 1 is not WORKING. -/
theorem witness_MoveRequestsFollowTheHandle_refused :
    (∀ e b n, (siteOf e b n).ready .movement ∧ (siteOf e b n).mode = .run ∧ (siteOf e b n).recordsKept)
      ∧ (site.onSite (.trailer 1) = true ∧ site.endWorking (.trailer 1) = false)
      ∧ ((siteOf 0 true 1).pallet 1).overBudget = true
      ∧ (let s := siteOf 48001 false 1;
        (s.pallet 1).overBudget = false
          ∧ (s.classOf (s.pallet 1)).budget * 960 - (s.pallet 1).exposure < (s.classOf (s.pallet 1)).transitReserve * 960)
      ∧ (let s := siteOf 48000 false 1;
        ¬ (s.classOf (s.pallet 1)).budget * 960 - (s.pallet 1).exposure < (s.classOf (s.pallet 1)).transitReserve * 960)
      ∧ 512 ≤ (siteOf 0 false 512).accounting :=
  ⟨fun e b n => ⟨⟨rfl, rfl, rfl, siteOf_settled e b n⟩, rfl, siteOf_recordsKept e b n⟩, by decide +kernel, by decide +kernel, by decide +kernel,
    by decide +kernel, Nat.le_add_right_of_le (Nat.le_add_right_of_le (le_refl 512))⟩

/-- One of 33 pallets in room 0; each but the last has its move. -/
def crowdPallet (q : Fin 256) : Pallet :=
  { Pallet.empty with
    state := .placed, tag := BitVec.ofNat 32 (q.val + 1), location := .at (.room 0)
    handle := if h : q.val < 32 then some ⟨⟨q.val, h⟩, 0⟩ else none }

/-- The move of one of them to room 1. -/
def crowdMove (m : Fin 32) : Move :=
  { Move.empty 0 with
    state := .permitted, tag := BitVec.ofNat 32 (m.val + 1), origin := some (.room 0), destination := some (.room 1)
    lapseTimer := .running 120 }

/-- The part with 33 pallets, and every move entry taken. -/
def crowdedSite : State :=
  { running with
    pallets := Vector.ofFn fun q => if q.val < 33 then crowdPallet q else .empty
    moves := Vector.ofFn crowdMove }

theorem witness_PalletsEnterAndLeave_full :
    let s := { site with pallets := Vector.replicate 256 placedPallet }
    s.ready .movement ∧ (s.door 0).enabled = true ∧ (s.door 0).state = .working ∧ (∀ q : Fin 256, (s.pallet q).live = true)
      ∧ ∀ q : Fin 256, (s.pallet q).tag ≠ 14 := by
  intro s
  have h : ∀ q : Fin 256, s.pallet q = placedPallet := fun q => by simp [s, State.pallet]
  exact ⟨⟨rfl, rfl, rfl, State.settled_congr (s := site) rfl rfl rfl rfl site_settled⟩, rfl, rfl, fun q => by rw [h]; rfl, fun q => by rw [h]; decide⟩

theorem crowdedSite_pallet (q : Fin 256) : crowdedSite.pallet q = if q.val < 33 then crowdPallet q else .empty := by
  simp [crowdedSite, State.pallet]

theorem crowdedSite_move (m : Fin 32) : crowdedSite.move m = crowdMove m := by simp [crowdedSite, State.move]

theorem crowdedSite_recordsKept : crowdedSite.recordsKept := by
  have tag : ∀ q : Fin 256, (crowdedSite.pallet q).live = true →
      q.val < 33 ∧ (crowdedSite.pallet q).tag = BitVec.ofNat 32 (q.val + 1) := by
    intro q h
    rw [crowdedSite_pallet] at h ⊢
    split_ifs at h ⊢ with hq
    · exact ⟨hq, rfl⟩
    · exact absurd h (by decide)
  refine ⟨⟨fun q h e => ?_, fun q q' h h' e => ?_⟩, fun q h e => ?_, fun q => ?_, fun m => ?_, fun d hd => ?_,
    fun h => nomatch (show Mode.run = .setup from h)⟩
  · rw [(tag q h).2] at e
    have := congrArg BitVec.toNat e
    rw [BitVec.toNat_ofNat, show BitVec.toNat (0 : Word32) = 0 from rfl] at this
    omega
  · rw [(tag q h).2, (tag q' h').2] at e
    have := congrArg BitVec.toNat e
    simp only [BitVec.toNat_ofNat] at this
    exact Fin.ext (by omega)
  · rw [crowdedSite_pallet] at e ⊢
    split_ifs at e ⊢ with hq
    · simp only [crowdPallet] at e
      split_ifs at e with hm
      cases e
      rw [crowdedSite_move]
      exact ⟨rfl, rfl, rfl⟩
    · cases e
  · rw [crowdedSite_pallet]
    split_ifs
    · exact ⟨⟨.room 0, rfl, rfl⟩, rfl⟩
    · rfl
  · unfold State.moveAgrees
    rw [crowdedSite_move]
    refine ⟨⟨.room 0, .room 1, rfl, rfl, ⟨m.val, by omega⟩, ?_⟩, rfl, (by simp [crowdMove]), rfl, rfl⟩
    rw [crowdedSite_pallet, if_pos (by show m.val < 33; omega)]
    refine ⟨rfl, rfl, ?_, rfl⟩
    simp only [crowdPallet, State.handleAt, crowdedSite_move, crowdMove, Move.empty, m.isLt, dite_true]
  · exfalso
    simp only [State.trailerHeld, Bool.or_eq_true, lowest_isSome] at hd
    obtain ⟨q, h⟩ | ⟨m, h⟩ := hd
    · rw [crowdedSite_pallet] at h
      split_ifs at h
      · simp [Pallet.atTrailer, crowdPallet] at h
      · simp [Pallet.atTrailer, Pallet.empty, Pallet.live] at h
    · rw [crowdedSite_move] at h
      simp [Move.namesTrailer, crowdMove] at h

theorem crowdedSite_settled : crowdedSite.settled := by
  obtain ⟨h1, h2, h3, -⟩ := running_settled
  refine ⟨?_, ?_, ?_, fun m => ?_⟩
  · simpa only [State.room, show crowdedSite.rooms = running.rooms from rfl] using h1
  · simpa only [State.door, show crowdedSite.doors = running.doors from rfl] using h2
  · simpa only [State.defrost, show crowdedSite.defrosts = running.defrosts from rfl] using h3
  · rw [crowdedSite_move]
    rfl

/-- Slot 32 holds a pallet without a move, and every move entry is live. -/
theorem witness_MoveRequestsFollowTheHandle_full :
    crowdedSite.ready .movement ∧ crowdedSite.mode = .run ∧ crowdedSite.recordsKept
      ∧ (∀ m : Fin 32, (crowdedSite.move m).live = true) ∧ (crowdedSite.pallet 32).live = true
      ∧ (crowdedSite.pallet 32).handle = none ∧ (crowdedSite.pallet 32).location = .at (.room 0) :=
  ⟨⟨rfl, rfl, rfl, crowdedSite_settled⟩, rfl, crowdedSite_recordsKept, fun m => by rw [crowdedSite_move]; rfl, by rw [crowdedSite_pallet]; rfl,
    by rw [crowdedSite_pallet]; rfl, by rw [crowdedSite_pallet]; rfl⟩

end Sys2Proof.Tests
end

section
/-! PROOFS. A request that arrives at a port that can take it (R160, R161): read back from its frame, checked and performed. -/

namespace Sys2Proof

set_option Elab.async false

/-! ### Arguments read back from their bytes (R166) -/

theorem append_extractLsb' {n m k : Nat} (w : BitVec k) (h : k = n + m) :
    w.extractLsb' m n ++ w.extractLsb' 0 m = w.cast h := by
  subst h
  ext i hi
  simp only [BitVec.getElem_append, BitVec.getElem_extractLsb']
  split
  · simp [BitVec.getLsbD_eq_getElem hi]
  · rw [show m + (i - m) = i by omega, BitVec.getLsbD_eq_getElem hi]; simp

theorem extractLsb'_extractLsb' {k n m a b : Nat} (w : BitVec k) (h : b + m ≤ n) :
    (w.extractLsb' a n).extractLsb' b m = w.extractLsb' (a + b) m := by
  ext i hi
  simp [BitVec.getElem_extractLsb', Nat.add_assoc, show b + i < n by omega]

theorem join16_extract (w : Word16) : join16 (w.extractLsb' 8 8) (w.extractLsb' 0 8) = w :=
  append_extractLsb' (n := 8) (m := 8) w rfl

theorem join32_extract (w : Word32) :
    join32 (w.extractLsb' 24 8) (w.extractLsb' 16 8) (w.extractLsb' 8 8) (w.extractLsb' 0 8) = w := by
  have high : w.extractLsb' 24 8 ++ w.extractLsb' 16 8 = w.extractLsb' 16 16 := by
    have h := append_extractLsb' (n := 8) (m := 8) (w.extractLsb' 16 16) rfl
    rwa [extractLsb'_extractLsb' w (by decide), extractLsb'_extractLsb' w (by decide)] at h
  have low : w.extractLsb' 8 8 ++ w.extractLsb' 0 8 = w.extractLsb' 0 16 := by
    have h := append_extractLsb' (n := 8) (m := 8) (w.extractLsb' 0 16) rfl
    rwa [extractLsb'_extractLsb' w (by decide), extractLsb'_extractLsb' w (by decide)] at h
  rw [join32, high, low]
  exact append_extractLsb' (n := 16) (m := 16) w rfl

/-- A request is read back from the code and payload it is sent as (R163, R166). -/
theorem Request.parse_code_payload (r : Request) : Request.parse r.code r.payload = some r := by
  cases r
  case put handle actual => cases actual <;> rfl
  case cancelMove handle location => cases location <;> rfl
  all_goals
    refine Eq.trans (b := some _) rfl ?_
    simp only [join16_extract, join32_extract]

namespace Machine

/-! ### A request taken at once (R160 to R163) -/

/-- A port that can take a request answers it at once, by the checks of its row (R160, R161). -/
theorem requestArrives_of_ready {p : Port} {s : State} (h : s.ready p) (tag : Byte) {r : Request} {row : RequestRow}
    (hrow : requestRow r.code = some row) :
    requestArrives p tag r s = serve p (r.frame tag) (answerRow p row (some r) s) := by
  obtain ⟨hbreak, hhunt, hfree, hset⟩ := h
  have hport : s.setPort p { s.port p with receiver := .hunting } = s := by
    rw [← hhunt]
    exact State.setPort_own s p
  have hparse := r.parse_code_payload
  rw [Request.parse, hrow, Option.bind_some] at hparse
  rw [requestArrives, frameArrives, hbreak, if_neg (by decide), hport]
  simp only [frameCompletes, hfree, takeFrame, settleTimers_eq hset]
  simp only [answerFrame, Request.frame, hrow, hparse]

/-- A request that its row allows on the port and in the mode is performed (R161, R163). -/
theorem requestArrives_performs {p : Port} {s : State} (h : s.ready p) (tag : Byte) {r : Request} {row : RequestRow}
    (hrow : requestRow r.code = some row) (hrole : row.role = none ∨ row.role = some p) (htakes : s.takes p row = true) :
    requestArrives p tag r s = serve p (r.frame tag) (perform p r s) := by
  rw [requestArrives_of_ready h tag hrow, answerRow, if_pos hrole]
  simp only [htakes, if_true]

/-- A request that its row allows on the port but not in the mode is answered WRONG_MODE (R163). -/
theorem requestArrives_wrongMode {p : Port} {s : State} (h : s.ready p) (tag : Byte) {r : Request} {row : RequestRow}
    (hrow : requestRow r.code = some row) (hrole : row.role = none ∨ row.role = some p) (htakes : s.takes p row = false) :
    requestArrives p tag r s = serve p (r.frame tag) (refuse .wrongMode s) := by
  rw [requestArrives_of_ready h tag hrow, answerRow, if_pos hrole]
  simp [htakes]

/-- A row taken in both modes is taken (R163). -/
theorem State.takes_always (s : State) (p : Port) {row : RequestRow} (hs : row.setup = .taken) (hr : row.run = .taken) :
    s.takes p row = true := by
  unfold State.takes
  cases s.mode <;> simp [hs, hr, columnTakes]

/-- A structural row is taken in SETUP while the port's flag is clear, and at no other time (R163, R173). -/
theorem State.takes_structural (s : State) (p : Port) {row : RequestRow} (hs : row.setup = .untilComplete)
    (hr : row.run = .wrongMode) : s.takes p row = true ↔ s.mode = .setup ∧ (s.port p).setupComplete = false := by
  unfold State.takes
  cases s.mode <;> simp [hs, hr, columnTakes]

end Machine
end Sys2Proof
end

section
/-! PROOFS. The Probe Scan Unit (chapter 1): where a round goes on, and what an outcome does to its channel and to the table. -/

namespace Sys2Proof.Machine

set_option Elab.async false

/-! ### A state told by its frame -/

/-- One state with the listed fields of another. -/
def State.merge (fs : List Field) (s t : State) : State where
  clock := if Field.clock ∈ fs then t.clock else s.clock
  interval := if Field.interval ∈ fs then t.interval else s.interval
  phase := if Field.phase ∈ fs then t.phase else s.phase
  exposureDue := if Field.exposureDue ∈ fs then t.exposureDue else s.exposureDue
  mode := if Field.mode ∈ fs then t.mode else s.mode
  channels := if Field.channels ∈ fs then t.channels else s.channels
  round := if Field.round ∈ fs then t.round else s.round
  rooms := if Field.rooms ∈ fs then t.rooms else s.rooms
  lines := if Field.lines ∈ fs then t.lines else s.lines
  doors := if Field.doors ∈ fs then t.doors else s.doors
  defrosts := if Field.defrosts ∈ fs then t.defrosts else s.defrosts
  heaterCapacity := if Field.heaterCapacity ∈ fs then t.heaterCapacity else s.heaterCapacity
  remainingCapacity := if Field.remainingCapacity ∈ fs then t.remainingCapacity else s.remainingCapacity
  defrostQueue := if Field.defrostQueue ∈ fs then t.defrostQueue else s.defrostQueue
  classes := if Field.classes ∈ fs then t.classes else s.classes
  pallets := if Field.pallets ∈ fs then t.pallets else s.pallets
  moves := if Field.moves ∈ fs then t.moves else s.moves
  permitLimit := if Field.permitLimit ∈ fs then t.permitLimit else s.permitLimit
  transitLimit := if Field.transitLimit ∈ fs then t.transitLimit else s.transitLimit
  journal := if Field.journal ∈ fs then t.journal else s.journal
  alarms := if Field.alarms ∈ fs then t.alarms else s.alarms
  attn := if Field.attn ∈ fs then t.attn else s.attn
  ports := if Field.ports ∈ fs then t.ports else s.ports
  pending := if Field.pending ∈ fs then t.pending else s.pending

/-- A state that agrees with another outside a list of fields is that other with its own listed fields. -/
theorem State.eq_merge {fs : List Field} {s t : State} (h : s.frame fs t) : t = s.merge fs t := by
  cases t
  simp only [State.merge, State.mk.injEq]
  refine ⟨?_, ?_, ?_, ?_, ?_, ?_, ?_, ?_, ?_, ?_, ?_, ?_, ?_, ?_, ?_, ?_, ?_, ?_, ?_, ?_, ?_, ?_, ?_, ?_⟩
  · exact (ite_eq_left_iff.mpr fun hf => (State.frame_clock h hf).symm).symm
  · exact (ite_eq_left_iff.mpr fun hf => (State.frame_interval h hf).symm).symm
  · exact (ite_eq_left_iff.mpr fun hf => (State.frame_phase h hf).symm).symm
  · exact (ite_eq_left_iff.mpr fun hf => (State.frame_exposureDue h hf).symm).symm
  · exact (ite_eq_left_iff.mpr fun hf => (State.frame_mode h hf).symm).symm
  · exact (ite_eq_left_iff.mpr fun hf => (State.frame_channels h hf).symm).symm
  · exact (ite_eq_left_iff.mpr fun hf => (State.frame_round h hf).symm).symm
  · exact (ite_eq_left_iff.mpr fun hf => (State.frame_rooms h hf).symm).symm
  · exact (ite_eq_left_iff.mpr fun hf => (State.frame_lines h hf).symm).symm
  · exact (ite_eq_left_iff.mpr fun hf => (State.frame_doors h hf).symm).symm
  · exact (ite_eq_left_iff.mpr fun hf => (State.frame_defrosts h hf).symm).symm
  · exact (ite_eq_left_iff.mpr fun hf => (State.frame_heaterCapacity h hf).symm).symm
  · exact (ite_eq_left_iff.mpr fun hf => (State.frame_remainingCapacity h hf).symm).symm
  · exact (ite_eq_left_iff.mpr fun hf => (State.frame_defrostQueue h hf).symm).symm
  · exact (ite_eq_left_iff.mpr fun hf => (State.frame_classes h hf).symm).symm
  · exact (ite_eq_left_iff.mpr fun hf => (State.frame_pallets h hf).symm).symm
  · exact (ite_eq_left_iff.mpr fun hf => (State.frame_moves h hf).symm).symm
  · exact (ite_eq_left_iff.mpr fun hf => (State.frame_permitLimit h hf).symm).symm
  · exact (ite_eq_left_iff.mpr fun hf => (State.frame_transitLimit h hf).symm).symm
  · exact (ite_eq_left_iff.mpr fun hf => (State.frame_journal h hf).symm).symm
  · exact (ite_eq_left_iff.mpr fun hf => (State.frame_alarms h hf).symm).symm
  · exact (ite_eq_left_iff.mpr fun hf => (State.frame_attn h hf).symm).symm
  · exact (ite_eq_left_iff.mpr fun hf => (State.frame_ports h hf).symm).symm
  · exact (ite_eq_left_iff.mpr fun hf => (State.frame_pending h hf).symm).symm

/-! ### The round (R11, R12) -/

theorem commandByte_eq : ∀ c : Fin 32, commandByte c = BitVec.ofNat 8 (128 + c.val) := by decide

theorem State.nextChannel_eq_none {s : State} {start : Nat} :
    s.nextChannel start = none ↔ ∀ i : Fin 32, start ≤ i.val → (s.channel i).role = .unused := by
  simp [State.nextChannel, lowest_eq_none]

theorem State.nextChannel_eq_some {s : State} {start : Nat} {n : Fin 32} :
    s.nextChannel start = some n ↔ (start ≤ n.val ∧ (s.channel n).role ≠ .unused)
      ∧ ∀ i : Fin 32, i < n → start ≤ i.val → (s.channel i).role = .unused := by
  simp [State.nextChannel, lowest_eq_some]

/-- The round is over where no channel from its place on is in use (R11). -/
theorem continueRound_ended {s : State} {start : Nat}
    (h : ∀ i : Fin 32, start ≤ i.val → (s.channel i).role = .unused) : (continueRound start s).round = .ended := by
  rw [continueRound, State.nextChannel_eq_none.mpr h]

/-- The round goes on with the lowest channel in use from its place on (R11, R12). -/
theorem continueRound_converting {s : State} {start : Nat} {n : Fin 32} (hn : start ≤ n.val)
    (hused : (s.channel n).role ≠ .unused)
    (h : ∀ i : Fin 32, i < n → start ≤ i.val → (s.channel i).role = .unused) :
    (continueRound start s).round = .converting ⟨n, BitVec.ofNat 8 (128 + n.val), false⟩ := by
  rw [continueRound, State.nextChannel_eq_some.mpr ⟨⟨hn, hused⟩, h⟩, ← commandByte_eq]

@[simp] theorem continueRound_alarms (start : Nat) (s : State) : (continueRound start s).alarms = s.alarms :=
  State.frame_alarms (continueRound_frame start s) (by decide)

@[simp] theorem continueRound_attn (start : Nat) (s : State) : (continueRound start s).attn = s.attn :=
  State.frame_attn (continueRound_frame start s) (by decide)

@[simp] theorem continueRound_channel (start : Nat) (s : State) (c : Fin 32) :
    (continueRound start s).channel c = s.channel c :=
  State.frame_channel (continueRound_frame start s) (by decide) c

/-! ### Roles and outcomes -/

theorem raiseProbeFault_channel_role (c i : Fin 32) (s : State) :
    ((raiseProbeFault c s).channel i).role = (s.channel i).role := by
  rw [raiseProbeFault, State.raiseCondition_eq]
  split
  · rfl
  · by_cases h : i = c
    · subst h; simp [State.modifyChannel]
    · simp [State.modifyChannel, h]

theorem classifyGood_channel_role (c i : Fin 32) (code : BitVec 12) (s : State) :
    ((classifyGood c code s).channel i).role = (s.channel i).role := by
  have good : ((s.setChannel c ((s.channel c).good code)).channel i).role = (s.channel i).role := by
    by_cases h : i = c
    · subst h; simp [Channel.good]
    · simp [h]
  unfold classifyGood
  dsimp only
  split
  · exact good
  · rw [State.returnCondition_eq, State.setAlarms_channel]
    by_cases h : i = c
    · subst h; simp [State.modifyChannel, Channel.good]
    · simp [State.modifyChannel, h]

theorem classifyFailure_channel_role (c i : Fin 32) (cls : ChannelState) (code : Option (BitVec 12)) (s : State) :
    ((classifyFailure c cls code s).channel i).role = (s.channel i).role := by
  have failed : ((s.setChannel c ((s.channel c).failed cls code)).channel i).role = (s.channel i).role := by
    by_cases h : i = c
    · subst h; simp [Channel.failed]
    · simp [h]
  unfold classifyFailure
  dsimp only
  split
  · exact failed
  · rw [raiseProbeFault_channel_role, failed]

theorem classifyCode_channel_role (c i : Fin 32) (code : BitVec 12) (s : State) :
    ((classifyCode c code s).channel i).role = (s.channel i).role := by
  unfold classifyCode
  split
  · exact classifyFailure_channel_role c i _ _ s
  · split
    · exact classifyFailure_channel_role c i _ _ s
    · exact classifyGood_channel_role c i code s

/-- What O36 says of a transaction's end, for any outcome that leaves the roles. -/
theorem continueRound_after {s u : State} {c : Fin 32} (hrole : ∀ i, (u.channel i).role = (s.channel i).role) :
    ((∀ i : Fin 32, c < i → (s.channel i).role = .unused) → (continueRound (c + 1) u).round = .ended)
    ∧ ∀ n : Fin 32, c < n → (s.channel n).role ≠ .unused →
        (∀ i : Fin 32, c < i → i < n → (s.channel i).role = .unused) →
        (continueRound (c + 1) u).round = .converting ⟨n, BitVec.ofNat 8 (128 + n.val), false⟩ := by
  refine ⟨fun h => continueRound_ended fun i hi => ?_, fun n hn hused h => continueRound_converting hn ?_ fun i hi hs => ?_⟩
  · rw [hrole]; exact h i hi
  · rw [hrole]; exact hused
  · rw [hrole]; exact h i hs hi

/-- A discarded outcome changes the round alone (R8). -/
theorem continueRound_eq (start : Nat) (s : State) :
    continueRound start s = { s with round := (continueRound start s).round } := by
  unfold continueRound
  split <;> rfl

/-- Settles O36: both ways a transaction ends are the round going on after an outcome that keeps every role. -/
theorem roundGoesToTheNextChannel : Obligations.RoundGoesToTheNextChannel := by
  intro x c s hround hc
  suffices key : ∀ u : State, (∀ i, (u.channel i).role = (s.channel i).role) → (x.discarded = true → u = s) →
      exec c s = .next (continueRound (x.channel + 1) u) →
      ∃ t, exec c s = .next t
      ∧ (x.discarded = true → t = { s with round := t.round })
      ∧ ((∀ i : Fin 32, x.channel < i → (s.channel i).role = .unused) → t.round = .ended)
      ∧ ∀ n : Fin 32, x.channel < n → (s.channel n).role ≠ .unused →
          (∀ i : Fin 32, x.channel < i → i < n → (s.channel i).role = .unused) →
          t.round = .converting ⟨n, BitVec.ofNat 8 (128 + n.val), false⟩ by
    obtain rfl | ⟨bits, rfl⟩ := hc
    · refine key (if x.discarded then s else classifyFailure x.channel .noReply none s) (fun i => ?_) (fun h => if_pos h) ?_
      · split
        · rfl
        · exact classifyFailure_channel_role _ i _ _ s
      · simp only [exec, execConverterReplyLimitExpiry, expireReplyLimit, hround]
    · refine key (if x.discarded then s else classifyCode x.channel (bits.extractLsb' 0 12) s) (fun i => ?_)
        (fun h => if_pos h) ?_
      · split
        · rfl
        · exact classifyCode_channel_role _ i _ s
      · simp only [exec, execConverterTransactionComplete, completeTransaction, hround]
  intro u hrole hdisc hexec
  refine ⟨_, hexec, fun h => ?_, continueRound_after hrole⟩
  rw [hdisc h]
  exact continueRound_eq _ s

/-! ### A good code (R13, R14, R16) -/

theorem classifyGood_channel (c : Fin 32) (code : BitVec 12) (s : State) :
    (classifyGood c code s).channel c
      = { (s.channel c).good code with
          unposted := (s.channel c).unposted && decide ((s.channel c).state = .ok) } := by
  unfold classifyGood
  dsimp only
  split
  · next h => simp [h, Channel.good]
  · next h => simp [State.returnCondition_eq, State.modifyChannel, h]

theorem classifyGood_channel_ne {c i : Fin 32} (hi : i ≠ c) (code : BitVec 12) (s : State) :
    (classifyGood c code s).channel i = s.channel i := by
  unfold classifyGood
  dsimp only
  split
  · simp [hi]
  · simp [State.returnCondition_eq, State.modifyChannel, hi]

theorem classifyCode_good {c : Fin 32} {code : BitVec 12} (h0 : code ≠ 0) (h1 : code ≠ 4095) (s : State) :
    classifyCode c code s = classifyGood c code s := by
  rw [classifyCode, if_neg h1, if_neg h0]

theorem clampTemp_eq (t : Temperature) : clampTemp t = max (-960) (min t 960) := rfl

theorem codeTemp_eq (code : BitVec 12) (gain : Nat) (offset : Temperature) :
    codeTemp code gain offset
      = max (-960) (min (offset + Int.fdiv (((code.toNat : Int) - 2048) * gain) 1024) 960) := by
  rw [codeTemp, clampTemp_eq, Int.fdiv_eq_ediv_of_nonneg _ (by decide)]

/-- Settles O34, by the two branches of a good outcome: a channel that was OK, and one that was failing. -/
theorem goodCodeIsConverted : Obligations.GoodCodeIsConverted := by
  intro bits x s hround hdisc h0 h1
  have hexec : exec (.converterTransactionComplete bits) s
      = .next (continueRound (x.channel + 1) (classifyGood x.channel (bits.extractLsb' 0 12) s)) := by
    simp only [exec, execConverterTransactionComplete, completeTransaction, hround, hdisc, classifyCode_good h0 h1]
    rfl
  have hframe : s.frame [.round, .channels, .alarms, .attn]
      (continueRound (x.channel + 1) (classifyGood x.channel (bits.extractLsb' 0 12) s)) :=
    State.frame_trans (State.frame_mono (classifyGood_frame _ _ s) (by decide))
      (State.frame_mono (continueRound_frame _ _) (by decide))
  refine ⟨_, hexec, ?_, fun c hc => ?_, State.eq_merge hframe, fun hok => ?_, fun hbad => ?_⟩
  · rw [continueRound_channel, classifyGood_channel, ← codeTemp_eq]
    rfl
  · rw [continueRound_channel, classifyGood_channel_ne hc]
  · simp [classifyGood, hok]
  · simp [classifyGood, hbad, State.returnCondition_eq, State.modifyChannel, State.attentionKept]

/-! ### A failed conversion (R13, R16) -/

theorem raiseProbeFault_eq (c : Fin 32) (s : State) :
    raiseProbeFault c s
      = (s.setChannel c { s.channel c with
          unposted := (s.channel c).unposted
            || !(s.alarms.raise s.clock false .probeFault (.probe c) none (detailNat (s.channel c).state.place)).2 }).setAlarms
          (s.alarms.raise s.clock false .probeFault (.probe c) none (detailNat (s.channel c).state.place)).1 := by
  rw [raiseProbeFault, State.raiseCondition_eq]
  split
  · next h =>
    simp only [h, Bool.not_true, Bool.or_false]
    exact congrArg (State.setAlarms · _) (State.setChannel_own s c).symm
  · next h => simp [h, State.modifyChannel, State.setChannel_setAlarms]

theorem classifyFailure_channel_ne {c i : Fin 32} (hi : i ≠ c) (cls : ChannelState) (code : Option (BitVec 12)) (s : State) :
    (classifyFailure c cls code s).channel i = s.channel i := by
  unfold classifyFailure
  dsimp only
  split
  · simp [hi]
  · simp [raiseProbeFault_eq, hi]

/-- The record a failing outcome leaves, but for the unposted mark (R13). -/
theorem classifyFailure_channel (c : Fin 32) (cls : ChannelState) (code : Option (BitVec 12)) (s : State) :
    { (classifyFailure c cls code s).channel c with unposted := false }
      = { (s.channel c).failed cls code with unposted := false } := by
  unfold classifyFailure
  dsimp only
  split
  · simp
  · simp [raiseProbeFault_eq]

/-- A failing outcome that leaves the state raises nothing (R16). -/
theorem classifyFailure_same {c : Fin 32} {cls : ChannelState} {code : Option (BitVec 12)} {s : State}
    (h : ((s.channel c).failed cls code).state = (s.channel c).state) :
    classifyFailure c cls code s = s.setChannel c ((s.channel c).failed cls code) := by
  simp [classifyFailure, h]

/-- A failing outcome that moves the state raises PROBE_FAULT with the class as detail (R13, R16). -/
theorem classifyFailure_moves {c : Fin 32} {cls : ChannelState} {code : Option (BitVec 12)} {s : State}
    (h : ((s.channel c).failed cls code).state ≠ (s.channel c).state) :
    classifyFailure c cls code s = raiseProbeFault c (s.setChannel c ((s.channel c).failed cls code))
      ∧ ((s.channel c).failed cls code).state = cls := by
  refine ⟨by simp [classifyFailure, h], ?_⟩
  unfold Channel.failed at h ⊢
  dsimp only at h ⊢
  split at h
  · next h3 => rw [if_pos h3]
  · exact absurd rfl h

/-- What a failing outcome does to its channel and the table, for any class and code (R13, R16). -/
theorem classifyFailure_spec (c : Fin 32) (cls : ChannelState) (code : Option (BitVec 12)) (s : State) :
    let t := classifyFailure c cls code s
    ((t.channel c).state = (s.channel c).state →
      t.alarms = s.alarms ∧ (t.channel c).unposted = (s.channel c).unposted)
    ∧ ((t.channel c).state ≠ (s.channel c).state →
      let raised := s.alarms.raise s.clock false .probeFault (.probe c) none (some (BitVec.ofNat 16 cls.place))
      t.alarms = raised.1 ∧ t.attentionKept ∧ (t.channel c).unposted = ((s.channel c).unposted || !raised.2)) := by
  intro t
  have hstate : (t.channel c).state = ((s.channel c).failed cls code).state := by
    have := congrArg Channel.state (classifyFailure_channel c cls code s)
    exact this
  have hmark : ((s.channel c).failed cls code).unposted = (s.channel c).unposted := rfl
  rw [hstate]
  refine ⟨fun h => ?_, fun h => ?_⟩
  · rw [show t = _ from classifyFailure_same h]
    simp [Channel.failed]
  · obtain ⟨hmoves, hcls⟩ := classifyFailure_moves h
    have hdetail : detailNat cls.place = some (BitVec.ofNat 16 cls.place) := rfl
    rw [show t = _ from hmoves, raiseProbeFault_eq]
    simp [hcls, hdetail, State.attentionKept, hmark]

/-- Settles O35: its three causes are one failing outcome with a class and an optional code. -/
theorem failedConversionCounts : Obligations.FailedConversionCounts := by
  intro bits x s hround hdisc cls c code hcause
  obtain ⟨read, hexec, hcode⟩ : ∃ read : Option (BitVec 12),
      exec c s = .next (continueRound (x.channel + 1) (classifyFailure x.channel cls read s))
        ∧ read.or (s.channel x.channel).lastCode = code := by
    obtain ⟨rfl, rfl, hbits, rfl⟩ | ⟨rfl, rfl, hbits, rfl⟩ | ⟨rfl, rfl, rfl⟩ := hcause
    · exact ⟨some 4095, by simp [exec, execConverterTransactionComplete, completeTransaction, hround, hdisc, hbits, classifyCode], rfl⟩
    · exact ⟨some 0, by simp [exec, execConverterTransactionComplete, completeTransaction, hround, hdisc, hbits, classifyCode], rfl⟩
    · exact ⟨none, by simp [exec, execConverterReplyLimitExpiry, expireReplyLimit, hround, hdisc], rfl⟩
  have hframe : s.frame [.round, .channels, .alarms, .attn]
      (continueRound (x.channel + 1) (classifyFailure x.channel cls read s)) :=
    State.frame_trans (State.frame_mono (classifyFailure_frame _ _ _ s) (by decide))
      (State.frame_mono (continueRound_frame _ _) (by decide))
  obtain ⟨hsame, hmoves⟩ := classifyFailure_spec x.channel cls read s
  refine ⟨_, hexec, ?_, fun i hi => ?_, ?_, ?_, State.eq_merge hframe⟩
  · rw [continueRound_channel, classifyFailure_channel, ← hcode]
    have h3 : min ((s.channel x.channel).suspect + 1) 3 = 3 ↔ 2 ≤ (s.channel x.channel).suspect := by omega
    simp only [Channel.failed, h3]
  · rw [continueRound_channel, classifyFailure_channel_ne hi]
  · simpa only [continueRound_channel, continueRound_alarms] using hsame
  · simpa only [continueRound_channel, continueRound_alarms, continueRound_attn, State.attentionKept] using hmoves

end Sys2Proof.Machine
end

section
/-! PROOFS. The start of a round at a second tick (R11). -/

namespace Sys2Proof.Machine

set_option Elab.async false

/-! ### The steps of a second tick (R1 to R4) -/

/-- The second tick up to its retries: the clock, the timers, the phase and the round (R1 to R4, R11). -/
def beforeRetries (s : State) : State := startRound (advancePhase (tickTimers { s with clock := s.clock + 1 }))

theorem tickSecond_eq (order : List RetryBlock) (s : State) :
    tickSecond order s = retryAll order (beforeRetries (settleTimers s)) := rfl

theorem advancePhase_frame (s : State) : s.frame [.phase, .exposureDue] (advancePhase s) := by
  unfold advancePhase
  split
  · exact State.frame_refl _ s
  · split <;> rfl

theorem tickTimers_frame (s : State) : s.frame [.rooms, .doors, .defrosts, .moves] (tickTimers s) := rfl

/-- The fields the clock, the timers and the phase take at a second tick. -/
theorem counted_frame (s : State) :
    s.frame [.clock, .phase, .exposureDue, .rooms, .doors, .defrosts, .moves]
      (advancePhase (tickTimers { s with clock := s.clock + 1 })) :=
  State.frame_trans (t := tickTimers { s with clock := s.clock + 1 }) rfl
    (State.frame_mono (advancePhase_frame _) (by decide))

theorem beforeRetries_frame (s : State) :
    s.frame [.clock, .phase, .exposureDue, .rooms, .doors, .defrosts, .moves, .round] (beforeRetries s) :=
  State.frame_trans (State.frame_mono (counted_frame s) (by decide)) (State.frame_mono (startRound_frame _) (by decide))

/-- The round a second tick leaves, from the round and the channels it finds (R11). -/
theorem tickSecond_round (order : List RetryBlock) (s : State) :
    (tickSecond order s).round = (startRound s).round := by
  have hsettled := State.frame_mono (gs := .clock :: .phase :: .exposureDue :: expiryFields) (settleTimers_frame s)
    (by decide)
  have hkeep := State.frame_trans hsettled (State.frame_mono (counted_frame (settleTimers s)) (by decide))
  rw [tickSecond_eq, State.frame_round (retryAll_frame order _) (by decide), beforeRetries]
  unfold startRound
  rw [State.frame_round hkeep (by decide)]
  unfold continueRound State.nextChannel State.channel
  rw [State.frame_channels hkeep (by decide)]
  split
  · split <;> rfl
  · exact State.frame_round hkeep (by decide)
  · exact State.frame_round hkeep (by decide)

/-- Settles O27: the round a second tick leaves is the one it starts from the channels it finds. -/
theorem secondTickStartsTheRound : Obligations.SecondTickStartsTheRound := by
  intro order s
  have hidle : s.round = .idle → startRound s = continueRound 0 s := fun h => by simp [startRound, h]
  refine ⟨tickSecond order s, rfl, fun h => ?_, fun h hunused => ?_, fun h c hused hlow => ?_⟩
  · rw [tickSecond_round]
    unfold startRound
    split
    · next h' => exact absurd h' h
    · rfl
    · rfl
  · rw [tickSecond_round, hidle h]
    exact continueRound_ended fun i _ => hunused i
  · rw [tickSecond_round, hidle h]
    exact continueRound_converting (Nat.zero_le _) hused fun i hi _ => hlow i hi

end Sys2Proof.Machine
end

section
/-! PROOFS. The tunables (R9, R43, R87, R115) and the structural requests of SETUP (R8, R18, R39, R42, R71, R94). -/

namespace Sys2Proof.Machine

set_option Elab.async false

/-! ### Forcing into a range -/

theorem forceNat_eq (low high v : Nat) : forceNat low high v = max low (min v high) := rfl

theorem forceNat_zero (high v : Nat) : forceNat 0 high v = min v high := Nat.zero_max _

theorem forceNat_ne {low high v : Nat} (h : low ≤ high) : forceNat low high v ≠ v ↔ v < low ∨ high < v := by
  unfold forceNat
  omega

theorem forceInt_ne {low high v : Int} (h : low ≤ high) : forceInt low high v ≠ v ↔ v < low ∨ high < v := by
  unfold forceInt
  omega

theorem clampTemp_ne (t : Int) : clampTemp t ≠ t ↔ t < -960 ∨ 960 < t := forceInt_ne (by decide)

/-- The answer of a request with tunables, from a statement of when one was forced. -/
theorem doneClamped_eq {forced : Bool} {P : Prop} [Decidable P] (h : forced = true ↔ P) (s : State) :
    doneClamped forced s = ⟨s, if P then .clamped else .ok, []⟩ := by
  simp only [doneClamped, h]

theorem word_eq_zero_iff (w : Word16) : w = 0 ↔ w.toNat < 1 := by
  rw [← BitVec.toNat_inj]
  simp

/-! ### Requests of one owner, performed -/

theorem onRoom_ofNat (r : Fin 8) (s : State) (k : Fin 8 → Answer) : onRoom (BitVec.ofNat 8 r) s k = k r := by
  rw [onRoom, index?_ofNat (by decide)]

theorem onRoom_of_le {b : Byte} (h : 8 ≤ b.toNat) (s : State) (k : Fin 8 → Answer) :
    onRoom b s k = refuse .badArgument s := by
  rw [onRoom, index?_of_le h]

theorem onDoor_ofNat (d : Fin 24) (s : State) (k : Fin 24 → Answer) : onDoor (BitVec.ofNat 8 d) s k = k d := by
  rw [onDoor, index?_ofNat (by decide)]

theorem onDoor_of_le {b : Byte} (h : 24 ≤ b.toNat) (s : State) (k : Fin 24 → Answer) :
    onDoor b s k = refuse .badArgument s := by
  rw [onDoor, index?_of_le h]

theorem setDoorTimes_eq (d : Fin 24) (sl bg rt : Word16) (s : State) :
    setDoorTimes (BitVec.ofNat 8 d) sl bg rt s
      = ⟨s.setDoor d
          { s.door d with
            sealLimit := max 1 (min sl.toNat 120), breachGrace := min bg.toNat 300, releaseTime := max 1 (min rt.toNat 120) },
          if sl = 0 ∨ 120 < sl.toNat ∨ 300 < bg.toNat ∨ rt = 0 ∨ 120 < rt.toNat then .clamped else .ok, []⟩ := by
  rw [setDoorTimes, onDoor_ofNat]
  refine (doneClamped_eq (P := sl = 0 ∨ 120 < sl.toNat ∨ 300 < bg.toNat ∨ rt = 0 ∨ 120 < rt.toNat) ?_ _).trans ?_
  · simp only [Bool.or_eq_true, bne_iff_ne, forceNat_ne, show (1 : Nat) ≤ 120 by decide, Nat.zero_le, word_eq_zero_iff]
    omega
  · rw [forceNat_zero]; rfl

theorem setProbeCalibration_eq (c : Fin 32) (gain offset : Word16) (s : State) :
    setProbeCalibration (BitVec.ofNat 8 c) gain offset s
      = ⟨s.setChannel c
          { s.channel c with gain := max 1 (min gain.toNat 4095), offset := max (-960) (min offset.toInt 960) },
          if gain = 0 ∨ 4095 < gain.toNat ∨ offset.toInt < -960 ∨ 960 < offset.toInt then .clamped else .ok, []⟩ := by
  simp only [setProbeCalibration, index?_ofNat (show 32 ≤ 256 by decide)]
  refine (doneClamped_eq
    (P := gain = 0 ∨ 4095 < gain.toNat ∨ offset.toInt < -960 ∨ 960 < offset.toInt) ?_ _).trans rfl
  simp only [Bool.or_eq_true, bne_iff_ne, forceNat_ne, show (1 : Nat) ≤ 4095 by decide, clampTemp_ne, word_eq_zero_iff]
  omega

theorem setProbeCalibration_of_le {channel : Byte} (h : 32 ≤ channel.toNat) (gain offset : Word16) (s : State) :
    setProbeCalibration channel gain offset s = refuse .badArgument s := by
  simp only [setProbeCalibration, index?_of_le h]

theorem setDefrostTimes_eq (r : Fin 8) (heating drip recovery terminate hold : Word16) (s : State) :
    setDefrostTimes (BitVec.ofNat 8 r) heating drip recovery terminate hold s
      = ⟨s.setDefrost r
          { s.defrost r with
            heatingLimit := max 60 (min heating.toNat 3600), dripTime := min drip.toNat 900
            recoveryLimit := max 60 (min recovery.toNat 7200)
            terminateTemp := max (-960) (min terminate.toInt 960), grantHold := max 30 (min hold.toNat 900) },
          if heating.toNat < 60 ∨ 3600 < heating.toNat ∨ 900 < drip.toNat ∨ recovery.toNat < 60 ∨ 7200 < recovery.toNat
            ∨ terminate.toInt < -960 ∨ 960 < terminate.toInt ∨ hold.toNat < 30 ∨ 900 < hold.toNat
          then .clamped else .ok, []⟩ := by
  rw [setDefrostTimes, onRoom_ofNat]
  refine (doneClamped_eq (P := heating.toNat < 60 ∨ 3600 < heating.toNat ∨ 900 < drip.toNat ∨ recovery.toNat < 60
    ∨ 7200 < recovery.toNat ∨ terminate.toInt < -960 ∨ 960 < terminate.toInt ∨ hold.toNat < 30 ∨ 900 < hold.toNat) ?_ _).trans ?_
  · simp only [Bool.or_eq_true, bne_iff_ne, forceNat_ne, show (60 : Nat) ≤ 3600 by decide, Nat.zero_le,
      show (60 : Nat) ≤ 7200 by decide, show (30 : Nat) ≤ 900 by decide, clampTemp_ne]
    omega
  · rw [forceNat_zero]; rfl

theorem setMoveTimes_eq (pl tl : Word16) (s : State) :
    setMoveTimes pl tl s
      = ⟨{ s with permitLimit := max 10 (min pl.toNat 600), transitLimit := max 30 (min tl.toNat 1800) },
        if pl.toNat < 10 ∨ 600 < pl.toNat ∨ tl.toNat < 30 ∨ 1800 < tl.toNat then .clamped else .ok, []⟩ := by
  refine (doneClamped_eq (P := pl.toNat < 10 ∨ 600 < pl.toNat ∨ tl.toNat < 30 ∨ 1800 < tl.toNat) ?_ _).trans rfl
  simp only [Bool.or_eq_true, bne_iff_ne, forceNat_ne, show (10 : Nat) ≤ 600 by decide, show (30 : Nat) ≤ 1800 by decide]
  omega

/-- Settles O54: each tunable's request is taken in either mode, and its answer is the equation of its operation. -/
theorem tunablesAreForcedIntoRange : Obligations.TunablesAreForcedIntoRange := by
  intro tag s
  have taken : ∀ {p : Port} {r : Request} {row : RequestRow}, s.ready p → requestRow r.code = some row →
      (row.role = none ∨ row.role = some p) → row.setup = .taken → row.run = .taken →
      ∀ {a : Answer}, perform p r s = a → requestArrives p tag r s = serve p (r.frame tag) a := by
    intro p r row hready hrow hrole hsetup hrun a ha
    rw [requestArrives_performs hready tag hrow hrole (s.takes_always p hsetup hrun), ha]
  refine ⟨fun h sl bg rt => ⟨fun d => ?_, fun door hdoor => ?_⟩, fun h => ⟨fun gain offset => ⟨fun c => ?_, fun c hc => ?_⟩,
    fun heating drip recovery terminate hold => ⟨fun r => ?_, fun room hroom => ?_⟩⟩, fun h pl tl => ?_⟩
  · exact congrArg _ (taken (r := .setDoorTimes (BitVec.ofNat 8 d) sl bg rt) h rfl (.inr rfl) rfl rfl
      (setDoorTimes_eq d sl bg rt s))
  · exact congrArg _ (taken (r := .setDoorTimes door sl bg rt) h rfl (.inr rfl) rfl rfl (onDoor_of_le hdoor s _))
  · exact congrArg _ (taken (r := .setProbeCalibration (BitVec.ofNat 8 c) gain offset) h rfl (.inr rfl) rfl rfl
      (setProbeCalibration_eq c gain offset s))
  · exact congrArg _ (taken (r := .setProbeCalibration c gain offset) h rfl (.inr rfl) rfl rfl
      (setProbeCalibration_of_le hc gain offset s))
  · exact congrArg _ (taken (r := .setDefrostTimes (BitVec.ofNat 8 r) heating drip recovery terminate hold) h rfl (.inr rfl)
      rfl rfl (setDefrostTimes_eq r heating drip recovery terminate hold s))
  · exact congrArg _ (taken (r := .setDefrostTimes room heating drip recovery terminate hold) h rfl (.inr rfl) rfl rfl
      (onRoom_of_le hroom s _))
  · exact congrArg _ (taken (r := .setMoveTimes pl tl) h rfl (.inr rfl) rfl rfl (setMoveTimes_eq pl tl s))

end Sys2Proof.Machine
end

section
/-! PROOFS. The structural requests of SETUP (R8, R18, R39, R42, R71, R94): checked, then stored together. -/

namespace Sys2Proof.Machine

set_option Elab.async false

/-! ### Doors and lines -/

theorem configureDoor_eq (d : Fin 24) (enabled : Bool) (r : Fin 8) (wp bp wf bf : Word16) (s : State) :
    configureDoor (BitVec.ofNat 8 d) (BitVec.ofNat 8 enabled.toNat) (BitVec.ofNat 8 r) wp bp wf bf s
      = ⟨s.setDoor d
          { s.door d with
            enabled := enabled, dockRoom := r
            workPenalty := max 0 (min wp.toInt 960), breachPenalty := max 0 (min bp.toInt 960)
            workFrost := min wf.toNat 4095, breachFrost := min bf.toNat 4095 },
          if wp.toInt < 0 ∨ 960 < wp.toInt ∨ bp.toInt < 0 ∨ 960 < bp.toInt ∨ 4095 < wf.toNat ∨ 4095 < bf.toNat
            then .clamped else .ok, []⟩ := by
  rw [configureDoor, onDoor_ofNat, flag?_ofNat, index?_ofNat (by decide)]
  refine (doneClamped_eq (P := wp.toInt < 0 ∨ 960 < wp.toInt ∨ bp.toInt < 0 ∨ 960 < bp.toInt ∨ 4095 < wf.toNat
    ∨ 4095 < bf.toNat) ?_ _).trans ?_
  · simp only [Bool.or_eq_true, bne_iff_ne, forceNat_ne, forceInt_ne, show (0 : Int) ≤ 960 by decide, Nat.zero_le]
    omega
  · rw [forceNat_zero, forceNat_zero]; rfl

theorem configureDoor_refused {door enabled room : Byte} (h : 24 ≤ door.toNat ∨ 2 ≤ enabled.toNat ∨ 8 ≤ room.toNat)
    (wp bp wf bf : Word16) (s : State) : configureDoor door enabled room wp bp wf bf s = refuse .badArgument s := by
  unfold configureDoor onDoor
  split
  · next hd =>
    split
    · next he hr =>
      obtain h | h | h := h
      · rw [index?_of_le h] at hd; cases hd
      · rw [flag?_of_le h] at he; cases he
      · rw [index?_of_le h] at hr; cases hr
    · rfl
  · rfl

theorem setDoorLines_refused {tp pc sm sb pr : Byte}
    (h : 2 ≤ tp.toNat ∨ 2 ≤ pc.toNat ∨ 2 ≤ sm.toNat ∨ 2 ≤ sb.toNat ∨ 2 ≤ pr.toNat) (debounce : Byte) (s : State) :
    setDoorLines tp pc sm sb pr debounce s = refuse .badArgument s := by
  unfold setDoorLines
  split
  · next h1 h2 h3 h4 h5 =>
    obtain h | h | h | h | h := h
    · rw [flag?_of_le h] at h1; cases h1
    · rw [flag?_of_le h] at h2; cases h2
    · rw [flag?_of_le h] at h3; cases h3
    · rw [flag?_of_le h] at h4; cases h4
    · rw [flag?_of_le h] at h5; cases h5
  · rfl

/-- Every door's record changed by one function (R46). -/
theorem forEach_modifyDoor (f : Door → Door) (s : State) :
    ∃ t : State, forEach 24 (fun d s => s.modifyDoor d f) s = t ∧ t = { s with doors := t.doors }
      ∧ ∀ d : Fin 24, t.door d = (f (s.door d)).driven s.lines := by
  refine ⟨_, rfl, ?_, fun d => ?_⟩
  · exact State.eq_merge (frame_forEach (fs := [.doors]) (fun d s => frame_setDoor (by decide) s d _) s)
  · obtain ⟨s1, ⟨hl, hd⟩, -, hd'⟩ := forEach_at d (fun s t : State => t.lines = s.lines ∧ t.door d = s.door d)
      (fun s => ⟨rfl, rfl⟩) (fun h k => ⟨k.1.trans h.1, k.2.trans h.2⟩)
      (fun j s hj => ⟨rfl, by simp [State.modifyDoor, Ne.symm hj]⟩) s (f := fun d s => s.modifyDoor d f)
    rw [hd']
    simp [State.modifyDoor, hl, hd]

/-- SET DOOR LINES with its polarities given (R39). -/
theorem setDoorLines_eq (tp pc sm sb pr : Bool) (debounce : Byte) (s : State) : ∃ t : State,
    setDoorLines (BitVec.ofNat 8 tp.toNat) (BitVec.ofNat 8 pc.toNat) (BitVec.ofNat 8 sm.toNat)
        (BitVec.ofNat 8 sb.toNat) (BitVec.ofNat 8 pr.toNat) debounce s
      = ⟨t, if debounce.toNat = 0 ∨ 15 < debounce.toNat then .clamped else .ok, []⟩
    ∧ t = { s with lines := ⟨tp, pc, sm, sb, pr, max 1 (min debounce.toNat 15)⟩, doors := t.doors }
    ∧ ∀ d : Fin 24, t.door d = Door.driven
      (if tp = s.lines.tp ∧ pc = s.lines.pc ∧ sm = s.lines.sm then s.door d
        else
          { s.door d with
            tp := { (s.door d).tp with count := 0, changeDue := false }
            pc := { (s.door d).pc with count := 0, changeDue := false }
            sm := { (s.door d).sm with count := 0, changeDue := false } }) t.lines := by
  obtain ⟨t, ht, hframe, hdoor⟩ := forEach_modifyDoor
    (fun x => if tp != s.lines.tp || pc != s.lines.pc || sm != s.lines.sm then
      { x with tp := x.tp.clearCount, pc := x.pc.clearCount, sm := x.sm.clearCount } else x)
    { s with lines := ⟨tp, pc, sm, sb, pr, forceNat 1 15 debounce.toNat⟩ }
  refine ⟨t, ?_, hframe, fun d => ?_⟩
  · simp only [setDoorLines, flag?_ofNat]
    refine (doneClamped_eq (P := debounce.toNat = 0 ∨ 15 < debounce.toNat) ?_ _).trans (congrArg (Answer.mk · _ _) ht)
    simp only [bne_iff_ne, forceNat_ne, show (1 : Nat) ≤ 15 by decide]
    omega
  · have hlines : t.lines = ⟨tp, pc, sm, sb, pr, forceNat 1 15 debounce.toNat⟩ := by rw [hframe]
    rw [hdoor, hlines]
    have hsame : (tp != s.lines.tp || pc != s.lines.pc || sm != s.lines.sm) = true
        ↔ ¬ (tp = s.lines.tp ∧ pc = s.lines.pc ∧ sm = s.lines.sm) := by
      simp only [Bool.or_eq_true, bne_iff_ne]
      tauto
    simp only [hsame, ite_not]
    rfl

/-! ### Rooms, heaters and classes -/

theorem kind?_place (k : RoomKind) : kind? (BitVec.ofNat 8 k.place) = some k := by cases k <;> rfl

theorem kind?_of_le {b : Byte} (h : 2 ≤ b.toNat) : kind? b = none := by
  unfold kind?
  split
  · omega
  · omega
  · rfl

theorem role?_place (r : ChannelRole) : role? (BitVec.ofNat 8 r.place) = some r := by cases r <;> rfl

theorem role?_of_le {b : Byte} (h : 3 ≤ b.toNat) : role? b = none := by
  unfold role?
  split
  · omega
  · omega
  · omega
  · rfl

theorem configureRoom_eq (r : Fin 8) (kind : RoomKind) {load : Byte} (h1 : 1 ≤ load.toNat) (h15 : load.toNat ≤ 15)
    (s : State) :
    configureRoom (BitVec.ofNat 8 r) (BitVec.ofNat 8 kind.place) load s
      = ⟨(s.setRoom r { s.room r with kind := kind }).setDefrost r { s.defrost r with heaterLoad := load.toNat }, .ok, []⟩ := by
  rw [configureRoom, onRoom_ofNat, kind?_place]
  exact if_pos ⟨h1, h15⟩

theorem configureRoom_refused {room kind load : Byte}
    (h : 8 ≤ room.toNat ∨ 2 ≤ kind.toNat ∨ load.toNat = 0 ∨ 16 ≤ load.toNat) (s : State) :
    configureRoom room kind load s = refuse .badArgument s := by
  unfold configureRoom onRoom
  split
  · next hr =>
    split
    · rfl
    · next hk =>
      obtain h | h | h := h
      · rw [index?_of_le h] at hr; cases hr
      · rw [kind?_of_le h] at hk; cases hk
      · exact if_neg (by omega)
  · rfl

theorem setHeaterCapacity_eq (capacity : Byte) (s : State) :
    setHeaterCapacity capacity s = if 1 ≤ capacity.toNat ∧ capacity.toNat ≤ 63
      then ⟨{ s with heaterCapacity := capacity.toNat }, .ok, []⟩ else ⟨s, .badArgument, []⟩ := rfl

theorem configureClass_eq (c : Fin 8) {threshold budget warn : Word16} (hlow : -960 ≤ threshold.toInt)
    (hhigh : threshold.toInt ≤ 960) (hb : budget ≠ 0) (hw : warn ≠ 0) (transit defrost : Word16) (s : State) :
    configureClass (BitVec.ofNat 8 c) threshold budget warn transit defrost s
      = ⟨s.setClass c ⟨threshold.toInt, budget.toNat, warn.toNat, transit.toNat, defrost.toNat⟩, .ok, []⟩ := by
  rw [Ne, word_eq_zero_iff] at hb hw
  simp only [configureClass, index?_ofNat (show 8 ≤ 256 by decide)]
  exact if_pos ⟨hlow, hhigh, by omega, by omega⟩

theorem configureClass_refused {cls : Byte} {threshold budget warn : Word16}
    (h : 8 ≤ cls.toNat ∨ threshold.toInt < -960 ∨ 960 < threshold.toInt ∨ budget = 0 ∨ warn = 0)
    (transit defrost : Word16) (s : State) :
    configureClass cls threshold budget warn transit defrost s = refuse .badArgument s := by
  rw [word_eq_zero_iff, word_eq_zero_iff] at h
  unfold configureClass
  split
  · rfl
  · next hc =>
    obtain h | h := h
    · rw [index?_of_le h] at hc; cases hc
    · refine if_neg fun ⟨hlow, hhigh, hb, hw⟩ => ?_
      have hlow : -960 ≤ threshold.toInt := hlow
      have hhigh : threshold.toInt ≤ 960 := hhigh
      omega

/-! ### Channels (R8) -/

theorem State.hasPlace_eq_false (s : State) (c : Fin 32) {role : ChannelRole} {r : Fin 8}
    (h : role = .room ∧ 4 ≤ s.othersWith c role r ∨ role = .coil ∧ 2 ≤ s.othersWith c role r) :
    s.hasPlace c role r = false := by
  obtain ⟨rfl, h⟩ | ⟨rfl, h⟩ := h
  · exact decide_eq_false (by omega)
  · exact decide_eq_false (by omega)

theorem State.hasPlace_eq_true (s : State) (c : Fin 32) {role : ChannelRole} {r : Fin 8}
    (h : role = .unused ∨ role = .room ∧ s.othersWith c role r < 4 ∨ role = .coil ∧ s.othersWith c role r < 2) :
    s.hasPlace c role r = true := by
  obtain rfl | ⟨rfl, h⟩ | ⟨rfl, h⟩ := h
  · rfl
  · simp [State.hasPlace, h]
  · simp [State.hasPlace, h]

theorem configureProbe_args (c : Fin 32) (role : ChannelRole) (r : Fin 8) (s : State) :
    configureProbe (BitVec.ofNat 8 c) (BitVec.ofNat 8 role.place) (BitVec.ofNat 8 r) s
      = if s.hasPlace c role r then
          if (s.channel c).role = role ∧ (s.channel c).room = r then done s
          else done (({ s with round := s.round.discard c }.setChannel c ((s.channel c).afresh role r)).returnCondition
            .probeFault (.probe c))
        else refuse .badArgument s := by
  simp only [configureProbe, index?_ofNat (show 32 ≤ 256 by decide), index?_ofNat (show 8 ≤ 256 by decide), role?_place]

theorem configureProbe_refused {channel role room : Byte}
    (h : 32 ≤ channel.toNat ∨ 3 ≤ role.toNat ∨ 8 ≤ room.toNat) (s : State) :
    configureProbe channel role room s = refuse .badArgument s := by
  unfold configureProbe
  split
  · next hc hro hr =>
    obtain h | h | h := h
    · rw [index?_of_le h] at hc; cases hc
    · rw [role?_of_le h] at hro; cases hro
    · rw [index?_of_le h] at hr; cases hr
  · rfl

theorem Round.discard_eq (x : Round) (c : Fin 32) :
    x.discard c = match x with
      | .converting t => .converting { t with discarded := t.discarded || decide (t.channel = c) }
      | other => other := by
  cases x with
  | idle => rfl
  | ended => rfl
  | converting t =>
    unfold Round.discard
    dsimp only
    split
    · next h => simp [h]
    · next h => simp [h]

/-- Settles O52: in SETUP, until the port's flag is set, each structural request is performed, and its answer is the equation of
its operation. -/
theorem structuralRequestsStoreTheirValues : Obligations.StructuralRequestsStoreTheirValues := by
  intro tag s hmode
  have taken : ∀ {p : Port} {r : Request} {row : RequestRow}, s.ready p → (s.port p).setupComplete = false →
      requestRow r.code = some row → row.role = some p → row.setup = .untilComplete → row.run = .wrongMode →
      ∀ {a : Answer}, perform p r s = a → requestArrives p tag r s = serve p (r.frame tag) a := by
    intro p r row hready hflag hrow hrole hsetup hrun a ha
    rw [requestArrives_performs hready tag hrow (.inr hrole) ((s.takes_structural p hsetup hrun).mpr ⟨hmode, hflag⟩), ha]
  refine ⟨fun h hf => ⟨fun d en r wp bp wf bf => ?_, fun door en room wp bp wf bf hbad => ?_,
      fun tp pc sm sb pr debounce hbad => ?_, fun tp pc sm sb pr debounce => ?_⟩,
    fun h hf => ⟨fun r kind load h1 h15 => ?_, fun room kind load hbad => ?_, fun channel role room hbad => ?_,
      fun c role r => ⟨fun hfull => ?_, fun hplace => ⟨fun hsame => ?_, fun hnew => ?_⟩⟩, fun capacity => ?_⟩,
    fun h hf cls threshold budget warn transit defrost => ⟨fun hbad => ?_, fun c hc hlow hhigh hb hw => ?_⟩⟩
  · exact congrArg _ (taken (r := .configureDoor _ _ _ wp bp wf bf) h hf rfl rfl rfl rfl
      (configureDoor_eq d en r wp bp wf bf s))
  · exact congrArg _ (taken (r := .configureDoor door en room wp bp wf bf) h hf rfl rfl rfl rfl
      (configureDoor_refused hbad wp bp wf bf s))
  · exact congrArg _ (taken (r := .setDoorLines tp pc sm sb pr debounce) h hf rfl rfl rfl rfl
      (setDoorLines_refused hbad debounce s))
  · obtain ⟨t, ht, hrest⟩ := setDoorLines_eq tp pc sm sb pr debounce s
    exact ⟨t, congrArg _ (taken (r := .setDoorLines _ _ _ _ _ debounce) h hf rfl rfl rfl rfl ht), hrest⟩
  · exact congrArg _ (taken (r := .configureRoom _ _ load) h hf rfl rfl rfl rfl (configureRoom_eq r kind h1 h15 s))
  · exact congrArg _ (taken (r := .configureRoom room kind load) h hf rfl rfl rfl rfl (configureRoom_refused hbad s))
  · exact congrArg _ (taken (r := .configureProbe channel role room) h hf rfl rfl rfl rfl (configureProbe_refused hbad s))
  · refine congrArg _ (taken (r := .configureProbe _ _ _) h hf rfl rfl rfl rfl ((configureProbe_args c role r s).trans ?_))
    rw [s.hasPlace_eq_false c hfull]
    rfl
  · refine congrArg _ (taken (r := .configureProbe _ _ _) h hf rfl rfl rfl rfl ((configureProbe_args c role r s).trans ?_))
    rw [s.hasPlace_eq_true c hplace, if_pos rfl, if_pos hsame]
    rfl
  · refine congrArg _ (taken (r := .configureProbe _ _ _) h hf rfl rfl rfl rfl ((configureProbe_args c role r s).trans ?_))
    rw [s.hasPlace_eq_true c hplace, if_pos rfl, if_neg hnew, Round.discard_eq]
    rfl
  · exact congrArg _ (taken (r := .setHeaterCapacity capacity) h hf rfl rfl rfl rfl (setHeaterCapacity_eq capacity s))
  · exact congrArg _ (taken (r := .configureClass cls threshold budget warn transit defrost) h hf rfl rfl rfl rfl
      (configureClass_refused hbad transit defrost s))
  · subst hc
    exact congrArg _ (taken (r := .configureClass _ threshold budget warn transit defrost) h hf rfl rfl rfl rfl
      (configureClass_eq c hlow hhigh hb hw transit defrost s))

end Sys2Proof.Machine
end

section
/-! PROOFS. The reads of the clock, a room, a probe, a pallet and the status (R6, R10, R33, R100, R171). -/

namespace Sys2Proof.Machine

set_option Elab.async false

/-! ### Pallets found by their tag (R98, R100) -/

theorem State.findPallet_of_live {s : State} (h : s.tagsKept) {q : Fin 256} (hq : (s.pallet q).live = true) :
    s.findPallet (s.pallet q).tag = some q := by
  cases hf : s.findPallet (s.pallet q).tag with
  | none =>
    have := lowest_eq_none.mp hf q
    simp [hq] at this
  | some i =>
    have hi := (lowest_eq_some.mp hf).1
    simp only [Bool.and_eq_true, beq_iff_eq] at hi
    rw [h.2 i q hi.1 hq hi.2]

theorem State.findPallet_eq_none {s : State} {tag : Word32}
    (h : ∀ q : Fin 256, (s.pallet q).live = true → (s.pallet q).tag ≠ tag) : s.findPallet tag = none := by
  refine lowest_eq_none.mpr fun q => ?_
  rw [Bool.and_eq_false_iff, beq_eq_false_iff_ne]
  cases hq : (s.pallet q).live with
  | false => exact .inl rfl
  | true => exact .inr (h q hq)

theorem readPallet_of_live {s : State} (h : s.tagsKept) {q : Fin 256} (hq : (s.pallet q).live = true) :
    readPallet (s.pallet q).tag s = ⟨s, .ok, palletValues q s⟩ := by
  rw [readPallet, if_neg (h.1 q hq), State.findPallet_of_live h hq]

theorem readPallet_unknown {s : State} {tag : Word32}
    (h : ∀ q : Fin 256, (s.pallet q).live = true → (s.pallet q).tag ≠ tag) :
    readPallet tag s = ⟨s, if tag = 0 then .badArgument else .notFound, []⟩ := by
  rw [readPallet, State.findPallet_eq_none h]
  split <;> rfl

/-! ### The bytes of READ STATUS (R171) -/

@[simp] theorem length_value8 (n : Nat) : (value8 n).length = 1 := rfl

@[simp] theorem length_value16 (n : Nat) : (value16 n).length = 2 := rfl

@[simp] theorem length_bytes16 (w : Word16) : (bytes16 w).length = 2 := rfl

@[simp] theorem length_bytes32 (w : Word32) : (bytes32 w).length = 4 := rfl

@[simp] theorem length_valueFlag (b : Bool) : (valueFlag b).length = 1 := rfl

theorem length_filter_add_filter_not {α : Type} (p : α → Bool) (l : List α) :
    (l.filter p ++ l.filter fun x => !p x).length = l.length := by
  induction l with
  | nil => rfl
  | cons x l ih =>
    rw [List.length_append] at ih ⊢
    cases hx : p x
    · simp [hx] at ih ⊢; omega
    · simp [hx] at ih ⊢; omega

/-- Entries of strictly rising classes, none above 2, are at most three less the lowest class (R143, R151). -/
theorem length_le_of_stackRises (t : AlarmTable) (l : List (Fin 48)) (h : t.stackRises l)
    (hu : ∀ i ∈ l, t.urgencyOf i ≤ 2) : ∀ low, (∀ i ∈ l, low ≤ t.urgencyOf i) → l.length ≤ 3 - low := by
  induction l with
  | nil => intro low _; exact Nat.zero_le _
  | cons i l ih =>
    intro low hlow
    obtain ⟨hi, hl⟩ := h
    have hrest := ih hl (fun j hj => hu j (.tail _ hj)) (t.urgencyOf i + 1) fun j hj => hi j hj
    have := hu i (.head _)
    have := hlow i (.head _)
    rw [List.length_cons]
    omega

theorem AlarmCode.urgency_le (c : AlarmCode) : c.urgency ≤ 2 := by cases c <;> decide

/-- A port's stack holds at most three entries (R151). -/
theorem AlarmTable.stack_length_le {t : AlarmTable} (h : t.kept) (p : Port) : (t.ports.get p).stack.length ≤ 3 := by
  obtain ⟨-, -, -, -, hports⟩ := h
  obtain ⟨-, -, hrises, hmem⟩ := hports p
  refine length_le_of_stackRises t _ hrises (fun i hi => ?_) 0 fun _ _ => Nat.zero_le _
  obtain ⟨e, he, -⟩ := (hmem i).mp hi
  rw [AlarmTable.urgencyOf, he]
  exact e.code.urgency_le

theorem statusDefrost_eq (s : State) :
    statusDefrost s = value8 s.heaterCapacity ++ value8 s.remainingCapacity ++ value8 s.defrostQueue.length
      ++ ((s.defrostQueue.filter (fun r => (s.defrost r).forcedMark)
            ++ s.defrostQueue.filter fun r => !(s.defrost r).forcedMark).map fun r =>
          BitVec.ofNat 8 (r.val + (if (s.defrost r).state = .draining then 8 else 0)
            + (if (s.defrost r).forcedMark = true then 16 else 0)))
      ++ List.replicate (8 - s.defrostQueue.length) 255
      ++ ((List.finRange 8).map fun r => value8 (s.defrost r).state.place ++ value16 (s.defrost r).frostIndex
        ++ value8 ((if (s.defrost r).forcedMark = true then 1 else 0) + (if 0 < (s.defrost r).inhibit then 2 else 0)
          + 4 * (s.defrost r).lastTermination.place)).flatten := by
  have hqueue : ∀ r, s.queueByte r = BitVec.ofNat 8 (r.val + (if (s.defrost r).state = .draining then 8 else 0)
      + (if (s.defrost r).forcedMark = true then 16 else 0)) := fun r => by
    unfold State.queueByte
    by_cases hd : (s.defrost r).state = .draining
    · cases hm : (s.defrost r).forcedMark <;> simp [hd]
    · cases hm : (s.defrost r).forcedMark <;> simp [hd]
  have hbytes : ∀ r, s.defrostBytes r = value8 (s.defrost r).state.place ++ value16 (s.defrost r).frostIndex
      ++ value8 ((if (s.defrost r).forcedMark = true then 1 else 0) + (if 0 < (s.defrost r).inhibit then 2 else 0)
        + 4 * (s.defrost r).lastTermination.place) := fun r => by
    unfold State.defrostBytes State.inhibited
    by_cases hi : 0 < (s.defrost r).inhibit
    · cases hm : (s.defrost r).forcedMark <;> simp [hi, hm]
    · cases hm : (s.defrost r).forcedMark <;> simp [hi, hm]
  have hlength : (s.arbiterOrder.map s.queueByte).length = s.defrostQueue.length := by
    rw [List.length_map]
    exact length_filter_add_filter_not _ _
  rw [statusDefrost, padded, hlength, funext hqueue, funext hbytes, ← List.append_assoc]
  rfl

theorem statusRecords_eq (s : State) :
    statusRecords s = value16 (countWhere 256 fun q => (s.pallet q).live)
      ++ value16 (countWhere 256 fun q => (s.pallet q).live && (s.pallet q).warned)
      ++ value16 (countWhere 256 fun q => (s.pallet q).live && (s.pallet q).overBudget)
      ++ value8 (countWhere 32 fun m => decide ((s.move m).state = .permitted))
      ++ value8 (countWhere 32 fun m => decide ((s.move m).state = .inTransit))
      ++ value8 (countWhere 32 fun m => (s.move m).overdueFlag) ++ value16 s.permitLimit ++ value16 s.transitLimit
      ++ value16 s.journal.held ++ bytes32 s.journal.next
      ++ value16 (s.journal.held + (countWhere 256 fun q => (s.pallet q).live) + countWhere 32 fun m => (s.move m).live)
      ++ value16 s.journal.threshold ++ valueFlag s.journal.highFlag := rfl

theorem statusAlarms_eq (p : Port) (s : State) :
    statusAlarms p s = value8 (countWhere 48 fun i => decide (i ≠ 0) && s.alarms.entries[i].isSome)
      ++ (match s.alarms.entries[(0 : Fin 48)] with
        | some e => [1, BitVec.ofNat 8 e.condition.place] ++ bytes16 (e.detail.getD 0)
        | none => [0, 0, 0, 0])
      ++ value8 (s.alarms.ports.get p).floor ++ value8 (s.alarms.ports.get p).stack.length
      ++ ((s.alarms.ports.get p).stack.reverse.map fun i => BitVec.ofNat 8 (s.alarms.urgencyOf i))
      ++ List.replicate (3 - (s.alarms.ports.get p).stack.length) 255
      ++ value8 (countWhere 48 fun i => s.alarms.entries[i].any fun e => decide (e.delivery.get p = .pending))
      ++ value8 (countWhere 48 fun i => s.alarms.presentable p i) := by
  have hpending : ∀ i, s.alarms.pendingFor p i
      = s.alarms.entries[i].any fun e => decide (e.delivery.get p = .pending) := fun i => by
    unfold AlarmTable.pendingFor
    cases s.alarms.entries[i] <;> rfl
  simp only [statusAlarms, padded, List.length_map, List.length_reverse, funext hpending]
  cases s.alarms.entries[(0 : Fin 48)]
  · simp only [← List.append_assoc]
    rfl
  · simp only [← List.append_assoc]
    rfl

/-! ### READ STATUS, part by part -/

theorem readStatus_of_le {part : Byte} (h : 3 ≤ part.toNat) (p : Port) (s : State) :
    readStatus p part s = refuse .badArgument s := by
  unfold readStatus
  split
  · omega
  · omega
  · omega
  · rfl

/-- Settles O48: each read is taken in either mode on any port, and its answer is the equation of its operation. -/
theorem readsReportTheRecords : Obligations.ReadsReportTheRecords := by
  intro p tag s h
  have taken : ∀ {r : Request} {row : RequestRow}, requestRow r.code = some row → row.role = none →
      row.setup = .taken → row.run = .taken →
      ∀ {a : Answer}, perform p r s = a → requestArrives p tag r s = serve p (r.frame tag) a := by
    intro r row hrow hrole hsetup hrun a ha
    rw [requestArrives_performs h tag hrow (.inl hrole) (s.takes_always p hsetup hrun), ha]
  refine ⟨?_, fun r => ?_, fun room hroom => ?_, fun c => ?_, fun channel hc => ?_, fun htags q hq => ?_,
    fun pallet hp => ?_, rfl, rfl, rfl, ⟨?_, fun hlen => ?_⟩, ⟨?_, ?_⟩, ⟨?_, fun hkept => ?_⟩, fun part hpart => ?_⟩
  · exact congrArg _ (taken (r := .readClock) rfl rfl rfl rfl rfl)
  · exact congrArg _ (taken (r := .readRoom _) rfl rfl rfl rfl (onRoom_ofNat r s _))
  · exact congrArg _ (taken (r := .readRoom room) rfl rfl rfl rfl (onRoom_of_le hroom s _))
  · refine congrArg _ (taken (r := .readProbe _) rfl rfl rfl rfl ?_)
    simp only [perform, readProbe, index?_ofNat (show 32 ≤ 256 by decide)]
  · refine congrArg _ (taken (r := .readProbe channel) rfl rfl rfl rfl ?_)
    simp only [perform, readProbe, index?_of_le hc]
    rfl
  · exact congrArg _ (taken (r := .readPallet _) rfl rfl rfl rfl (readPallet_of_live htags hq))
  · exact congrArg _ (taken (r := .readPallet pallet) rfl rfl rfl rfl (readPallet_unknown hp))
  · exact congrArg _ (taken (r := .readStatus 0) rfl rfl rfl rfl (congrArg (Answer.mk s .ok) (statusDefrost_eq s)))
  · have hfilter := length_filter_add_filter_not (fun r => (s.defrost r).forcedMark) s.defrostQueue
    rw [List.length_append] at hfilter
    simp [Function.comp_def]
    omega
  · exact congrArg _ (taken (r := .readStatus 1) rfl rfl rfl rfl (congrArg (Answer.mk s .ok) (statusRecords_eq s)))
  · rfl
  · exact congrArg _ (taken (r := .readStatus 2) rfl rfl rfl rfl (congrArg (Answer.mk s .ok) (statusAlarms_eq p s)))
  · have hstack := AlarmTable.stack_length_le hkept p
    cases s.alarms.entries[(0 : Fin 48)]
    · simp
      omega
    · simp
      omega
  · exact congrArg _ (taken (r := .readStatus part) rfl rfl rfl rfl (readStatus_of_le hpart p s))

end Sys2Proof.Machine
end

section
/-! PROOFS. What a raise does to the entries of the table (R144, R145, R147, R148), and what it spares: the entry of another pair of
code and subject, and a table that is full. -/

namespace Sys2Proof.Machine

set_option Elab.async false

/-! ### Searches (R143, R144) -/

theorem AlarmTable.find_eq_none {t : AlarmTable} {code : AlarmCode} {subject : Subject} :
    t.find code subject = none
      ↔ ∀ (i : Fin 48) (e : AlarmEntry), t.entries[i] = some e → e.code = code → e.subject ≠ subject := by
  rw [AlarmTable.find, lowest_eq_none]
  refine forall_congr' fun i => ?_
  cases t.entries[i] <;> simp

theorem AlarmTable.find_eq_some {t : AlarmTable} {code : AlarmCode} {subject : Subject} {i : Fin 48}
    (h : t.find code subject = some i) : ∃ e, t.entries[i] = some e ∧ e.code = code ∧ e.subject = subject := by
  have := (lowest_eq_some.mp h).1
  cases he : t.entries[i] with
  | none => simp [he] at this
  | some e =>
    simp only [he, Bool.and_eq_true, beq_iff_eq] at this
    exact ⟨e, rfl, this⟩

theorem AlarmTable.freeEntry_eq_none {t : AlarmTable} :
    t.freeEntry = none ↔ ∀ i : Fin 48, i ≠ 0 → t.entries[i].isSome = true := by
  rw [AlarmTable.freeEntry, lowest_eq_none]
  refine forall_congr' fun i => ?_
  by_cases hi : i = 0 <;> cases t.entries[i] <;> simp [hi]

theorem AlarmTable.freeEntry_eq_some {t : AlarmTable} {i : Fin 48} (h : t.freeEntry = some i) :
    i ≠ 0 ∧ t.entries[i] = none := by
  have := (lowest_eq_some.mp h).1
  simpa using this

/-! ### Entries written -/

/-- The entry a raise occupies (R144). -/
def AlarmTable.newEntry (t : AlarmTable) (now : Word32) (code : AlarmCode) (subject : Subject) (tag : Option Word32)
    (detail : Option Word16) : AlarmEntry where
  code := code
  subject := subject
  tag := tag
  detail := detail
  firstRaised := now
  lastRaised := now
  repeatCount := 0
  condition := if code.isNotice then .returned else .active
  delivery := .of fun p => if t.routed p code then .pending else .notRouted

/-- An entry raised again (R145). -/
def AlarmTable.again (t : AlarmTable) (now : Word32) (e : AlarmEntry) (tag : Option Word32) (detail : Option Word16) :
    AlarmEntry :=
  { e with
    repeatCount := min (e.repeatCount + 1) 255
    lastRaised := now
    detail := detail
    tag := tag
    condition := if e.code.isNotice then e.condition else .active
    delivery := .of fun p => (e.delivery.get p).again (t.routed p e.code) }

theorem getElem_set_fin {n : Nat} {α : Type} (v : Vector α n) (i j : Fin n) (x : α) :
    (v.set i x)[j] = if i = j then x else v[j] := by
  simp [Vector.getElem_set, Fin.ext_iff]

theorem AlarmTable.occupy_entries (t : AlarmTable) (now : Word32) (i j : Fin 48) (code : AlarmCode) (subject : Subject)
    (tag : Option Word32) (detail : Option Word16) :
    (t.occupy now i code subject tag detail).entries[j]
      = if i = j then some (t.newEntry now code subject tag detail) else t.entries[j] :=
  getElem_set_fin _ i j _

theorem AlarmTable.reraise_entries (t : AlarmTable) (now : Word32) (i j : Fin 48) (e : AlarmEntry) (tag : Option Word32)
    (detail : Option Word16) :
    (t.reraise now i e tag detail).entries[j] = if i = j then some (t.again now e tag detail) else t.entries[j] :=
  getElem_set_fin _ i j _

theorem AlarmTable.free_entries (t : AlarmTable) (i j : Fin 48) :
    (t.free i).entries[j] = if i = j then none else t.entries[j] :=
  getElem_set_fin _ i j _

/-- The freeing of another entry reaches entry 0 alone, whose code stays (R147). -/
theorem AlarmTable.returnTableFull_entries (t : AlarmTable) :
    (∀ j : Fin 48, j ≠ 0 → t.returnTableFull.entries[j] = t.entries[j])
      ∧ ∀ e, t.returnTableFull.entries[(0 : Fin 48)] = some e →
        ∃ e0, t.entries[(0 : Fin 48)] = some e0 ∧ e.code = e0.code ∧ e.subject = e0.subject := by
  unfold AlarmTable.returnTableFull
  split
  · next e0 h0 =>
    split
    · dsimp only
      split
      · refine ⟨fun j hj => ?_, fun e he => ?_⟩
        · rw [AlarmTable.free_entries, if_neg (Ne.symm hj)]
          exact (getElem_set_fin _ _ _ _).trans (if_neg (Ne.symm hj))
        · rw [AlarmTable.free_entries, if_pos rfl] at he
          cases he
      · refine ⟨fun j hj => (getElem_set_fin _ _ _ _).trans (if_neg (Ne.symm hj)), fun e he => ?_⟩
        rw [getElem_set_fin, if_pos rfl] at he
        cases he
        exact ⟨e0, h0, rfl, rfl⟩
    · exact ⟨fun _ _ => rfl, fun e he => ⟨e, he, rfl, rfl⟩⟩
  · exact ⟨fun _ _ => rfl, fun e he => ⟨e, he, rfl, rfl⟩⟩

/-- The freeing test of an entry other than entry 0 reaches that entry and entry 0 alone (R147). -/
theorem AlarmTable.testFree_entries (t : AlarmTable) {i : Fin 48} (hi : i ≠ 0) :
    (∀ j : Fin 48, j ≠ 0 → j ≠ i → (t.testFree i).entries[j] = t.entries[j])
      ∧ ∀ e, (t.testFree i).entries[(0 : Fin 48)] = some e →
        ∃ e0, t.entries[(0 : Fin 48)] = some e0 ∧ e.code = e0.code ∧ e.subject = e0.subject := by
  unfold AlarmTable.testFree
  split
  · split
    · obtain ⟨hother, hzero⟩ := (t.free i).returnTableFull_entries
      refine ⟨fun j hj hji => ?_, fun e he => ?_⟩
      · rw [hother j hj, AlarmTable.free_entries, if_neg (Ne.symm hji)]
      · simpa only [AlarmTable.free_entries, if_neg hi] using hzero e he
    · exact ⟨fun _ _ _ => rfl, fun e he => ⟨e, he, rfl, rfl⟩⟩
  · exact ⟨fun _ _ _ => rfl, fun e he => ⟨e, he, rfl, rfl⟩⟩

/-- TABLE_FULL raised reaches entry 0 alone, which is then of its code or of the code it had (R148). -/
theorem AlarmTable.raiseTableFull_entries (t : AlarmTable) (now : Word32) :
    (∀ j : Fin 48, j ≠ 0 → (t.raiseTableFull now).entries[j] = t.entries[j])
      ∧ ∀ e, (t.raiseTableFull now).entries[(0 : Fin 48)] = some e → e.code = .tableFull
        ∨ ∃ e0, t.entries[(0 : Fin 48)] = some e0 ∧ e.code = e0.code ∧ e.subject = e0.subject := by
  unfold AlarmTable.raiseTableFull
  split
  · refine ⟨fun j hj => by rw [AlarmTable.occupy_entries, if_neg (Ne.symm hj)], fun e he => .inl ?_⟩
    rw [AlarmTable.occupy_entries, if_pos rfl] at he
    cases he
    rfl
  · next e0 h0 =>
    refine ⟨fun j hj => by rw [AlarmTable.reraise_entries, if_neg (Ne.symm hj)], fun e he => .inr ⟨e0, h0, ?_⟩⟩
    rw [AlarmTable.reraise_entries, if_pos rfl] at he
    cases he
    exact ⟨rfl, rfl⟩

/-! ### The three ways of a raise (R144, R145, R148) -/

/-- A raise finds the entry of its pair, or occupies a free one, or is not entered. -/
theorem AlarmTable.raise_cases (t : AlarmTable) (now : Word32) (retry : Bool) (code : AlarmCode) (subject : Subject)
    (tag : Option Word32) (detail : Option Word16) :
    (∃ i e, t.entries[i] = some e ∧ e.code = code ∧ e.subject = subject
      ∧ t.raise now retry code subject tag detail = (t.reraise now i e tag detail, true))
    ∨ (∃ i, i ≠ 0 ∧ t.entries[i] = none
      ∧ (∀ (j : Fin 48) (e : AlarmEntry), t.entries[j] = some e → e.code = code → e.subject ≠ subject)
      ∧ t.raise now retry code subject tag detail
        = (if code.isNotice then (t.occupy now i code subject tag detail).testFree i
          else t.occupy now i code subject tag detail, true))
    ∨ ((∀ i : Fin 48, i ≠ 0 → t.entries[i].isSome = true)
      ∧ (∀ (i : Fin 48) (e : AlarmEntry), t.entries[i] = some e → e.code = code → e.subject ≠ subject)
      ∧ t.raise now retry code subject tag detail = (if retry then t else t.raiseTableFull now, false)) := by
  unfold AlarmTable.raise
  split
  · next i hfind =>
    obtain ⟨e, he, hcode, hsubject⟩ := AlarmTable.find_eq_some hfind
    exact .inl ⟨i, e, he, hcode, hsubject, by simp [he]⟩
  · next hfind =>
    have hnone := AlarmTable.find_eq_none.mp hfind
    split
    · next i hfree =>
      obtain ⟨hi, he⟩ := AlarmTable.freeEntry_eq_some hfree
      exact .inr (.inl ⟨i, hi, he, hnone, rfl⟩)
    · next hfree => exact .inr (.inr ⟨AlarmTable.freeEntry_eq_none.mp hfree, hnone, rfl⟩)

/-! ### What a raise leaves for its own pair -/

/-- An entry from a place on shows a condition raised at a time, with its tag and detail. -/
def AlarmTable.shows (t : AlarmTable) (low : Nat) (now : Word32) (code : AlarmCode) (subject : Subject)
    (tag : Option Word32) (detail : Option Word16) : Prop :=
  ∃ (i : Fin 48) (e : AlarmEntry), low ≤ i.val ∧ t.entries[i] = some e ∧ e.code = code ∧ e.subject = subject
    ∧ e.tag = tag ∧ e.detail = detail ∧ e.lastRaised = now ∧ e.condition = .active

/-- The table is full and holds no entry of a pair (R148). -/
def AlarmTable.refuses (t : AlarmTable) (code : AlarmCode) (subject : Subject) : Prop :=
  (∀ i : Fin 48, i ≠ 0 → t.entries[i].isSome = true)
    ∧ ∀ (i : Fin 48) (e : AlarmEntry), t.entries[i] = some e → e.code = code → e.subject ≠ subject

/-- Entry 0 is TABLE_FULL's alone (R143). -/
def AlarmTable.zeroKept (t : AlarmTable) : Prop := ∀ e, t.entries[(0 : Fin 48)] = some e → e.code = .tableFull

theorem AlarmTable.zeroKept_of_kept {t : AlarmTable} (h : t.kept) : t.zeroKept := by
  obtain ⟨-, -, -, hentries, -⟩ := h
  exact fun e he => (hentries 0 e he).1.mpr rfl

/-- A condition's raise that is entered shows in the table; above entry 0 where that is TABLE_FULL's. -/
theorem AlarmTable.raise_shows {t : AlarmTable} {now : Word32} {retry : Bool} {code : AlarmCode} {subject : Subject}
    {tag : Option Word32} {detail : Option Word16} (hcond : code.isNotice = false) {low : Nat}
    (hlow : low = 0 ∨ low = 1 ∧ t.zeroKept ∧ code ≠ .tableFull)
    (h : (t.raise now retry code subject tag detail).2 = true) :
    (t.raise now retry code subject tag detail).1.shows low now code subject tag detail := by
  obtain ⟨i, e, he, rfl, rfl, hr⟩ | ⟨i, hi, -, -, hr⟩ | ⟨-, -, hr⟩ := t.raise_cases now retry code subject tag detail
  · rw [hr]
    refine ⟨i, t.again now e tag detail, ?_, by rw [AlarmTable.reraise_entries, if_pos rfl], rfl, rfl, rfl, rfl, rfl, ?_⟩
    · obtain rfl | ⟨rfl, hzero, hfull⟩ := hlow
      · exact Nat.zero_le _
      · refine Nat.one_le_iff_ne_zero.mpr fun h0 => hfull (hzero e ?_)
        rwa [show i = 0 from Fin.ext h0] at he
    · simp [AlarmTable.again, hcond]
  · rw [hr, hcond]
    refine ⟨i, t.newEntry now code subject tag detail, ?_, ?_, rfl, rfl, rfl, rfl, rfl, ?_⟩
    · have : i.val ≠ 0 := fun h0 => hi (Fin.ext h0)
      omega
    · exact (t.occupy_entries now i i code subject tag detail).trans (if_pos rfl)
    · simp [AlarmTable.newEntry, hcond]
  · rw [hr] at h
    cases h

/-! ### What a raise leaves for another pair -/

/-- Between two tables, the entries of a pair from a place on stay, and a table full without the pair stays so. -/
def AlarmTable.spares (low : Nat) (code : AlarmCode) (subject : Subject) (t u : AlarmTable) : Prop :=
  (∀ (i : Fin 48) (e : AlarmEntry), low ≤ i.val → t.entries[i] = some e → e.code = code → e.subject = subject →
      u.entries[i] = some e)
    ∧ (t.refuses code subject → u.refuses code subject)

theorem AlarmTable.spares_refl (low : Nat) (code : AlarmCode) (subject : Subject) (t : AlarmTable) :
    AlarmTable.spares low code subject t t := ⟨fun _ _ _ h _ _ => h, id⟩

theorem AlarmTable.spares_trans {low : Nat} {code : AlarmCode} {subject : Subject} {t u v : AlarmTable}
    (h : AlarmTable.spares low code subject t u) (k : AlarmTable.spares low code subject u v) :
    AlarmTable.spares low code subject t v :=
  ⟨fun i e hi he hc hs => k.1 i e hi (h.1 i e hi he hc hs) hc hs, fun hr => k.2 (h.2 hr)⟩

theorem AlarmTable.spares_shows {low : Nat} {code : AlarmCode} {subject : Subject} {t u : AlarmTable}
    (h : AlarmTable.spares low code subject t u) {now : Word32} {tag : Option Word32} {detail : Option Word16}
    (k : t.shows low now code subject tag detail) : u.shows low now code subject tag detail := by
  obtain ⟨i, e, hi, he, hc, hs, hrest⟩ := k
  exact ⟨i, e, hi, h.1 i e hi he hc hs, hc, hs, hrest⟩

/-- A raise of another pair spares a pair; a notice, or a raise that is no retry, may reach entry 0 (R147, R148). -/
theorem AlarmTable.raise_spares (t : AlarmTable) (now : Word32) {retry : Bool} {code code' : AlarmCode}
    {subject subject' : Subject} {low : Nat} (hpair : code' = code → subject' ≠ subject) (hfull : code ≠ .tableFull)
    (hlow : low = 1 ∨ retry = true ∧ code'.isNotice = false) (tag : Option Word32) (detail : Option Word16) :
    AlarmTable.spares low code subject t (t.raise now retry code' subject' tag detail).1 := by
  obtain ⟨i, e, he, rfl, rfl, hr⟩ | ⟨i, hi, he, -, hr⟩ | ⟨hall, hnone, hr⟩ :=
    t.raise_cases now retry code' subject' tag detail
  · rw [hr]
    refine ⟨fun j f _ hj hc hs => ?_, fun ⟨hocc, hno⟩ => ⟨fun j hj => ?_, fun j f hj hc => ?_⟩⟩
    · rw [AlarmTable.reraise_entries, if_neg]
      · exact hj
      · rintro rfl
        rw [he] at hj
        cases hj
        exact hpair hc hs
    · rw [AlarmTable.reraise_entries]
      split
      · rfl
      · exact hocc j hj
    · rw [AlarmTable.reraise_entries] at hj
      split at hj
      · cases hj
        exact hpair hc
      · exact hno j f hj hc
  · rw [hr]
    refine ⟨fun j f hlj hj hc hs => ?_, fun ⟨hocc, _⟩ => absurd (hocc i hi) (by simp [he])⟩
    have hij : i ≠ j := by
      rintro rfl
      rw [he] at hj
      cases hj
    cases hn : code'.isNotice
    · exact (t.occupy_entries now i j code' subject' tag detail).trans ((if_neg hij).trans hj)
    · obtain rfl | ⟨-, hn'⟩ := hlow
      · have hj0 : j ≠ 0 := fun h0 => by subst h0; exact absurd hlj (by decide)
        exact (((t.occupy now i code' subject' tag detail).testFree_entries hi).1 j hj0 (Ne.symm hij)).trans
          ((t.occupy_entries now i j code' subject' tag detail).trans ((if_neg hij).trans hj))
      · rw [hn] at hn'
        cases hn'
  · rw [hr]
    cases retry
    · obtain ⟨hother, hzero⟩ := t.raiseTableFull_entries now
      refine ⟨fun j f hlj hj _ _ => ?_, fun ⟨hocc, hno⟩ => ⟨fun j hj => ?_, fun j f hj hc hs => ?_⟩⟩
      · obtain rfl | ⟨h, -⟩ := hlow
        · have hj0 : j ≠ 0 := fun h0 => by subst h0; exact absurd hlj (by decide)
          exact (hother j hj0).trans hj
        · cases h
      · exact (congrArg Option.isSome (hother j hj)).trans (hocc j hj)
      · by_cases hj0 : j = 0
        · subst hj0
          obtain hf | ⟨e0, he0, hc0, hs0⟩ := hzero f hj
          · exact hfull (hc ▸ hf)
          · exact hno 0 e0 he0 (hc0 ▸ hc) (hs0 ▸ hs)
        · exact hno j f ((hother j hj0).symm.trans hj) hc hs
    · exact AlarmTable.spares_refl low code subject t

/-- A raise leaves entry 0 to TABLE_FULL (R143, R148). -/
theorem AlarmTable.raise_zeroKept {t : AlarmTable} (h : t.zeroKept) (now : Word32) (retry : Bool) (code : AlarmCode)
    (subject : Subject) (tag : Option Word32) (detail : Option Word16) :
    (t.raise now retry code subject tag detail).1.zeroKept := by
  obtain ⟨i, e, he, -, -, hr⟩ | ⟨i, hi, -, -, hr⟩ | ⟨-, -, hr⟩ := t.raise_cases now retry code subject tag detail
  · intro f hf
    rw [hr, AlarmTable.reraise_entries] at hf
    split at hf
    · next h0 =>
      cases hf
      exact h e (h0 ▸ he)
    · exact h f hf
  · have hocc : ∀ f, (t.occupy now i code subject tag detail).entries[(0 : Fin 48)] = some f → f.code = .tableFull :=
      fun f hf => h f (by rwa [AlarmTable.occupy_entries, if_neg hi] at hf)
    rw [hr]
    cases code.isNotice
    · exact hocc
    · intro f hf
      obtain ⟨e0, he0, hc, -⟩ := ((t.occupy now i code subject tag detail).testFree_entries hi).2 f hf
      exact hc.trans (hocc e0 he0)
  · rw [hr]
    cases retry
    · intro f hf
      obtain hc | ⟨e0, he0, hc, -⟩ := (t.raiseTableFull_entries now).2 f hf
      · exact hc
      · exact hc.trans (h e0 he0)
    · exact h

end Sys2Proof.Machine
end

section
/-! PROOFS. The exposure tick at the pallets (R4, R62, R102 to R106, R109). -/

namespace Sys2Proof.Machine

set_option Elab.async false

/-! ### What other records' raises leave of a pallet's alarms -/

/-- Between two states the clock stands, entry 0 stays TABLE_FULL's, and the entries of a pair are spared. -/
def State.sparesPair (code : AlarmCode) (subject : Subject) (s t : State) : Prop :=
  t.clock = s.clock ∧ (s.alarms.zeroKept → t.alarms.zeroKept) ∧ AlarmTable.spares 1 code subject s.alarms t.alarms

section
variable {code : AlarmCode} {subject : Subject}

theorem State.sparesPair_of_eq {s t : State} (hc : t.clock = s.clock) (ha : t.alarms = s.alarms) :
    State.sparesPair code subject s t :=
  ⟨hc, fun h => ha ▸ h, ha ▸ AlarmTable.spares_refl 1 code subject s.alarms⟩

theorem State.sparesPair_refl (s : State) : State.sparesPair code subject s s := State.sparesPair_of_eq rfl rfl

theorem State.sparesPair_trans {s t u : State} (h : State.sparesPair code subject s t)
    (k : State.sparesPair code subject t u) : State.sparesPair code subject s u :=
  ⟨k.1.trans h.1, fun hz => k.2.1 (h.2.1 hz), AlarmTable.spares_trans h.2.2 k.2.2⟩

theorem State.sparesPair_setDefrost (s : State) (r : Fin 8) (x : Defrost) :
    State.sparesPair code subject s (s.setDefrost r x) := State.sparesPair_of_eq rfl rfl

theorem State.sparesPair_setPallet (s : State) (q : Fin 256) (x : Pallet) :
    State.sparesPair code subject s (s.setPallet q x) := State.sparesPair_of_eq rfl rfl

theorem State.sparesPair_raise (hfull : code ≠ .tableFull) (s : State) {code' : AlarmCode} {subject' : Subject}
    (hpair : code' = code → subject' ≠ subject) (tag : Option Word32) (detail : Option Word16) :
    State.sparesPair code subject s (s.raise code' subject' tag detail).1 :=
  ⟨rfl, fun h => AlarmTable.raise_zeroKept h _ _ _ _ _ _, AlarmTable.raise_spares _ _ hpair hfull (.inl rfl) _ _⟩

theorem State.sparesPair_raiseCondition (hfull : code ≠ .tableFull) (s : State) {code' : AlarmCode} {subject' : Subject}
    (hpair : code' = code → subject' ≠ subject) (tag : Option Word32) (detail : Option Word16)
    {unposted : State → State} (hu : ∀ s, State.sparesPair code subject s (unposted s)) :
    State.sparesPair code subject s (s.raiseCondition code' subject' tag detail unposted) := by
  have h := State.sparesPair_raise hfull s hpair tag detail
  rw [State.raiseCondition_eq]
  split
  · exact h
  · exact State.sparesPair_trans h (hu _)

end

theorem room_ne_pallet (r : Fin 8) (q : Fin 256) : Subject.room r ≠ Subject.pallet q := nofun

section
variable {code : AlarmCode} (hfull : code ≠ .tableFull) (q : Fin 256)
include hfull

theorem raiseFrostDue_spares (r : Fin 8) (s : State) : State.sparesPair code (.pallet q) s (raiseFrostDue r s) :=
  State.sparesPair_trans (State.sparesPair_setDefrost s r _)
    (State.sparesPair_raiseCondition hfull _ (fun _ => room_ne_pallet r q) _ _ fun s => State.sparesPair_setDefrost s r _)

theorem raiseForced_spares (r : Fin 8) (s : State) : State.sparesPair code (.pallet q) s (raiseForced r s) :=
  State.sparesPair_trans (State.sparesPair_setDefrost s r _)
    (State.sparesPair_raiseCondition hfull _ (fun _ => room_ne_pallet r q) _ _ fun s => State.sparesPair_setDefrost s r _)

theorem accumulateFrost_spares (r : Fin 8) (s : State) : State.sparesPair code (.pallet q) s (accumulateFrost r s) := by
  have hdue : ∀ s, State.sparesPair code (.pallet q) s (testFrostDue r s) := fun s => by
    unfold testFrostDue
    dsimp only
    split
    · exact raiseFrostDue_spares hfull q r s
    · exact State.sparesPair_refl s
  have hforced : ∀ s, State.sparesPair code (.pallet q) s (testForced r s) := fun s => by
    unfold testForced
    split
    · exact State.sparesPair_trans (State.sparesPair_setDefrost s r _) (raiseForced_spares hfull q r _)
    · exact State.sparesPair_refl s
  unfold accumulateFrost
  dsimp only
  split
  · exact State.sparesPair_refl s
  · exact State.sparesPair_trans (State.sparesPair_trans (State.sparesPair_setDefrost s r _) (hdue _)) (hforced _)

theorem grant_spares (r : Fin 8) (s : State) : State.sparesPair code (.pallet q) s (grant r s) :=
  State.sparesPair_trans (t := ({ s with defrostQueue := s.defrostQueue.erase r }.takeLoad r).setDefrost r
      { s.defrost r with
        state := .granted, forcedCycle := (s.defrost r).forcedMark, phaseTimer := .start (s.defrost r).grantHold })
    (State.sparesPair_of_eq rfl rfl) (State.sparesPair_raise hfull _ (fun _ => room_ne_pallet r q) _ _)

theorem arbiterTurn_spares (s : State) (bar : Bool) (r : Fin 8) :
    State.sparesPair code (.pallet q) s (arbiterTurn (s, bar) r).1 := by
  have h : State.sparesPair code (.pallet q) s (s.modifyDefrost r fun x => { x with state := s.queueState r }) :=
    State.sparesPair_of_eq rfl rfl
  unfold arbiterTurn
  dsimp only
  split
  · exact h
  · split
    · exact h
    · split
      · exact h
      · exact State.sparesPair_trans h (grant_spares hfull q r _)

theorem evaluateQueue_spares (s : State) : State.sparesPair code (.pallet q) s (evaluateQueue s) := by
  have go : ∀ (l : List (Fin 8)) (a : State × Bool), State.sparesPair code (.pallet q) a.1 (l.foldl arbiterTurn a).1 := by
    intro l
    induction l with
    | nil => intro a; exact State.sparesPair_refl _
    | cons r l ih => intro a; exact State.sparesPair_trans (arbiterTurn_spares hfull q a.1 a.2 r) (ih _)
  exact go _ (s, false)

theorem accumulateAll_spares (s : State) : State.sparesPair code (.pallet q) s (accumulateAll s) :=
  State.sparesPair_trans
    (forEach_rel _ State.sparesPair_refl State.sparesPair_trans (accumulateFrost_spares hfull q) s)
    (evaluateQueue_spares hfull q _)

end

/-! ### One pallet's turn (R104 to R106) -/

/-- The raise of a pallet's exposure condition at an exposure tick, where it warns or exceeds. -/
def exposureRaise (now : Word32) (code : AlarmCode) (q : Fin 256) (tag : Word32) (exposure : Nat) (due : Bool)
    (t : AlarmTable) : AlarmTable × Bool :=
  if due = true then t.raise now false code (.pallet q) (some tag) (some (BitVec.ofNat 16 (min (exposure / 960) 65535)))
  else (t, true)

/-- Whether a pallet's warning falls due at a charge, by its exposure after it (R105). -/
def State.warns (s : State) (x : Pallet) : Bool := decide ((s.classOf x).warn * 960 ≤ s.chargedExposure x) && !x.warned

/-- Whether a pallet becomes over budget at a charge, by its exposure after it (R106). -/
def State.exceeds (s : State) (x : Pallet) : Bool :=
  decide ((s.classOf x).budget * 960 ≤ s.chargedExposure x) && !x.overBudget

/-- The table after a pallet's warning, and after its over-budget alarm. -/
def State.afterWarning (s : State) (q : Fin 256) : AlarmTable × Bool :=
  exposureRaise s.clock .exposureWarning q (s.pallet q).tag (s.chargedExposure (s.pallet q)) (s.warns (s.pallet q)) s.alarms

def State.afterExceeded (s : State) (q : Fin 256) : AlarmTable × Bool :=
  exposureRaise s.clock .exposureExceeded q (s.pallet q).tag (s.chargedExposure (s.pallet q)) (s.exceeds (s.pallet q))
    (s.afterWarning q).1

theorem exposureDetail_eq (x : Pallet) : exposureDetail x = some (BitVec.ofNat 16 (min (x.exposure / 960) 65535)) := rfl

theorem raiseWarning_eq (q : Fin 256) (s : State) :
    raiseWarning q s = (s.setPallet q { s.pallet q with
        warnUnposted := (s.pallet q).warnUnposted || !(exposureRaise s.clock .exposureWarning q (s.pallet q).tag
          (s.pallet q).exposure true s.alarms).2 }).setAlarms
      (exposureRaise s.clock .exposureWarning q (s.pallet q).tag (s.pallet q).exposure true s.alarms).1 := by
  rw [raiseWarning, State.raiseCondition_eq, exposureDetail_eq, exposureRaise, if_pos rfl]
  split
  · next h =>
    simp only [h, Bool.not_true, Bool.or_false]
    exact congrArg (State.setAlarms · _) (State.setPallet_own s q).symm
  · next h => simp [h, State.modifyPallet, State.setPallet_setAlarms]

theorem raiseExceeded_eq (q : Fin 256) (s : State) :
    raiseExceeded q s = (s.setPallet q { s.pallet q with
        exceedUnposted := (s.pallet q).exceedUnposted || !(exposureRaise s.clock .exposureExceeded q (s.pallet q).tag
          (s.pallet q).exposure true s.alarms).2 }).setAlarms
      (exposureRaise s.clock .exposureExceeded q (s.pallet q).tag (s.pallet q).exposure true s.alarms).1 := by
  rw [raiseExceeded, State.raiseCondition_eq, exposureDetail_eq, exposureRaise, if_pos rfl]
  split
  · next h =>
    simp only [h, Bool.not_true, Bool.or_false]
    exact congrArg (State.setAlarms · _) (State.setPallet_own s q).symm
  · next h => simp [h, State.modifyPallet, State.setPallet_setAlarms]

/-- The warning test as one update of a pallet and a table (R105, R109). -/
theorem testWarning_eq (q : Fin 256) (s : State) (y : Pallet) (a : AlarmTable) :
    let due := decide ((s.classOf y).warn * 960 ≤ y.exposure) && !y.warned
    let raised := exposureRaise s.clock .exposureWarning q y.tag y.exposure due a
    testWarning q ((s.setPallet q y).setAlarms a)
      = (s.setPallet q { y with warned := y.warned || due, warnUnposted := y.warnUnposted || !raised.2 }).setAlarms
        raised.1 := by
  intro due raised
  have hcond : ((s.classOf y).warn * Config.unitsPerDegreeMinute ≤ y.exposure ∧ (!y.warned) = true) ↔ due = true := by
    simp only [due, Bool.and_eq_true, decide_eq_true_eq, Config.unitsPerDegreeMinute]
  have hclass : ((s.setPallet q y).setAlarms a).classOf y = s.classOf y := rfl
  simp only [testWarning, State.setAlarms_pallet, State.pallet_setPallet_self, hclass, hcond]
  cases h : due
  · simp [raised, h, exposureRaise]
  · rw [if_pos rfl, raiseWarning_eq]
    simp [raised, h, State.setPallet_setAlarms]

/-- The over-budget test as one update of a pallet and a table (R106, R109). -/
theorem testOverBudget_eq (q : Fin 256) (s : State) (y : Pallet) (a : AlarmTable) :
    let due := decide ((s.classOf y).budget * 960 ≤ y.exposure) && !y.overBudget
    let raised := exposureRaise s.clock .exposureExceeded q y.tag y.exposure due a
    testOverBudget q ((s.setPallet q y).setAlarms a)
      = (s.setPallet q { y with overBudget := y.overBudget || due, exceedUnposted := y.exceedUnposted || !raised.2 }).setAlarms
        raised.1 := by
  intro due raised
  have hcond : ((s.classOf y).budget * Config.unitsPerDegreeMinute ≤ y.exposure ∧ (!y.overBudget) = true) ↔ due = true := by
    simp only [due, Bool.and_eq_true, decide_eq_true_eq, Config.unitsPerDegreeMinute]
  have hclass : ((s.setPallet q y).setAlarms a).classOf y = s.classOf y := rfl
  simp only [testOverBudget, State.setAlarms_pallet, State.pallet_setPallet_self, hclass, hcond]
  cases h : due
  · simp [raised, h, exposureRaise]
  · rw [if_pos rfl, raiseExceeded_eq]
    simp [raised, h, State.setPallet_setAlarms]

/-- One live pallet's turn as one update, where the attention lines follow the table (R104 to R106, R109). -/
theorem chargePallet_eq (q : Fin 256) {s : State} (hattn : s.attentionKept) (hlive : (s.pallet q).live = true) :
    chargePallet q s = (s.setPallet q { s.pallet q with
        exposure := s.chargedExposure (s.pallet q)
        warned := (s.pallet q).warned || s.warns (s.pallet q)
        overBudget := (s.pallet q).overBudget || s.exceeds (s.pallet q)
        warnUnposted := (s.pallet q).warnUnposted || !(s.afterWarning q).2
        exceedUnposted := (s.pallet q).exceedUnposted || !(s.afterExceeded q).2 }).setAlarms (s.afterExceeded q).1 := by
  have hown : ∀ y, s.setPallet q y = (s.setPallet q y).setAlarms s.alarms := fun y =>
    (State.setAlarms_own (s.setPallet q y) hattn).symm
  simp only [chargePallet, hlive, if_true]
  rw [hown, testWarning_eq, testOverBudget_eq]
  rfl

/-! ### The turn in a state whose attention lines are not known -/

/-- The state with its attention lines set from its table (R150). -/
def State.drawn (s : State) : State := s.setAlarms s.alarms

theorem raiseWarning_drawn (q : Fin 256) (s : State) : (raiseWarning q s).drawn = raiseWarning q s.drawn := by
  rw [raiseWarning_eq, raiseWarning_eq]
  rfl

theorem raiseExceeded_drawn (q : Fin 256) (s : State) : (raiseExceeded q s).drawn = raiseExceeded q s.drawn := by
  rw [raiseExceeded_eq, raiseExceeded_eq]
  rfl

theorem testWarning_drawn (q : Fin 256) (s : State) : (testWarning q s).drawn = testWarning q s.drawn := by
  by_cases h : (s.classOf (s.pallet q)).warn * Config.unitsPerDegreeMinute ≤ (s.pallet q).exposure
      ∧ (!(s.pallet q).warned) = true
  · exact (congrArg State.drawn (if_pos h)).trans ((raiseWarning_drawn q _).trans (if_pos h).symm)
  · exact (congrArg State.drawn (if_neg h)).trans (if_neg h).symm

theorem testOverBudget_drawn (q : Fin 256) (s : State) : (testOverBudget q s).drawn = testOverBudget q s.drawn := by
  by_cases h : (s.classOf (s.pallet q)).budget * Config.unitsPerDegreeMinute ≤ (s.pallet q).exposure
      ∧ (!(s.pallet q).overBudget) = true
  · exact (congrArg State.drawn (if_pos h)).trans ((raiseExceeded_drawn q _).trans (if_pos h).symm)
  · exact (congrArg State.drawn (if_neg h)).trans (if_neg h).symm

theorem chargePallet_drawn (q : Fin 256) (s : State) : (chargePallet q s).drawn = chargePallet q s.drawn := by
  by_cases h : (s.pallet q).live = true
  · exact (congrArg State.drawn (if_pos h)).trans
      (((testOverBudget_drawn q _).trans (congrArg _ (testWarning_drawn q _))).trans (if_pos h).symm)
  · exact (congrArg State.drawn (if_neg h)).trans (if_neg h).symm

/-- A live pallet's record and the table after its turn (R104 to R106, R109). -/
theorem chargePallet_own (q : Fin 256) {s : State} (hlive : (s.pallet q).live = true) :
    (chargePallet q s).pallet q = { s.pallet q with
        exposure := s.chargedExposure (s.pallet q)
        warned := (s.pallet q).warned || s.warns (s.pallet q)
        overBudget := (s.pallet q).overBudget || s.exceeds (s.pallet q)
        warnUnposted := (s.pallet q).warnUnposted || !(s.afterWarning q).2
        exceedUnposted := (s.pallet q).exceedUnposted || !(s.afterExceeded q).2 }
      ∧ (chargePallet q s).alarms = (s.afterExceeded q).1 := by
  have h := (chargePallet_drawn q s).trans (chargePallet_eq q (s := s.drawn) rfl hlive)
  refine ⟨?_, congrArg State.alarms h⟩
  have hq := congrArg (fun u => State.pallet u q) h
  exact hq.trans (by rw [State.setAlarms_pallet, State.pallet_setPallet_self]; rfl)

/-! ### The other pallets' turns -/

theorem raiseWarning_pallet_ne {q i : Fin 256} (hi : i ≠ q) (s : State) : (raiseWarning q s).pallet i = s.pallet i := by
  rw [raiseWarning_eq, State.setAlarms_pallet, State.pallet_setPallet_ne _ _ hi]

theorem raiseExceeded_pallet_ne {q i : Fin 256} (hi : i ≠ q) (s : State) :
    (raiseExceeded q s).pallet i = s.pallet i := by
  rw [raiseExceeded_eq, State.setAlarms_pallet, State.pallet_setPallet_ne _ _ hi]

theorem pallet_ne_pallet {q i : Fin 256} (hi : i ≠ q) : Subject.pallet q ≠ Subject.pallet i :=
  fun h => hi (Subject.pallet.inj h).symm

theorem raiseWarning_spares {code : AlarmCode} (hfull : code ≠ .tableFull) {q i : Fin 256} (hi : i ≠ q) (s : State) :
    State.sparesPair code (.pallet i) s (raiseWarning q s) :=
  State.sparesPair_raiseCondition hfull _ (fun _ => pallet_ne_pallet hi) _ _ fun s => State.sparesPair_setPallet s q _

theorem raiseExceeded_spares {code : AlarmCode} (hfull : code ≠ .tableFull) {q i : Fin 256} (hi : i ≠ q) (s : State) :
    State.sparesPair code (.pallet i) s (raiseExceeded q s) :=
  State.sparesPair_raiseCondition hfull _ (fun _ => pallet_ne_pallet hi) _ _ fun s => State.sparesPair_setPallet s q _

/-- Another pallet's turn leaves a pallet's record, and spares its alarms. -/
theorem chargePallet_other {code : AlarmCode} (hfull : code ≠ .tableFull) {q i : Fin 256} (hi : i ≠ q) (s : State) :
    (chargePallet q s).pallet i = s.pallet i ∧ State.sparesPair code (.pallet i) s (chargePallet q s) := by
  have hwarn : ∀ s, (testWarning q s).pallet i = s.pallet i ∧ State.sparesPair code (.pallet i) s (testWarning q s) :=
    fun s => by
      unfold testWarning
      dsimp only
      split
      · exact ⟨by rw [raiseWarning_pallet_ne hi, State.pallet_setPallet_ne _ _ hi],
          State.sparesPair_trans (State.sparesPair_setPallet s q _) (raiseWarning_spares hfull hi _)⟩
      · exact ⟨rfl, State.sparesPair_refl s⟩
  have hexceed : ∀ s, (testOverBudget q s).pallet i = s.pallet i
      ∧ State.sparesPair code (.pallet i) s (testOverBudget q s) := fun s => by
    unfold testOverBudget
    dsimp only
    split
    · exact ⟨by rw [raiseExceeded_pallet_ne hi, State.pallet_setPallet_ne _ _ hi],
        State.sparesPair_trans (State.sparesPair_setPallet s q _) (raiseExceeded_spares hfull hi _)⟩
    · exact ⟨rfl, State.sparesPair_refl s⟩
  unfold chargePallet
  dsimp only
  split
  · refine ⟨by rw [(hexceed _).1, (hwarn _).1, State.pallet_setPallet_ne _ _ hi], ?_⟩
    exact State.sparesPair_trans (State.sparesPair_trans (State.sparesPair_setPallet s q _) (hwarn _).2) (hexceed _).2
  · exact ⟨rfl, State.sparesPair_refl s⟩

/-! ### The whole tick (R4, R75) -/

/-- The fields an exposure tick can change. -/
def exposureFields : List Field := .exposureDue :: .pallets :: queueFields

/-- What the rest of an exposure tick leaves to a pallet's turn: its record, what its charge reads, and its alarms. -/
def State.besidePallet (q : Fin 256) (s t : State) : Prop :=
  s.frame exposureFields t ∧ t.pallet q = s.pallet q
    ∧ State.sparesPair .exposureWarning (.pallet q) s t ∧ State.sparesPair .exposureExceeded (.pallet q) s t

theorem State.besidePallet_refl (q : Fin 256) (s : State) : s.besidePallet q s :=
  ⟨State.frame_refl _ s, rfl, State.sparesPair_refl s, State.sparesPair_refl s⟩

theorem State.besidePallet_trans {q : Fin 256} {s t u : State} (h : s.besidePallet q t) (k : t.besidePallet q u) :
    s.besidePallet q u := by
  obtain ⟨hf, hp, hw, he⟩ := h
  obtain ⟨kf, kp, kw, ke⟩ := k
  exact ⟨State.frame_trans hf kf, kp.trans hp, State.sparesPair_trans hw kw, State.sparesPair_trans he ke⟩

theorem accumulateAll_beside (q : Fin 256) (s : State) : s.besidePallet q (accumulateAll s) :=
  ⟨State.frame_mono (accumulateAll_frame s) (by decide), State.frame_pallet (accumulateAll_frame s) (by decide) q,
    accumulateAll_spares (by decide) q s, accumulateAll_spares (by decide) q s⟩

theorem chargePallet_beside {q i : Fin 256} (hi : i ≠ q) (s : State) : s.besidePallet q (chargePallet i s) :=
  ⟨State.frame_mono (chargePallet_frame i s) (by decide), (chargePallet_other (code := .exposureWarning) (by decide) hi.symm s).1,
    (chargePallet_other (by decide) hi.symm s).2, (chargePallet_other (by decide) hi.symm s).2⟩

/-- An exposure tick is one turn of a pallet, with the rest of the tick before and after it. -/
theorem tickExposure_turn (first : Bool) (s : State) (q : Fin 256) :
    ∃ s1, ({ s with exposureDue := false } : State).besidePallet q s1
      ∧ (chargePallet q s1).besidePallet q (if first = true
          then forEach 256 chargePallet (accumulateAll { s with exposureDue := false })
          else accumulateAll (forEach 256 chargePallet { s with exposureDue := false })) := by
  have turn := forEach_at q (State.besidePallet q) (State.besidePallet_refl q) State.besidePallet_trans
    (fun i s hi => chargePallet_beside hi s)
  cases first
  · obtain ⟨s1, hbefore, hafter⟩ := turn { s with exposureDue := false }
    exact ⟨s1, hbefore, State.besidePallet_trans hafter (accumulateAll_beside q _)⟩
  · obtain ⟨s1, hbefore, hafter⟩ := turn (accumulateAll { s with exposureDue := false })
    exact ⟨s1, State.besidePallet_trans (accumulateAll_beside q _) hbefore, hafter⟩

/-- What a charge reads stands through the tick (R62, R102 to R104). -/
theorem State.charge_congr {s t : State} (h : s.frame exposureFields t) (x : Pallet) :
    t.locationTemp x = s.locationTemp x ∧ t.classOf x = s.classOf x ∧ t.chargedExposure x = s.chargedExposure x
      ∧ t.clock = s.clock := by
  have hroom := State.frame_room h (by decide)
  have hdoor := State.frame_door h (by decide)
  have hmove := State.frame_move h (by decide)
  have hclass := State.frame_productClass h (by decide)
  have hlane : ∀ d, t.laneTemp d = s.laneTemp d := fun d => by rw [State.laneTemp, hroom, hdoor]; rfl
  have hplace : ∀ p, t.placeTemp p = s.placeTemp p := fun p => by
    cases p with
    | room r => rw [State.placeTemp, hroom]; rfl
    | lane d => exact hlane d
    | trailer d => simp only [State.placeTemp, hdoor, hlane]
  have hend : ∀ p, t.endTemp p = s.endTemp p := fun p => by
    rw [State.endTemp, funext hplace]; rfl
  have hloc : t.locationTemp x = s.locationTemp x := by
    simp only [State.locationTemp, State.moveOf, hmove, hplace, hend]
  have hcls : t.classOf x = s.classOf x := hclass x.cls
  refine ⟨hloc, hcls, ?_, State.frame_clock h (by decide)⟩
  simp only [State.chargedExposure, hloc, hcls, State.frame_interval h (by decide)]

end Sys2Proof.Machine
end

section
/-! PROOFS. What an exposure tick leaves of every pallet and its alarms: O32. -/

namespace Sys2Proof.Machine

set_option Elab.async false

/-! ### The outcome of an exposure alarm (R105, R106, R109) -/

theorem exposureRaise_not_due (now : Word32) (code : AlarmCode) (q : Fin 256) (tag : Word32) (exposure : Nat)
    (t : AlarmTable) : exposureRaise now code q tag exposure false t = (t, true) := rfl

theorem exposureRaise_spares {code code' : AlarmCode} (hne : code' ≠ code) (hfull : code ≠ .tableFull) (now : Word32)
    (q : Fin 256) (tag : Word32) (exposure : Nat) (due : Bool) (t : AlarmTable) :
    AlarmTable.spares 1 code (.pallet q) t (exposureRaise now code' q tag exposure due t).1 := by
  cases due
  · exact AlarmTable.spares_refl _ _ _ t
  · exact AlarmTable.raise_spares t now (fun h => absurd h hne) hfull (.inl rfl) _ _

theorem exposureRaise_zeroKept {t : AlarmTable} (h : t.zeroKept) (now : Word32) (code : AlarmCode) (q : Fin 256)
    (tag : Word32) (exposure : Nat) (due : Bool) : (exposureRaise now code q tag exposure due t).1.zeroKept := by
  cases due
  · exact h
  · exact AlarmTable.raise_zeroKept h _ _ _ _ _ _

/-- A raise that is not entered finds the table full without its pair, and leaves it so (R148). -/
theorem AlarmTable.raise_refuses {t : AlarmTable} {now : Word32} {retry : Bool} {code : AlarmCode} {subject : Subject}
    {tag : Option Word32} {detail : Option Word16} (hfull : code ≠ .tableFull)
    (h : (t.raise now retry code subject tag detail).2 = false) :
    (t.raise now retry code subject tag detail).1.refuses code subject := by
  obtain ⟨i, e, -, -, -, hr⟩ | ⟨i, -, -, -, hr⟩ | ⟨hocc, hno, hr⟩ := t.raise_cases now retry code subject tag detail
  · rw [hr] at h; cases h
  · rw [hr] at h; cases h
  · rw [hr]
    cases retry
    · obtain ⟨hother, hzero⟩ := t.raiseTableFull_entries now
      refine ⟨fun j hj => (congrArg Option.isSome (hother j hj)).trans (hocc j hj), fun j f hj hc hs => ?_⟩
      by_cases hj0 : j = 0
      · subst hj0
        obtain hf | ⟨e0, he0, hc0, hs0⟩ := hzero f hj
        · exact hfull (hc ▸ hf)
        · exact hno 0 e0 he0 (hc0 ▸ hc) (hs0 ▸ hs)
      · exact hno j f ((hother j hj0).symm.trans hj) hc hs
    · exact ⟨hocc, hno⟩

/-- What O32 says of one alarm of a pallet: `before` and `after` are its mark, `unposted` and `still` its unposted mark. -/
def exposureOutcome (s t : State) (q : Fin 256) (before after unposted still : Bool) (code : AlarmCode) : Prop :=
  (before = after → still = unposted)
    ∧ (before = false → after = true → s.tableKept →
      (still = unposted → unposted = false → ∃ (i : Fin 48) (e : AlarmEntry), t.alarms.entries[i] = some e
        ∧ e.code = code ∧ e.subject = .pallet q ∧ e.tag = some (s.pallet q).tag
        ∧ e.detail = some (BitVec.ofNat 16 (min ((t.pallet q).exposure / 960) 65535)) ∧ e.lastRaised = s.clock
        ∧ e.condition = .active)
      ∧ (still ≠ unposted → unposted = false ∧ still = true
        ∧ (∀ i : Fin 48, i ≠ 0 → t.alarms.entries[i].isSome = true)
        ∧ ∀ (i : Fin 48) (e : AlarmEntry), t.alarms.entries[i] = some e → e.code = code → e.subject ≠ .pallet q))

theorem exposureOutcome_same (s t : State) (q : Fin 256) (mark unposted : Bool) (code : AlarmCode) :
    exposureOutcome s t q mark mark unposted unposted code :=
  ⟨fun _ => rfl, fun h k => by rw [h] at k; cases k⟩

/-- The outcome of an alarm that falls due where its level is reached and its mark is clear, and is raised then. -/
theorem exposureOutcome_of_raise {s t : State} {q : Fin 256} {code : AlarmCode} {mark unposted due entered : Bool}
    (hdue : due = true → mark = false) (hnot : due = false → entered = true)
    (hshows : due = true → s.tableKept → entered = true → t.alarms.shows 1 s.clock code (.pallet q) (some (s.pallet q).tag)
      (some (BitVec.ofNat 16 (min ((t.pallet q).exposure / 960) 65535))))
    (hrefuses : due = true → s.tableKept → entered = false → t.alarms.refuses code (.pallet q)) :
    exposureOutcome s t q mark (mark || due) unposted (unposted || !entered) code := by
  cases due
  · rw [hnot rfl, Bool.or_false, Bool.not_true, Bool.or_false]
    exact exposureOutcome_same s t q mark unposted code
  · obtain rfl := hdue rfl
    refine ⟨nofun, fun _ _ hkept => ⟨fun hsame hun => ?_, fun hne => ?_⟩⟩
    · have hent : entered = true := by subst hun; simpa using hsame
      obtain ⟨i, e, -, h⟩ := hshows rfl hkept hent
      exact ⟨i, e, h⟩
    · cases entered
      · cases unposted
        · exact ⟨rfl, rfl, hrefuses rfl hkept rfl⟩
        · exact absurd rfl hne
      · exact absurd (by simp) hne

/-! ### The whole tick -/

/-- A pallet's record and alarms after a tick, from its turn in a state beside it. -/
theorem chargePallet_outcome {s s1 t : State} {q : Fin 256} (hbefore : ({ s with exposureDue := false } : State).besidePallet q s1)
    (hafter : (chargePallet q s1).besidePallet q t) :
    ({ t.pallet q with warnUnposted := false, exceedUnposted := false }
      = if (s.pallet q).live = true then
          { s.pallet q with
            exposure := s.chargedExposure (s.pallet q)
            warned := (s.pallet q).warned || decide ((s.classOf (s.pallet q)).warn * 960 ≤ s.chargedExposure (s.pallet q))
            overBudget := (s.pallet q).overBudget
              || decide ((s.classOf (s.pallet q)).budget * 960 ≤ s.chargedExposure (s.pallet q))
            warnUnposted := false, exceedUnposted := false }
        else { s.pallet q with warnUnposted := false, exceedUnposted := false })
    ∧ exposureOutcome s t q (s.pallet q).warned (t.pallet q).warned (s.pallet q).warnUnposted (t.pallet q).warnUnposted
      .exposureWarning
    ∧ exposureOutcome s t q (s.pallet q).overBudget (t.pallet q).overBudget (s.pallet q).exceedUnposted
      (t.pallet q).exceedUnposted .exposureExceeded := by
  obtain ⟨hframe, hpallet, ⟨-, hzero, -⟩, -⟩ := hbefore
  obtain ⟨-, hpallet', ⟨-, -, hwarning⟩, -, -, hexceeded⟩ := hafter
  have hframe' : s.frame exposureFields s1 := hframe
  have hpallet1 : s1.pallet q = s.pallet q := hpallet
  obtain ⟨-, hclass, hcharge, hclock⟩ := State.charge_congr hframe' (s.pallet q)
  cases hlive : (s.pallet q).live
  · have hself : chargePallet q s1 = s1 := by simp [chargePallet, hpallet1, hlive]
    rw [hself, hpallet1] at hpallet'
    rw [hpallet']
    exact ⟨by simp, exposureOutcome_same s t q _ _ _, exposureOutcome_same s t q _ _ _⟩
  · obtain ⟨hown, halarms⟩ := chargePallet_own q (s := s1) (by rw [hpallet1]; exact hlive)
    rw [hown, hpallet1, hcharge] at hpallet'
    have hexposure : (t.pallet q).exposure = s.chargedExposure (s.pallet q) := by rw [hpallet']
    have hzero1 : s.tableKept → s1.alarms.zeroKept := fun h => hzero (AlarmTable.zeroKept_of_kept h)
    have hraise1 : s1.afterWarning q = exposureRaise s.clock .exposureWarning q (s.pallet q).tag
        (s.chargedExposure (s.pallet q)) (s1.warns (s.pallet q)) s1.alarms := by
      rw [State.afterWarning, hpallet1, hcharge, hclock]
    have hraise2 : s1.afterExceeded q = exposureRaise s.clock .exposureExceeded q (s.pallet q).tag
        (s.chargedExposure (s.pallet q)) (s1.exceeds (s.pallet q)) (s1.afterWarning q).1 := by
      rw [State.afterExceeded, hpallet1, hcharge, hclock]
    have hwarning' : AlarmTable.spares 1 .exposureWarning (.pallet q) (s1.afterWarning q).1 t.alarms := by
      rw [halarms, hraise2] at hwarning
      exact AlarmTable.spares_trans (exposureRaise_spares (by decide) (by decide) _ _ _ _ _ _) hwarning
    rw [halarms] at hexceeded
    have hwarns : s1.warns (s.pallet q)
        = (decide ((s.classOf (s.pallet q)).warn * 960 ≤ s.chargedExposure (s.pallet q)) && !(s.pallet q).warned) := by
      rw [State.warns, hclass, hcharge]
    have hexceeds : s1.exceeds (s.pallet q)
        = (decide ((s.classOf (s.pallet q)).budget * 960 ≤ s.chargedExposure (s.pallet q)) && !(s.pallet q).overBudget) := by
      rw [State.exceeds, hclass, hcharge]
    refine ⟨?_, ?_, ?_⟩
    · rw [hpallet', if_pos rfl, hwarns, hexceeds]
      cases (s.pallet q).warned <;> cases (s.pallet q).overBudget <;> simp
    · have hmark : (t.pallet q).warned = ((s.pallet q).warned || s1.warns (s.pallet q)) := by rw [hpallet']
      have hunposted : (t.pallet q).warnUnposted = ((s.pallet q).warnUnposted || !(s1.afterWarning q).2) := by rw [hpallet']
      rw [hmark, hunposted]
      refine exposureOutcome_of_raise (fun h => ?_) (fun h => ?_) (fun h hkept hent => ?_) (fun h _ hent => ?_)
      · simp only [hwarns, Bool.and_eq_true, Bool.not_eq_true'] at h
        exact h.2
      · rw [hraise1, h, exposureRaise_not_due]
      · rw [hexposure]
        refine AlarmTable.spares_shows hwarning' ?_
        rw [hraise1, h] at hent ⊢
        exact AlarmTable.raise_shows rfl (.inr ⟨rfl, hzero1 hkept, by decide⟩) hent
      · refine hwarning'.2 ?_
        rw [hraise1, h] at hent ⊢
        exact AlarmTable.raise_refuses (by decide) hent
    · have hmark : (t.pallet q).overBudget = ((s.pallet q).overBudget || s1.exceeds (s.pallet q)) := by rw [hpallet']
      have hunposted : (t.pallet q).exceedUnposted = ((s.pallet q).exceedUnposted || !(s1.afterExceeded q).2) := by
        rw [hpallet']
      rw [hmark, hunposted]
      refine exposureOutcome_of_raise (fun h => ?_) (fun h => ?_) (fun h hkept hent => ?_) (fun h _ hent => ?_)
      · simp only [hexceeds, Bool.and_eq_true, Bool.not_eq_true'] at h
        exact h.2
      · rw [hraise2, h, exposureRaise_not_due]
      · rw [hexposure]
        refine AlarmTable.spares_shows hexceeded ?_
        have hzero2 : (s1.afterWarning q).1.zeroKept := by
          rw [hraise1]
          exact exposureRaise_zeroKept (hzero1 hkept) _ _ _ _ _ _
        rw [hraise2, h] at hent ⊢
        exact AlarmTable.raise_shows rfl (.inr ⟨rfl, hzero2, by decide⟩) hent
      · refine hexceeded.2 ?_
        rw [hraise2, h] at hent ⊢
        exact AlarmTable.raise_refuses (by decide) hent

/-- The location temperature written out (R62, R102, R103). -/
theorem State.placeTemp_eq (s : State) (p : Place) :
    let clamp := fun t : Int => max (-960) (min t 960)
    let lane := fun d : Fin 24 => clamp ((s.room (s.door d).dockRoom).filtered
      + match (s.door d).state with
        | .working => (s.door d).workPenalty
        | .breach => (s.door d).breachPenalty
        | _ => 0)
    s.placeTemp p = match p with
      | .room r => clamp (s.room r).filtered
      | .lane d => lane d
      | .trailer d => match (s.door d).trailerTemp with
        | some t => clamp t
        | none => lane d := by
  intro clamp lane
  have hlane : ∀ d, s.laneTemp d = lane d := fun d => by
    unfold State.laneTemp Door.penalty
    dsimp only [lane]
    cases (s.door d).state <;> rfl
  cases p with
  | room r => rfl
  | lane d => exact hlane d
  | trailer d =>
    unfold State.placeTemp
    dsimp only
    cases (s.door d).trailerTemp
    · exact hlane d
    · rfl

/-- Settles O32: each pallet's turn with the rest of the tick beside it, one pallet's turn as one update, and the location
temperature written out. -/
theorem exposureTickChargesPallets : Obligations.ExposureTickChargesPallets := by
  refine ⟨fun first s hmode hdue => ?_, fun q s hattn => ?_, fun s x => ?_⟩
  · have hexec : exec (.exposureTick first) s = .next (if first = true
        then forEach 256 chargePallet (accumulateAll { s with exposureDue := false })
        else accumulateAll (forEach 256 chargePallet { s with exposureDue := false })) := by
      simp only [exec, execExposureTick, tickExposure, hmode, hdue, and_self, if_true]
      rfl
    refine ⟨_, hexec, ?_, rfl, fun q => ?_, fun q => ?_⟩
    · have hcharge : ∀ u : State, (forEach 256 chargePallet u).exposureDue = u.exposureDue := fun u =>
        State.frame_exposureDue (chargePallets_frame u) (by decide)
      have hfrost : ∀ u : State, (accumulateAll u).exposureDue = u.exposureDue := fun u =>
        State.frame_exposureDue (accumulateAll_frame u) (by decide)
      split
      · rw [hcharge, hfrost]
      · rw [hfrost, hcharge]
    · obtain ⟨s1, hbefore, hafter⟩ := tickExposure_turn first s q
      exact (chargePallet_outcome hbefore hafter).1
    · obtain ⟨s1, hbefore, hafter⟩ := tickExposure_turn first s q
      exact (chargePallet_outcome hbefore hafter).2
  · intro x exposure detail warns exceeds first second
    split
    · next hlive =>
      have hfirst : first = s.afterWarning q := rfl
      have hsecond : second = s.afterExceeded q := rfl
      rw [hfirst, hsecond]
      exact chargePallet_eq q hattn hlive
    · next hfree => exact if_neg hfree
  · intro clamp lane place
    refine ⟨fun p hp => ?_, fun h o d hx hh ho hd => ?_⟩
    · rw [State.locationTemp, hp]
      exact s.placeTemp_eq p
    · have hmove : s.moveOf x = some (s.move h.slot) := by rw [State.moveOf, hh]; rfl
      rw [State.locationTemp, hx]
      simp only [hmove, State.endTemp, ho, hd, Option.map_some, Option.getD_some]
      exact congrArg₂ max (s.placeTemp_eq o) (s.placeTemp_eq d)

end Sys2Proof.Machine
end

section
/-! PROOFS. The exposure tick interval: SET EXPOSURE TICK (R4, R5) and where RUN uses it (R4, R104). -/

namespace Sys2Proof.Machine

set_option Elab.async false

/-! ### The phase at a second tick (R4) -/

/-- The phase after a second tick, from the mode, the phase and E before it (R4). -/
def phaseAfter (mode : Mode) (phase interval : Nat) : Nat :=
  if mode = .run then (if phase + 1 < interval then phase + 1 else 0) else phase

/-- Whether an exposure tick is due after a second tick (R4). -/
def dueAfter (mode : Mode) (phase interval : Nat) (due : Bool) : Bool :=
  due || decide (mode = .run ∧ interval ≤ phase + 1)

theorem advancePhase_phase (s : State) :
    (advancePhase s).phase = phaseAfter s.mode s.phase s.interval
      ∧ (advancePhase s).exposureDue = dueAfter s.mode s.phase s.interval s.exposureDue := by
  unfold advancePhase phaseAfter dueAfter
  cases s.mode
  · simp
  · dsimp only
    split
    · next h => simp [Nat.not_le.mpr h]
    · next h => simp [Nat.not_lt.mp h]

theorem ticked_frame (s : State) :
    s.frame [.clock, .rooms, .doors, .defrosts, .moves] (tickTimers { s with clock := s.clock + 1 }) := rfl

/-- The phase after the expiries of the ticks before (R4). -/
theorem retryAll_phase (order : List RetryBlock) (s : State) :
    (retryAll order (beforeRetries s)).phase = phaseAfter s.mode s.phase s.interval
      ∧ (retryAll order (beforeRetries s)).exposureDue = dueAfter s.mode s.phase s.interval s.exposureDue := by
  have hretry := retryAll_frame order (beforeRetries s)
  have hround := startRound_frame (advancePhase (tickTimers { s with clock := s.clock + 1 }))
  have hcount := ticked_frame s
  obtain ⟨hphase, hdue⟩ := advancePhase_phase (tickTimers { s with clock := s.clock + 1 })
  rw [State.frame_mode hcount (by decide), State.frame_phase hcount (by decide),
    State.frame_interval hcount (by decide)] at hphase hdue
  rw [State.frame_exposureDue hcount (by decide)] at hdue
  exact ⟨(State.frame_phase hretry (by decide)).trans ((State.frame_phase hround (by decide)).trans hphase),
    (State.frame_exposureDue hretry (by decide)).trans ((State.frame_exposureDue hround (by decide)).trans hdue)⟩

/-- The phase and the exposure tick that a second tick leaves (R4). -/
theorem tickSecond_phase (order : List RetryBlock) (s : State) :
    (tickSecond order s).phase = phaseAfter s.mode s.phase s.interval
      ∧ (tickSecond order s).exposureDue = dueAfter s.mode s.phase s.interval s.exposureDue := by
  have hsettled := settleTimers_frame s
  have h := retryAll_phase order (settleTimers s)
  rwa [State.frame_mode hsettled (by decide), State.frame_phase hsettled (by decide),
    State.frame_interval hsettled (by decide), State.frame_exposureDue hsettled (by decide)] at h

/-- In RUN the phase rises, and returns to 0 as an exposure tick falls due (R4). -/
theorem tickSecond_phase_run (order : List RetryBlock) {s : State} (h : s.mode = .run) :
    (tickSecond order s).phase = (if s.phase + 1 < s.interval then s.phase + 1 else 0)
      ∧ ((tickSecond order s).exposureDue = true ↔ s.exposureDue = true ∨ s.interval ≤ s.phase + 1) := by
  obtain ⟨hphase, hdue⟩ := tickSecond_phase order s
  rw [hphase, hdue, h]
  exact ⟨if_pos rfl, by simp [dueAfter]⟩

theorem tickSecond_interval (order : List RetryBlock) (s : State) : (tickSecond order s).interval = s.interval := by
  rw [tickSecond_eq, State.frame_interval (retryAll_frame order _) (by decide),
    State.frame_interval (beforeRetries_frame _) (by decide), State.frame_interval (settleTimers_frame s) (by decide)]

/-! ### The charge of a tick that is due (R104) -/

/-- Every live pallet is charged its excess times E at an exposure tick (R104). -/
theorem tickExposure_exposure (first : Bool) {s : State} (hmode : s.mode = .run) (hdue : s.exposureDue = true) :
    ∃ t, exec (.exposureTick first) s = .next t ∧ t.interval = s.interval
      ∧ ∀ q : Fin 256, (s.pallet q).live = true → (t.pallet q).exposure = s.chargedExposure (s.pallet q) := by
  obtain ⟨t, hexec, -, ht, -⟩ := exposureTickChargesPallets.1 first s hmode hdue
  refine ⟨t, hexec, ?_, fun q hlive => ?_⟩
  · have hcharge : ∀ u : State, (forEach 256 chargePallet u).interval = u.interval := fun u =>
      State.frame_interval (chargePallets_frame u) (by decide)
    have hfrost : ∀ u : State, (accumulateAll u).interval = u.interval := fun u =>
      State.frame_interval (accumulateAll_frame u) (by decide)
    rw [ht]
    split
    · rw [hcharge, hfrost]
    · rw [hfrost, hcharge]
  · obtain ⟨s1, hbefore, hafter⟩ := tickExposure_turn first s q
    rw [← ht] at hafter
    have h := (chargePallet_outcome hbefore hafter).1
    rw [if_pos hlive] at h
    have := congrArg Pallet.exposure h
    exact this

/-- Settles O53: the request by its operation and its row, the phase and the charge by what each tick does with E. -/
theorem setExposureTickStoresTheInterval : Obligations.SetExposureTickStoresTheInterval := by
  intro tag e s h f
  have hset : ∀ {p}, s.takes p ⟨some .movement, .untilComplete, .wrongMode,
      fun | [interval] => some (.setExposureTick interval) | _ => none⟩ = true ↔ s.mode = .setup ∧ (s.port p).setupComplete = false :=
    fun {p} => s.takes_structural p rfl rfl
  refine ⟨fun hmode hflag => ?_, fun hno => ?_, State.frame_interval (enterRun_frame s) (by decide), fun hmode => ⟨fun order => ?_,
    fun hdue first => ?_⟩⟩
  · have hperform := requestArrives_performs h tag (r := .setExposureTick e) rfl (.inr rfl) (hset.mpr ⟨hmode, hflag⟩)
    refine ⟨fun h1 h60 => congrArg _ (hperform.trans (congrArg _ ?_)), fun hbad => congrArg _ (hperform.trans (congrArg _ ?_))⟩
    · exact if_pos ⟨h1, h60⟩
    · exact if_neg (by omega)
  · refine congrArg _ (requestArrives_wrongMode h tag (r := .setExposureTick e) rfl (.inr rfl) ?_)
    refine Bool.eq_false_iff.mpr fun htakes => ?_
    obtain ⟨hsetup, hflag⟩ := hset.mp htakes
    obtain hrun | hset := hno
    · rw [hsetup] at hrun; cases hrun
    · rw [hflag] at hset; cases hset
  · obtain ⟨hphase, hdue⟩ := tickSecond_phase_run order hmode
    exact ⟨_, rfl, tickSecond_interval order s, hphase, hdue⟩
  · exact tickExposure_exposure first hmode hdue

end Sys2Proof.Machine
end

section
/-! PROOFS. The retries of a second tick (R148), told as one list of raises over the table and the unposted marks. -/

namespace Sys2Proof.Machine

set_option Elab.async false

/-! ### Unposted marks -/

/-- An unposted mark, by the condition whose raise was not entered. -/
inductive RetryMark
  | probe (c : Fin 32)
  | roomHigh (r : Fin 8)
  | roomLost (r : Fin 8)
  | roomLow (r : Fin 8)
  | doorBreach (d : Fin 24)
  | doorFault (d : Fin 24)
  | overrun (r : Fin 8)
  | forced (r : Fin 8)
  | frostDue (r : Fin 8)
  | warning (q : Fin 256)
  | exceeded (q : Fin 256)
  | overdue (m : Fin 32)
  | journalHigh
deriving DecidableEq

def RetryMark.code : RetryMark → AlarmCode
  | .probe _ => .probeFault
  | .roomHigh _ => .roomHigh
  | .roomLost _ => .roomProbesLost
  | .roomLow _ => .roomLow
  | .doorBreach _ => .doorBreach
  | .doorFault _ => .doorFault
  | .overrun _ => .defrostOverrun
  | .forced _ => .defrostForced
  | .frostDue _ => .frostDue
  | .warning _ => .exposureWarning
  | .exceeded _ => .exposureExceeded
  | .overdue _ => .moveOverdue
  | .journalHigh => .journalHigh

def RetryMark.subject : RetryMark → Subject
  | .probe c => .probe c
  | .roomHigh r | .roomLost r | .roomLow r | .overrun r | .forced r | .frostDue r => .room r
  | .doorBreach d | .doorFault d => .door d
  | .warning q | .exceeded q => .pallet q
  | .overdue m => .move m
  | .journalHigh => .none

/-- The mark of a code and subject. -/
def RetryMark.ofPair : AlarmCode → Subject → Option RetryMark
  | .probeFault, .probe c => some (.probe c)
  | .roomHigh, .room r => some (.roomHigh r)
  | .roomProbesLost, .room r => some (.roomLost r)
  | .roomLow, .room r => some (.roomLow r)
  | .doorBreach, .door d => some (.doorBreach d)
  | .doorFault, .door d => some (.doorFault d)
  | .defrostOverrun, .room r => some (.overrun r)
  | .defrostForced, .room r => some (.forced r)
  | .frostDue, .room r => some (.frostDue r)
  | .exposureWarning, .pallet q => some (.warning q)
  | .exposureExceeded, .pallet q => some (.exceeded q)
  | .moveOverdue, .move m => some (.overdue m)
  | .journalHigh, .none => some .journalHigh
  | _, _ => none

theorem RetryMark.ofPair_eq (x : RetryMark) : RetryMark.ofPair x.code x.subject = some x := by cases x <;> rfl

/-- Two marks are of different pairs of code and subject. -/
theorem RetryMark.pair_ne {x y : RetryMark} (h : x ≠ y) (hc : x.code = y.code) : x.subject ≠ y.subject := by
  intro hs
  have := x.ofPair_eq
  rw [hc, hs, y.ofPair_eq] at this
  exact h (Option.some.inj this).symm

theorem RetryMark.code_condition (x : RetryMark) : x.code.isNotice = false := by cases x <;> rfl

theorem RetryMark.code_ne_tableFull (x : RetryMark) : x.code ≠ .tableFull := by cases x <;> exact nofun

def State.marked (s : State) : RetryMark → Bool
  | .probe c => (s.channel c).unposted
  | .roomHigh r => (s.room r).highUnposted
  | .roomLost r => (s.room r).lostUnposted
  | .roomLow r => (s.room r).lowUnposted
  | .doorBreach d => (s.door d).breachUnposted
  | .doorFault d => (s.door d).faultUnposted
  | .overrun r => (s.defrost r).overrunUnposted
  | .forced r => (s.defrost r).forcedUnposted
  | .frostDue r => (s.defrost r).dueUnposted
  | .warning q => (s.pallet q).warnUnposted
  | .exceeded q => (s.pallet q).exceedUnposted
  | .overdue m => (s.move m).overdueUnposted
  | .journalHigh => s.journal.highUnposted

/-- Whether the condition of a mark stands. -/
def State.stands (s : State) : RetryMark → Bool
  | .probe c => decide ((s.channel c).state ≠ .ok)
  | .doorBreach d => decide ((s.door d).state = .breach)
  | .doorFault d => decide ((s.door d).state = .fault)
  | .overrun r => (s.defrost r).overrunFlag
  | .forced r => (s.defrost r).forcedFlag
  | .frostDue r => (s.defrost r).dueFlag
  | .overdue m => decide ((s.move m).state = .inTransit) && (s.move m).overdueFlag
  | .journalHigh => decide (s.journal.threshold ≤ s.journal.held)
  | .roomHigh _ | .roomLost _ | .roomLow _ | .warning _ | .exceeded _ => true

def State.tagOf (s : State) : RetryMark → Option Word32
  | .warning q | .exceeded q => some (s.pallet q).tag
  | _ => none

def State.detailOf (s : State) : RetryMark → Option Word16
  | .probe c => detailNat (s.channel c).state.place
  | .roomHigh r | .roomLow r => detailTemp (s.room r).filtered
  | .roomLost _ | .doorBreach _ | .overrun _ => none
  | .doorFault d => detailNat (s.door d).faultCause.place
  | .forced r | .frostDue r => detailNat (s.defrost r).frostIndex
  | .warning q | .exceeded q => exposureDetail (s.pallet q)
  | .overdue m => detailHandle (s.handleAt m)
  | .journalHigh => detailNat s.journal.held

def State.clearMark (s : State) : RetryMark → State
  | .probe c => s.modifyChannel c fun x => { x with unposted := false }
  | .roomHigh r => s.modifyRoom r fun x => { x with highUnposted := false }
  | .roomLost r => s.modifyRoom r fun x => { x with lostUnposted := false }
  | .roomLow r => s.modifyRoom r fun x => { x with lowUnposted := false }
  | .doorBreach d => s.modifyDoor d fun x => { x with breachUnposted := false }
  | .doorFault d => s.modifyDoor d fun x => { x with faultUnposted := false }
  | .overrun r => s.modifyDefrost r fun x => { x with overrunUnposted := false }
  | .forced r => s.modifyDefrost r fun x => { x with forcedUnposted := false }
  | .frostDue r => s.modifyDefrost r fun x => { x with dueUnposted := false }
  | .warning q => s.modifyPallet q fun x => { x with warnUnposted := false }
  | .exceeded q => s.modifyPallet q fun x => { x with exceedUnposted := false }
  | .overdue m => s.modifyMove m fun x => { x with overdueUnposted := false }
  | .journalHigh => s.setJournal { s.journal with highUnposted := false }

/-- The retry of one mark: its raise where it is set and its condition stands (R148). -/
def retryMark (s : State) (x : RetryMark) : State :=
  if s.marked x = true ∧ s.stands x = true then
    s.retryCondition x.code x.subject (s.tagOf x) (s.detailOf x) fun s => s.clearMark x
  else s

/-- The marks of a block, in the order of its rule. -/
def blockMarks : RetryBlock → List RetryMark
  | .probes => (List.finRange 32).flatMap fun c => [.probe c]
  | .rooms => (List.finRange 8).flatMap fun r => [.roomHigh r, .roomLost r, .roomLow r]
  | .doors => (List.finRange 24).flatMap fun d => [.doorBreach d, .doorFault d]
  | .defrost => (List.finRange 8).flatMap fun r => [.overrun r, .forced r, .frostDue r]
  | .pallets => (List.finRange 256).flatMap fun q => [.warning q, .exceeded q]
  | .moves => (List.finRange 32).flatMap fun m => [.overdue m]
  | .journal => [.journalHigh]

/-! ### The retries as one list -/

theorem forEach_eq_flatMap {σ α : Type} {n : Nat} {f : Fin n → σ → σ} {g : σ → α → σ} {l : Fin n → List α}
    (h : ∀ i s, f i s = (l i).foldl g s) (s : σ) : forEach n f s = ((List.finRange n).flatMap l).foldl g s := by
  rw [List.foldl_flatMap, forEach]
  congr
  funext s i
  exact h i s

theorem retryProbe_eq (c : Fin 32) (s : State) : retryProbe c s = retryMark s (.probe c) := by
  simp [retryProbe, retryMark, State.marked, State.stands, State.tagOf, State.detailOf, RetryMark.code, RetryMark.subject,
    State.clearMark]

/-- A mark whose condition always stands is retried where it is set. -/
theorem retryMark_of_stands {x : RetryMark} (h : ∀ s : State, s.stands x = true) (s : State) :
    retryMark s x = if s.marked x = true then
      s.retryCondition x.code x.subject (s.tagOf x) (s.detailOf x) fun s => s.clearMark x else s := by
  simp [retryMark, h]

theorem retryHigh_eq (r : Fin 8) (s : State) : retryHigh r s = retryMark s (.roomHigh r) :=
  (retryMark_of_stands (x := .roomHigh r) (fun _ => rfl) s).symm

theorem retryLost_eq (r : Fin 8) (s : State) : retryLost r s = retryMark s (.roomLost r) :=
  (retryMark_of_stands (x := .roomLost r) (fun _ => rfl) s).symm

theorem retryLow_eq (r : Fin 8) (s : State) : retryLow r s = retryMark s (.roomLow r) :=
  (retryMark_of_stands (x := .roomLow r) (fun _ => rfl) s).symm

theorem retryMove_eq (m : Fin 32) (s : State) : retryMove m s = retryMark s (.overdue m) := by
  simp [retryMove, retryMark, State.marked, State.stands, State.tagOf, State.detailOf, RetryMark.code, RetryMark.subject,
    State.clearMark]

theorem retryJournal_eq (s : State) : retryJournal s = retryMark s .journalHigh := by
  simp [retryJournal, retryMark, State.marked, State.stands, State.tagOf, State.detailOf, RetryMark.code, RetryMark.subject,
    State.clearMark]

theorem retryDefrostRoom_eq (r : Fin 8) (s : State) :
    retryDefrostRoom r s = [RetryMark.overrun r, .forced r, .frostDue r].foldl retryMark s := rfl

theorem retryPallet_eq (q : Fin 256) (s : State) :
    retryPallet q s = [RetryMark.warning q, .exceeded q].foldl retryMark s := by
  simp only [List.foldl_cons, List.foldl_nil, retryMark_of_stands (x := .warning q) fun _ => rfl,
    retryMark_of_stands (x := .exceeded q) fun _ => rfl]
  rfl

/-- A door is in one state at a time, so one of its two raises at most is retried (R64). -/
theorem retryDoor_eq (d : Fin 24) (s : State) :
    retryDoor d s = [RetryMark.doorBreach d, .doorFault d].foldl retryMark s := by
  have hbreach : ∀ (t : State) (detail : Option Word16), (t.door d).state = .breach →
      ((t.retryCondition .doorBreach (.door d) none detail fun s => s.clearMark (.doorBreach d)).door d).state = .breach := by
    intro t detail h
    rw [State.retryCondition_eq]
    split
    · simp [State.clearMark, State.modifyDoor, h, Door.driven]
    · exact h
  simp only [List.foldl_cons, List.foldl_nil]
  by_cases h : (s.door d).state = .breach ∧ (s.door d).breachUnposted = true
  · have hfirst : retryMark s (.doorBreach d)
        = s.retryCondition .doorBreach (.door d) none none fun s => s.clearMark (.doorBreach d) :=
      if_pos ⟨h.2, decide_eq_true h.1⟩
    have hsecond : retryMark (retryMark s (.doorBreach d)) (.doorFault d) = retryMark s (.doorBreach d) := by
      refine if_neg fun hfault => ?_
      have hstate := of_decide_eq_true hfault.2
      rw [hfirst, hbreach s none h.1] at hstate
      cases hstate
    rw [hsecond, hfirst]
    exact if_pos h
  · have hfirst : retryMark s (.doorBreach d) = s := if_neg fun hm => h ⟨of_decide_eq_true hm.2, hm.1⟩
    rw [hfirst]
    refine (if_neg h).trans ?_
    simp [retryMark, State.marked, State.stands, State.tagOf, State.detailOf, RetryMark.code, RetryMark.subject,
      State.clearMark, and_comm]

/-- A block's retries are those of its marks, one after the other. -/
theorem retryBlock_eq (b : RetryBlock) (s : State) : retryBlock b s = (blockMarks b).foldl retryMark s := by
  cases b with
  | probes => exact forEach_eq_flatMap retryProbe_eq s
  | rooms => exact forEach_eq_flatMap (fun r s => by rw [retryHigh_eq, retryLost_eq, retryLow_eq]; rfl) s
  | doors => exact forEach_eq_flatMap retryDoor_eq s
  | defrost => exact forEach_eq_flatMap retryDefrostRoom_eq s
  | pallets => exact forEach_eq_flatMap retryPallet_eq s
  | moves => exact forEach_eq_flatMap retryMove_eq s
  | journal => exact retryJournal_eq s

/-- The marks of every block, in the order of a second tick. -/
def retryList (order : List RetryBlock) : List RetryMark := (retryOrder order).flatMap blockMarks

theorem retryAll_eq (order : List RetryBlock) (s : State) : retryAll order s = (retryList order).foldl retryMark s := by
  rw [retryAll, retryList, List.foldl_flatMap]
  congr
  funext s b
  exact retryBlock_eq b s

/-! ### Each block once, and each mark once (log entry 3) -/

theorem mem_keepFirst {b : RetryBlock} {l : List RetryBlock} : b ∈ keepFirst l ↔ b ∈ l := by
  induction l with
  | nil => rfl
  | cons a l ih => by_cases h : b = a <;> simp [keepFirst, ih, h]

theorem nodup_keepFirst (l : List RetryBlock) : (keepFirst l).Nodup := by
  induction l with
  | nil => exact List.nodup_nil
  | cons a l ih => exact List.nodup_cons.mpr ⟨by simp, ih.filter _⟩

theorem keepFirst_eq {l : List RetryBlock} (h : l.Nodup) : keepFirst l = l := by
  induction l with
  | nil => rfl
  | cons a l ih =>
    obtain ⟨hnot, hl⟩ := List.nodup_cons.mp h
    rw [keepFirst, ih hl, List.filter_eq_self.mpr]
    intro b hb
    simp only [bne_iff_ne]
    rintro rfl
    exact hnot hb

theorem nodup_retryOrder (order : List RetryBlock) : (retryOrder order).Nodup := by
  refine List.Nodup.append (nodup_keepFirst order) (List.Nodup.filter _ (by decide)) fun b hb hb' => ?_
  simp only [List.mem_filter, Bool.not_eq_true', List.contains_eq_mem, decide_eq_false_iff_not] at hb'
  exact hb'.2 (mem_keepFirst.mp hb)

theorem mem_retryOrder (order : List RetryBlock) (b : RetryBlock) : b ∈ retryOrder order := by
  by_cases h : b ∈ order
  · exact List.mem_append_left _ (mem_keepFirst.mpr h)
  · refine List.mem_append_right _ (List.mem_filter.mpr ⟨?_, by simpa using h⟩)
    cases b <;> decide

/-- The block of a mark. -/
def RetryMark.block : RetryMark → RetryBlock
  | .probe _ => .probes
  | .roomHigh _ | .roomLost _ | .roomLow _ => .rooms
  | .doorBreach _ | .doorFault _ => .doors
  | .overrun _ | .forced _ | .frostDue _ => .defrost
  | .warning _ | .exceeded _ => .pallets
  | .overdue _ => .moves
  | .journalHigh => .journal

theorem RetryMark.mem_block (x : RetryMark) : x ∈ blockMarks x.block := by
  cases x <;> simp [block, blockMarks]

theorem RetryMark.block_of_mem {x : RetryMark} {b : RetryBlock} (h : x ∈ blockMarks b) : x.block = b := by
  cases b with
  | probes => obtain ⟨c, rfl⟩ : ∃ c, x = .probe c := by simpa [blockMarks] using h
              rfl
  | rooms => obtain ⟨r, rfl | rfl | rfl⟩ : ∃ r, x = .roomHigh r ∨ x = .roomLost r ∨ x = .roomLow r := by
              simpa [blockMarks] using h
             all_goals rfl
  | doors => obtain ⟨d, rfl | rfl⟩ : ∃ d, x = .doorBreach d ∨ x = .doorFault d := by simpa [blockMarks] using h
             all_goals rfl
  | defrost => obtain ⟨r, rfl | rfl | rfl⟩ : ∃ r, x = .overrun r ∨ x = .forced r ∨ x = .frostDue r := by
                simpa [blockMarks] using h
               all_goals rfl
  | pallets => obtain ⟨q, rfl | rfl⟩ : ∃ q, x = .warning q ∨ x = .exceeded q := by simpa [blockMarks] using h
               all_goals rfl
  | moves => obtain ⟨m, rfl⟩ : ∃ m, x = .overdue m := by simpa [blockMarks] using h
             rfl
  | journal => obtain rfl : x = .journalHigh := by simpa [blockMarks] using h
               rfl

theorem nodup_blockMarks (b : RetryBlock) : (blockMarks b).Nodup := by
  have hfin : ∀ {n : Nat} {f : Fin n → List RetryMark}, (∀ i, (f i).Nodup) → (∀ i j, i ≠ j → (f i).Disjoint (f j)) →
      ((List.finRange n).flatMap f).Nodup := fun h hd =>
    List.nodup_flatMap.mpr ⟨fun i _ => h i, (List.nodup_finRange _).imp fun hij => hd _ _ hij⟩
  cases b
  case journal => exact List.nodup_singleton _
  all_goals exact hfin (fun i => by simp) fun i j hij => by simp [List.Disjoint, hij]

theorem nodup_retryList (order : List RetryBlock) : (retryList order).Nodup :=
  List.nodup_flatMap.mpr ⟨fun b _ => nodup_blockMarks b, (nodup_retryOrder order).imp fun hne _ hx hx' =>
    hne ((RetryMark.block_of_mem hx).symm.trans (RetryMark.block_of_mem hx'))⟩

theorem mem_retryList (order : List RetryBlock) (x : RetryMark) : x ∈ retryList order :=
  List.mem_flatMap.mpr ⟨x.block, mem_retryOrder order _, x.mem_block⟩

end Sys2Proof.Machine
end

section
/-! PROOFS. The retries of a second tick over what they can change: the unposted marks, the table and the outputs driven again. -/

namespace Sys2Proof.Machine

set_option Elab.async false

/-! ### What retries can change -/

/-- The unposted marks, the doors whose outputs were driven again, and the table with its ATTN lines. -/
structure Posting where
  marks : RetryMark → Bool
  redriven : Fin 24 → Bool
  alarms : AlarmTable
  attn : PerPort Bool

def State.posting (s : State) : Posting := ⟨s.marked, fun _ => false, s.alarms, s.attn⟩

def Posting.channel (p : Posting) (c : Fin 32) (x : Channel) : Channel := { x with unposted := p.marks (.probe c) }

def Posting.room (p : Posting) (r : Fin 8) (x : Room) : Room :=
  { x with
    highUnposted := p.marks (.roomHigh r), lostUnposted := p.marks (.roomLost r), lowUnposted := p.marks (.roomLow r) }

def Posting.door (p : Posting) (lines : LineSettings) (d : Fin 24) (x : Door) : Door :=
  let y : Door := { x with breachUnposted := p.marks (.doorBreach d), faultUnposted := p.marks (.doorFault d) }
  if p.redriven d = true then y.driven lines else y

def Posting.defrost (p : Posting) (r : Fin 8) (x : Defrost) : Defrost :=
  { x with
    overrunUnposted := p.marks (.overrun r), forcedUnposted := p.marks (.forced r), dueUnposted := p.marks (.frostDue r) }

def Posting.pallet (p : Posting) (q : Fin 256) (x : Pallet) : Pallet :=
  { x with warnUnposted := p.marks (.warning q), exceedUnposted := p.marks (.exceeded q) }

def Posting.move (p : Posting) (m : Fin 32) (x : Move) : Move := { x with overdueUnposted := p.marks (.overdue m) }

/-- The table of a record for every index; irreducible, so that no comparison of two states computes it. -/
@[irreducible] def tableOf {α : Type} {n : Nat} (f : Fin n → α) : Vector α n := .ofFn f

theorem getElem_tableOf {α : Type} {n : Nat} (f : Fin n → α) (i : Fin n) : (tableOf f)[i] = f i := by simp [tableOf]

theorem tableOf_eq_self {α : Type} {n : Nat} (v : Vector α n) : tableOf (fun i : Fin n => v[i]) = v :=
  Vector.ext fun i h => by simp [tableOf]

/-- One index of a table written. -/
theorem set_tableOf {α : Type} {n : Nat} {f g : Fin n → α} {i : Fin n} {x : α} (hself : g i = x)
    (hother : ∀ j, j ≠ i → g j = f j) : (tableOf f).set i x = tableOf g := by
  refine Vector.ext fun j hj => ?_
  have hget : ∀ h : Fin n → α, (tableOf h)[j] = h ⟨j, hj⟩ := fun h => getElem_tableOf h ⟨j, hj⟩
  rw [Vector.getElem_set, hget, hget]
  split
  · next h => subst h; exact hself.symm
  · next h => exact (hother ⟨j, hj⟩ fun h' => h (congrArg Fin.val h').symm).symm

/-- A state with the marks, outputs and table of a posting. -/
def State.withPosting (s : State) (p : Posting) : State :=
  { s with
    channels := tableOf fun c => p.channel c (s.channel c)
    rooms := tableOf fun r => p.room r (s.room r)
    doors := tableOf fun d => p.door s.lines d (s.door d)
    defrosts := tableOf fun r => p.defrost r (s.defrost r)
    pallets := tableOf fun q => p.pallet q (s.pallet q)
    moves := tableOf fun m => p.move m (s.move m)
    journal := { s.journal with highUnposted := p.marks .journalHigh }
    alarms := p.alarms
    attn := p.attn }

theorem State.withPosting_posting (s : State) : s.withPosting s.posting = s := by
  have hchannels : (tableOf fun c => s.posting.channel c (s.channel c)) = s.channels := tableOf_eq_self s.channels
  have hrooms : (tableOf fun r => s.posting.room r (s.room r)) = s.rooms := tableOf_eq_self s.rooms
  have hdoors : (tableOf fun d => s.posting.door s.lines d (s.door d)) = s.doors := tableOf_eq_self s.doors
  have hdefrosts : (tableOf fun r => s.posting.defrost r (s.defrost r)) = s.defrosts := tableOf_eq_self s.defrosts
  have hpallets : (tableOf fun q => s.posting.pallet q (s.pallet q)) = s.pallets := tableOf_eq_self s.pallets
  have hmoves : (tableOf fun m => s.posting.move m (s.move m)) = s.moves := tableOf_eq_self s.moves
  rw [State.withPosting, hchannels, hrooms, hdoors, hdefrosts, hpallets, hmoves]
  rfl

@[simp] theorem State.withPosting_channel (s : State) (p : Posting) (c : Fin 32) :
    (s.withPosting p).channel c = p.channel c (s.channel c) := getElem_tableOf _ _

@[simp] theorem State.withPosting_room (s : State) (p : Posting) (r : Fin 8) :
    (s.withPosting p).room r = p.room r (s.room r) := getElem_tableOf _ _

@[simp] theorem State.withPosting_door (s : State) (p : Posting) (d : Fin 24) :
    (s.withPosting p).door d = p.door s.lines d (s.door d) := getElem_tableOf _ _

@[simp] theorem State.withPosting_defrost (s : State) (p : Posting) (r : Fin 8) :
    (s.withPosting p).defrost r = p.defrost r (s.defrost r) := getElem_tableOf _ _

@[simp] theorem State.withPosting_pallet (s : State) (p : Posting) (q : Fin 256) :
    (s.withPosting p).pallet q = p.pallet q (s.pallet q) := getElem_tableOf _ _

@[simp] theorem State.withPosting_move (s : State) (p : Posting) (m : Fin 32) :
    (s.withPosting p).move m = p.move m (s.move m) := getElem_tableOf _ _

@[simp] theorem State.withPosting_lines (s : State) (p : Posting) : (s.withPosting p).lines = s.lines := rfl

/-! ### A mark cleared -/

/-- A mark cleared; a door's outputs are driven again with it. -/
def Posting.clear (p : Posting) (x : RetryMark) : Posting :=
  { p with
    marks := Function.update p.marks x false
    redriven := match x with
      | .doorBreach d | .doorFault d => Function.update p.redriven d true
      | _ => p.redriven }

theorem Posting.clear_marks (p : Posting) {x y : RetryMark} (h : y.block ≠ x.block) : (p.clear x).marks y = p.marks y :=
  Function.update_of_ne (fun e => h (congrArg RetryMark.block e)) _ _

theorem Posting.clear_channel (p : Posting) {x : RetryMark} (h : .probes ≠ x.block) : (p.clear x).channel = p.channel := by
  funext c y
  simp only [Posting.channel, p.clear_marks (y := .probe c) h]

theorem Posting.clear_room (p : Posting) {x : RetryMark} (h : .rooms ≠ x.block) : (p.clear x).room = p.room := by
  funext r y
  simp only [Posting.room, p.clear_marks (y := .roomHigh r) h, p.clear_marks (y := .roomLost r) h, p.clear_marks (y := .roomLow r) h]

theorem Posting.clear_defrost (p : Posting) {x : RetryMark} (h : .defrost ≠ x.block) : (p.clear x).defrost = p.defrost := by
  funext r y
  simp only [Posting.defrost, p.clear_marks (y := .overrun r) h, p.clear_marks (y := .forced r) h, p.clear_marks (y := .frostDue r) h]

theorem Posting.clear_pallet (p : Posting) {x : RetryMark} (h : .pallets ≠ x.block) : (p.clear x).pallet = p.pallet := by
  funext q y
  simp only [Posting.pallet, p.clear_marks (y := .warning q) h, p.clear_marks (y := .exceeded q) h]

theorem Posting.clear_move (p : Posting) {x : RetryMark} (h : .moves ≠ x.block) : (p.clear x).move = p.move := by
  funext m y
  simp only [Posting.move, p.clear_marks (y := .overdue m) h]

theorem Posting.clear_redriven (p : Posting) {x : RetryMark} (h : .doors ≠ x.block) : (p.clear x).redriven = p.redriven := by
  cases x
  case doorBreach => exact absurd rfl h
  case doorFault => exact absurd rfl h
  all_goals rfl

theorem Posting.clear_door (p : Posting) {x : RetryMark} (h : .doors ≠ x.block) : (p.clear x).door = p.door := by
  funext lines d y
  simp only [Posting.door, p.clear_redriven h, p.clear_marks (y := .doorBreach d) h, p.clear_marks (y := .doorFault d) h]

theorem Posting.clear_journal (p : Posting) {x : RetryMark} (h : .journal ≠ x.block) :
    (p.clear x).marks .journalHigh = p.marks .journalHigh := p.clear_marks h

/-- A mark cleared reaches the records of its block alone. -/
theorem State.withPosting_clear (s : State) (p : Posting) (x : RetryMark) :
    let t := s.withPosting (p.clear x)
    t = match x.block with
      | .probes => { s.withPosting p with channels := t.channels }
      | .rooms => { s.withPosting p with rooms := t.rooms }
      | .doors => { s.withPosting p with doors := t.doors }
      | .defrost => { s.withPosting p with defrosts := t.defrosts }
      | .pallets => { s.withPosting p with pallets := t.pallets }
      | .moves => { s.withPosting p with moves := t.moves }
      | .journal => { s.withPosting p with journal := t.journal } := by
  cases h : x.block <;>
    simp [State.withPosting, Posting.clear_channel, Posting.clear_room, Posting.clear_door, Posting.clear_defrost,
      Posting.clear_pallet, Posting.clear_move, Posting.clear_journal, h] <;> exact ⟨rfl, rfl⟩

theorem State.clearMark_withPosting (s : State) (p : Posting) (x : RetryMark) :
    (s.withPosting p).clearMark x = s.withPosting (p.clear x) := by
  cases x with
  | probe c =>
    refine (congrArg (fun v => { s.withPosting p with channels := v }) (set_tableOf ?_ ?_)).trans
      (s.withPosting_clear p (.probe c)).symm
    · simp [Posting.channel, Posting.clear]
    · intro j hj
      simp [Posting.channel, Posting.clear, hj]
  | roomHigh r =>
    refine (congrArg (fun v => { s.withPosting p with rooms := v }) (set_tableOf ?_ ?_)).trans
      (s.withPosting_clear p (.roomHigh r)).symm
    · simp [Posting.room, Posting.clear]
    · intro j hj
      simp [Posting.room, Posting.clear, hj]
  | roomLost r =>
    refine (congrArg (fun v => { s.withPosting p with rooms := v }) (set_tableOf ?_ ?_)).trans
      (s.withPosting_clear p (.roomLost r)).symm
    · simp [Posting.room, Posting.clear]
    · intro j hj
      simp [Posting.room, Posting.clear, hj]
  | roomLow r =>
    refine (congrArg (fun v => { s.withPosting p with rooms := v }) (set_tableOf ?_ ?_)).trans
      (s.withPosting_clear p (.roomLow r)).symm
    · simp [Posting.room, Posting.clear]
    · intro j hj
      simp [Posting.room, Posting.clear, hj]
  | doorBreach d =>
    refine (congrArg (fun v => { s.withPosting p with doors := v }) (set_tableOf ?_ ?_)).trans
      (s.withPosting_clear p (.doorBreach d)).symm
    · by_cases hdriven : p.redriven d = true <;> simp [Posting.door, Posting.clear, Door.driven, hdriven]
    · intro j hj
      simp [Posting.door, Posting.clear, hj]
  | doorFault d =>
    refine (congrArg (fun v => { s.withPosting p with doors := v }) (set_tableOf ?_ ?_)).trans
      (s.withPosting_clear p (.doorFault d)).symm
    · by_cases hdriven : p.redriven d = true <;> simp [Posting.door, Posting.clear, Door.driven, hdriven]
    · intro j hj
      simp [Posting.door, Posting.clear, hj]
  | overrun r =>
    refine (congrArg (fun v => { s.withPosting p with defrosts := v }) (set_tableOf ?_ ?_)).trans
      (s.withPosting_clear p (.overrun r)).symm
    · simp [Posting.defrost, Posting.clear]
    · intro j hj
      simp [Posting.defrost, Posting.clear, hj]
  | forced r =>
    refine (congrArg (fun v => { s.withPosting p with defrosts := v }) (set_tableOf ?_ ?_)).trans
      (s.withPosting_clear p (.forced r)).symm
    · simp [Posting.defrost, Posting.clear]
    · intro j hj
      simp [Posting.defrost, Posting.clear, hj]
  | frostDue r =>
    refine (congrArg (fun v => { s.withPosting p with defrosts := v }) (set_tableOf ?_ ?_)).trans
      (s.withPosting_clear p (.frostDue r)).symm
    · simp [Posting.defrost, Posting.clear]
    · intro j hj
      simp [Posting.defrost, Posting.clear, hj]
  | warning q =>
    refine (congrArg (fun v => { s.withPosting p with pallets := v }) (set_tableOf ?_ ?_)).trans
      (s.withPosting_clear p (.warning q)).symm
    · simp [Posting.pallet, Posting.clear]
    · intro j hj
      simp [Posting.pallet, Posting.clear, hj]
  | exceeded q =>
    refine (congrArg (fun v => { s.withPosting p with pallets := v }) (set_tableOf ?_ ?_)).trans
      (s.withPosting_clear p (.exceeded q)).symm
    · simp [Posting.pallet, Posting.clear]
    · intro j hj
      simp [Posting.pallet, Posting.clear, hj]
  | overdue m =>
    refine (congrArg (fun v => { s.withPosting p with moves := v }) (set_tableOf ?_ ?_)).trans
      (s.withPosting_clear p (.overdue m)).symm
    · simp [Posting.move, Posting.clear]
    · intro j hj
      simp [Posting.move, Posting.clear, hj]
  | journalHigh => exact (s.withPosting_clear p .journalHigh).symm

/-! ### A retry over a posting -/

/-- The raise of a mark, over a table. -/
def State.retryRaise (s : State) (t : AlarmTable) (x : RetryMark) : AlarmTable × Bool :=
  t.raise s.clock true x.code x.subject (s.tagOf x) (s.detailOf x)

/-- The retry of one mark over what it can change. -/
def Posting.retry (s : State) (p : Posting) (x : RetryMark) : Posting :=
  if p.marks x = true ∧ s.stands x = true then
    let raised := s.retryRaise p.alarms x
    let q : Posting := { p with alarms := raised.1, attn := .of fun port => raised.1.attention port }
    if raised.2 = true then q.clear x else q
  else p

/-- What a retry asks of the records stands in fields no posting changes. -/
theorem State.withPosting_asked (s : State) (p : Posting) (x : RetryMark) :
    (s.withPosting p).marked x = p.marks x ∧ (s.withPosting p).stands x = s.stands x
      ∧ (s.withPosting p).tagOf x = s.tagOf x ∧ (s.withPosting p).detailOf x = s.detailOf x := by
  have hdoor : ∀ d : Fin 24, (p.door s.lines d (s.door d)).state = (s.door d).state
      ∧ (p.door s.lines d (s.door d)).faultCause = (s.door d).faultCause
      ∧ (p.door s.lines d (s.door d)).breachUnposted = p.marks (.doorBreach d)
      ∧ (p.door s.lines d (s.door d)).faultUnposted = p.marks (.doorFault d) := fun d => by
    unfold Posting.door
    split <;> exact ⟨rfl, rfl, rfl, rfl⟩
  cases x with
  | doorBreach d =>
    obtain ⟨hstate, -, hbreach, -⟩ := hdoor d
    simp [State.marked, State.stands, State.tagOf, State.detailOf, hstate, hbreach]
  | doorFault d =>
    obtain ⟨hstate, hcause, -, hfault⟩ := hdoor d
    simp [State.marked, State.stands, State.tagOf, State.detailOf, hstate, hcause, hfault]
  | journalHigh => exact ⟨rfl, rfl, rfl, rfl⟩
  | _ =>
    simp [State.marked, State.stands, State.tagOf, State.detailOf, State.handleAt, exposureDetail, Posting.channel,
      Posting.room, Posting.defrost, Posting.pallet, Posting.move]

theorem retryMark_withPosting (s : State) (p : Posting) (x : RetryMark) :
    retryMark (s.withPosting p) x = s.withPosting (p.retry s x) := by
  obtain ⟨hmarked, hstands, htag, hdetail⟩ := s.withPosting_asked p x
  rw [retryMark, hmarked, hstands, htag, hdetail, State.retryCondition_eq, Posting.retry]
  by_cases h : p.marks x = true ∧ s.stands x = true
  · rw [if_pos h, if_pos h]
    dsimp only
    by_cases hentered : (s.retryRaise p.alarms x).2 = true
    · rw [if_pos hentered]
      refine (if_pos hentered).trans ?_
      exact s.clearMark_withPosting
        ⟨p.marks, p.redriven, (s.retryRaise p.alarms x).1, .of fun port => (s.retryRaise p.alarms x).1.attention port⟩ x
    · rw [if_neg hentered]
      exact if_neg hentered
  · rw [if_neg h, if_neg h]

/-- What the retries of a list leave. -/
def Posting.retries (s : State) (l : List RetryMark) (p : Posting) : Posting := l.foldl (Posting.retry s) p

theorem foldl_retryMark (s : State) (l : List RetryMark) (p : Posting) :
    l.foldl retryMark (s.withPosting p) = s.withPosting (p.retries s l) := by
  induction l generalizing p with
  | nil => rfl
  | cons x l ih => exact (congrArg (l.foldl retryMark) (retryMark_withPosting s p x)).trans (ih _)

/-- The retries of a second tick, over the state they find. -/
theorem retryAll_withPosting (order : List RetryBlock) (s : State) :
    retryAll order s = s.withPosting (s.posting.retries s (retryList order)) := by
  rw [retryAll_eq, ← foldl_retryMark, State.withPosting_posting]

/-! ### What retries leave of the marks and the table -/

theorem Posting.retry_marks_ne (s : State) (p : Posting) {x y : RetryMark} (h : y ≠ x) :
    (p.retry s x).marks y = p.marks y := by
  unfold Posting.retry
  split
  · dsimp only
    split
    · exact Function.update_of_ne h _ _
    · rfl
  · rfl

theorem Posting.retries_marks_of_notMem (s : State) {l : List RetryMark} {y : RetryMark} (h : y ∉ l) (p : Posting) :
    (p.retries s l).marks y = p.marks y := by
  induction l generalizing p with
  | nil => rfl
  | cons x l ih =>
    obtain ⟨hx, hl⟩ := not_or.mp fun hor => h (List.mem_cons.mpr hor)
    exact (ih hl _).trans (p.retry_marks_ne s hx)

theorem Posting.retry_alarms (s : State) (p : Posting) (x : RetryMark) :
    (p.retry s x).alarms = if p.marks x = true ∧ s.stands x = true then (s.retryRaise p.alarms x).1 else p.alarms := by
  unfold Posting.retry
  split
  · dsimp only
    split <;> rfl
  · rfl

/-- A property of the table that every mark's raise keeps is kept by the retries. -/
theorem Posting.retries_induct {P : AlarmTable → Prop} (s : State) {l : List RetryMark}
    (h : ∀ x ∈ l, ∀ t, P t → P (s.retryRaise t x).1) {p : Posting} (hp : P p.alarms) : P (p.retries s l).alarms := by
  induction l generalizing p with
  | nil => exact hp
  | cons x l ih =>
    refine ih (fun y hy => h y (List.mem_cons_of_mem _ hy)) ?_
    rw [Posting.retry_alarms]
    split
    · exact h x List.mem_cons_self _ hp
    · exact hp

/-- The table the retries leave is the one their raises make, one after the other. -/
theorem Posting.retries_alarms (s : State) {l : List RetryMark} (hl : l.Nodup) {p : Posting}
    (hp : ∀ x ∈ l, p.marks x = s.marked x) :
    (p.retries s l).alarms
      = (l.filter fun x => decide (s.marked x = true ∧ s.stands x = true)).foldl (fun t x => (s.retryRaise t x).1) p.alarms := by
  induction l generalizing p with
  | nil => rfl
  | cons x l ih =>
    obtain ⟨hx, hl⟩ := List.nodup_cons.mp hl
    have hrest : ∀ y ∈ l, (p.retry s x).marks y = s.marked y := fun y hy =>
      (p.retry_marks_ne s fun e => hx (by rwa [← e])).trans (hp y (List.mem_cons_of_mem _ hy))
    refine (ih hl hrest).trans ?_
    rw [Posting.retry_alarms, hp x List.mem_cons_self, List.filter_cons]
    by_cases hretried : s.marked x = true ∧ s.stands x = true
    · rw [if_pos hretried, if_pos (decide_eq_true hretried)]
      rfl
    · rw [if_neg hretried, if_neg (by simpa using hretried)]

/-- The ATTN lines stay presentability's (R150). -/
theorem Posting.retries_attn (s : State) (l : List RetryMark) {p : Posting}
    (h : p.attn = .of fun port => p.alarms.attention port) :
    (p.retries s l).attn = .of fun port => (p.retries s l).alarms.attention port := by
  induction l generalizing p with
  | nil => exact h
  | cons x l ih =>
    refine ih ?_
    unfold Posting.retry
    split
    · dsimp only
      split <;> rfl
    · exact h

/-! ### One mark's outcome (R148) -/

/-- What O26 says of one mark: `before` and `after` are the mark, `t` is the table the retries leave. -/
def retryOutcome (now : Word32) (t : AlarmTable) (stands before after : Bool) (code : AlarmCode) (subject : Subject)
    (tag : Option Word32) (detail : Option Word16) : Prop :=
  ((before && stands) = false → after = before)
    ∧ (before = true → stands = true → after = false → ∃ (i : Fin 48) (e : AlarmEntry),
      t.entries[i] = some e ∧ e.code = code ∧ e.subject = subject ∧ e.tag = tag ∧ e.detail = detail
        ∧ e.lastRaised = now ∧ e.condition = .active)
    ∧ (before = true → stands = true → after = true →
      (∀ i : Fin 48, i ≠ 0 → t.entries[i].isSome = true)
        ∧ ∀ (i : Fin 48) (e : AlarmEntry), t.entries[i] = some e → e.code = code → e.subject ≠ subject)

theorem Posting.retries_spares (s : State) {l : List RetryMark} {x : RetryMark} (h : x ∉ l) (p : Posting) :
    AlarmTable.spares 0 x.code x.subject p.alarms (p.retries s l).alarms :=
  Posting.retries_induct s (fun y hy _ ht => AlarmTable.spares_trans ht
    (AlarmTable.raise_spares _ _ (fun hc => RetryMark.pair_ne (fun e => h (by rwa [← e])) hc) x.code_ne_tableFull
      (.inr ⟨rfl, y.code_condition⟩) _ _)) (AlarmTable.spares_refl _ _ _ _)

theorem Posting.retry_own (s : State) (p : Posting) (x : RetryMark) :
    ((p.marks x && s.stands x) = false → (p.retry s x).marks x = p.marks x)
      ∧ (p.marks x = true → s.stands x = true → (p.retry s x).marks x = !(s.retryRaise p.alarms x).2) := by
  unfold Posting.retry
  refine ⟨fun h => ?_, fun hm hs => ?_⟩
  · rw [if_neg]
    rintro ⟨hm, hs⟩
    rw [hm, hs] at h
    cases h
  · rw [if_pos ⟨hm, hs⟩]
    dsimp only
    cases hentered : (s.retryRaise p.alarms x).2
    · exact hm
    · exact Function.update_self ..

/-- The outcome of a mark retried once, in a list of marks retried once each. -/
theorem Posting.retries_outcome (s : State) {l : List RetryMark} (hl : l.Nodup) {x : RetryMark} (hx : x ∈ l) (p : Posting) :
    retryOutcome s.clock (p.retries s l).alarms (s.stands x) (p.marks x) ((p.retries s l).marks x) x.code x.subject
      (s.tagOf x) (s.detailOf x) := by
  obtain ⟨l1, l2, rfl⟩ := List.append_of_mem hx
  obtain ⟨-, hnodup2, hdisjoint⟩ := List.nodup_append.mp hl
  have h1 : x ∉ l1 := fun h => hdisjoint x h x List.mem_cons_self rfl
  have h2 : x ∉ l2 := (List.nodup_cons.mp hnodup2).1
  have hsplit : p.retries s (l1 ++ x :: l2) = ((p.retries s l1).retry s x).retries s l2 := List.foldl_append
  have hbefore : (p.retries s l1).marks x = p.marks x := Posting.retries_marks_of_notMem s h1 p
  obtain ⟨hkept, hretried⟩ := (p.retries s l1).retry_own s x
  have halarms := (p.retries s l1).retry_alarms s x
  have hspares := Posting.retries_spares s h2 ((p.retries s l1).retry s x)
  rw [hsplit, Posting.retries_marks_of_notMem s h2]
  rw [hbefore] at hkept hretried halarms
  refine ⟨hkept, fun hm hs hafter => ?_, fun hm hs hafter => ?_⟩
  · rw [hretried hm hs, Bool.not_eq_false'] at hafter
    rw [if_pos ⟨hm, hs⟩] at halarms
    rw [halarms] at hspares
    obtain ⟨i, e, -, hshown⟩ := AlarmTable.spares_shows hspares
      (AlarmTable.raise_shows x.code_condition (.inl rfl) hafter)
    exact ⟨i, e, hshown⟩
  · rw [hretried hm hs, Bool.not_eq_true'] at hafter
    rw [if_pos ⟨hm, hs⟩] at halarms
    rw [halarms] at hspares
    exact hspares.2 (AlarmTable.raise_refuses x.code_ne_tableFull hafter)

end Sys2Proof.Machine
end

section
/-! PROOFS. A second tick: what it counts, and the retries it makes (O26). -/

namespace Sys2Proof.Machine

set_option Elab.async false

/-! ### What a retry keeps of the table (R145, R148) -/

/-- A condition's retry frees no entry and keeps each entry's pair and first raise. -/
theorem AlarmTable.retry_keeps (t : AlarmTable) (now : Word32) {code : AlarmCode} (hcond : code.isNotice = false)
    (subject : Subject) (tag : Option Word32) (detail : Option Word16) {i : Fin 48} {e : AlarmEntry}
    (h : t.entries[i] = some e) :
    ∃ e', (t.raise now true code subject tag detail).1.entries[i] = some e'
      ∧ e'.code = e.code ∧ e'.subject = e.subject ∧ e'.firstRaised = e.firstRaised := by
  obtain ⟨j, f, hf, -, -, hr⟩ | ⟨j, -, hj, -, hr⟩ | ⟨-, -, hr⟩ := t.raise_cases now true code subject tag detail
  · rw [hr]
    by_cases hij : j = i
    · subst hij
      obtain rfl : f = e := Option.some.inj (hf.symm.trans h)
      exact ⟨_, (t.reraise_entries now j j f tag detail).trans (if_pos rfl), rfl, rfl, rfl⟩
    · exact ⟨e, ((t.reraise_entries now j i f tag detail).trans (if_neg hij)).trans h, rfl, rfl, rfl⟩
  · rw [hr, hcond]
    have hij : j ≠ i := fun hji => by
      subst hji
      rw [hj] at h
      cases h
    exact ⟨e, ((t.occupy_entries now j i code subject tag detail).trans (if_neg hij)).trans h, rfl, rfl, rfl⟩
  · rw [hr]
    exact ⟨e, h, rfl, rfl, rfl⟩

theorem AlarmTable.retry_ports (t : AlarmTable) (now : Word32) {code : AlarmCode} (hcond : code.isNotice = false)
    (subject : Subject) (tag : Option Word32) (detail : Option Word16) :
    (t.raise now true code subject tag detail).1.ports = t.ports := by
  obtain ⟨i, e, -, -, -, hr⟩ | ⟨i, -, -, -, hr⟩ | ⟨-, -, hr⟩ := t.raise_cases now true code subject tag detail
  · rw [hr]; rfl
  · rw [hr, hcond]; rfl
  · rw [hr]; rfl

/-- A retry of another code than TABLE_FULL leaves entry 0, where that is TABLE_FULL's. -/
theorem AlarmTable.retry_entry_zero {t : AlarmTable} (h : t.zeroKept) (now : Word32) {code : AlarmCode}
    (hcond : code.isNotice = false) (hfull : code ≠ .tableFull) (subject : Subject) (tag : Option Word32)
    (detail : Option Word16) :
    (t.raise now true code subject tag detail).1.entries[(0 : Fin 48)] = t.entries[(0 : Fin 48)] := by
  obtain ⟨i, e, he, rfl, -, hr⟩ | ⟨i, hi, -, -, hr⟩ | ⟨-, -, hr⟩ := t.raise_cases now true code subject tag detail
  · rw [hr, AlarmTable.reraise_entries, if_neg]
    rintro rfl
    exact hfull (h e he)
  · rw [hr, hcond]
    exact (t.occupy_entries now i 0 code subject tag detail).trans (if_neg hi)
  · rw [hr]; rfl

/-! ### The state the retries find -/

theorem beforeRetries_ticked (s : State) :
    (tickTimers { s with clock := s.clock + 1 }).frame [.phase, .exposureDue, .round] (beforeRetries s) :=
  State.frame_trans (State.frame_mono (advancePhase_frame _) (by decide)) (State.frame_mono (startRound_frame _) (by decide))

theorem mapTable_get {α β : Type} {n : Nat} {f : α → β} {v : Vector α n} {w : Vector β n} (h : w = mapTable f v) (i : Fin n) :
    w[i] = f v[i] := by
  rw [h]
  exact getElem_mapTable f v i i.isLt

theorem beforeRetries_room (s : State) (r : Fin 8) : (beforeRetries s).room r = (s.room r).tick :=
  mapTable_get (State.frame_rooms (beforeRetries_ticked s) (by decide)) r

theorem beforeRetries_door (s : State) (d : Fin 24) : (beforeRetries s).door d = (s.door d).tick :=
  mapTable_get (State.frame_doors (beforeRetries_ticked s) (by decide)) d

theorem beforeRetries_defrost (s : State) (r : Fin 8) : (beforeRetries s).defrost r = (s.defrost r).tick :=
  mapTable_get (State.frame_defrosts (beforeRetries_ticked s) (by decide)) r

theorem beforeRetries_move (s : State) (m : Fin 32) : (beforeRetries s).move m = (s.move m).tick :=
  mapTable_get (State.frame_moves (beforeRetries_ticked s) (by decide)) m

theorem beforeRetries_channel (s : State) (c : Fin 32) : (beforeRetries s).channel c = s.channel c :=
  congrArg (fun v => v[c]) (State.frame_channels (beforeRetries_frame s) (by decide))

theorem beforeRetries_pallet (s : State) (q : Fin 256) : (beforeRetries s).pallet q = s.pallet q :=
  congrArg (fun v => v[q]) (State.frame_pallets (beforeRetries_frame s) (by decide))

theorem beforeRetries_journal (s : State) : (beforeRetries s).journal = s.journal :=
  State.frame_journal (beforeRetries_frame s) (by decide)

theorem beforeRetries_clock (s : State) : (beforeRetries s).clock = s.clock + 1 :=
  State.frame_clock (beforeRetries_ticked s) (by decide)

/-- The clock, the timers, the phase and the round are no part of what a retry asks. -/
theorem beforeRetries_asked (s : State) (x : RetryMark) :
    (beforeRetries s).marked x = s.marked x ∧ (beforeRetries s).stands x = s.stands x
      ∧ (beforeRetries s).tagOf x = s.tagOf x ∧ (beforeRetries s).detailOf x = s.detailOf x := by
  cases x <;>
    simp [State.marked, State.stands, State.tagOf, State.detailOf, State.handleAt, beforeRetries_room, beforeRetries_door,
      beforeRetries_defrost, beforeRetries_move, beforeRetries_channel, beforeRetries_pallet, beforeRetries_journal,
      Room.tick, Door.tick, Defrost.tick, Move.tick]

/-! ### The raises a second tick retries -/

/-- What a mark's raise takes: its code, subject, tag and detail. -/
def State.raiseOf (s : State) (x : RetryMark) : AlarmCode × Subject × Option Word32 × Option Word16 :=
  (x.code, x.subject, s.tagOf x, s.detailOf x)

/-- The raise of one mark, where it is retried. -/
def State.raisesOf (s : State) (x : RetryMark) : List (AlarmCode × Subject × Option Word32 × Option Word16) :=
  if s.marked x = true ∧ s.stands x = true then [s.raiseOf x] else []

/-- The retries over the state a second tick finds. -/
def retried (order : List RetryBlock) (s : State) : Posting :=
  (beforeRetries s).posting.retries (beforeRetries s) (retryList order)

theorem retryAll_retried (order : List RetryBlock) (s : State) :
    retryAll order (beforeRetries s) = (beforeRetries s).withPosting (retried order s) := retryAll_withPosting _ _

theorem retryRaise_beforeRetries (s : State) (t : AlarmTable) (x : RetryMark) :
    (beforeRetries s).retryRaise t x = t.raise (s.clock + 1) true x.code x.subject (s.tagOf x) (s.detailOf x) := by
  obtain ⟨-, -, htag, hdetail⟩ := beforeRetries_asked s x
  rw [State.retryRaise, beforeRetries_clock, htag, hdetail]

theorem retried_alarms (order : List RetryBlock) (s : State) :
    (retried order s).alarms = ((retryOrder order).flatMap fun b => (blockMarks b).flatMap s.raisesOf).foldl
      (fun a x => (a.raise (s.clock + 1) true x.1 x.2.1 x.2.2.1 x.2.2.2).1) s.alarms := by
  have hstart : (beforeRetries s).posting.alarms = s.alarms := State.frame_alarms (beforeRetries_frame s) (by decide)
  have hraises : ∀ l : List RetryMark, l.flatMap s.raisesOf
      = (l.filter fun x => decide ((beforeRetries s).marked x = true ∧ (beforeRetries s).stands x = true)).map s.raiseOf := by
    intro l
    induction l with
    | nil => rfl
    | cons x l ih =>
      obtain ⟨hmarked, hstands, -⟩ := beforeRetries_asked s x
      rw [List.flatMap_cons, ih, List.filter_cons, hmarked, hstands, State.raisesOf]
      by_cases h : s.marked x = true ∧ s.stands x = true
      · rw [if_pos h, if_pos (decide_eq_true h)]; rfl
      · rw [if_neg h, if_neg (by simpa using h)]; rfl
  rw [← List.flatMap_assoc, ← retryList, hraises, List.foldl_map, retried,
    Posting.retries_alarms _ (nodup_retryList order) fun _ _ => rfl, hstart]
  congr
  funext t x
  rw [retryRaise_beforeRetries]
  rfl

/-- The outcome of one mark at a second tick. -/
theorem retried_outcome (order : List RetryBlock) (s : State) (x : RetryMark) :
    retryOutcome (s.clock + 1) (retried order s).alarms (s.stands x) (s.marked x) ((retried order s).marks x) x.code x.subject
      (s.tagOf x) (s.detailOf x) := by
  obtain ⟨hmarked, hstands, htag, hdetail⟩ := beforeRetries_asked s x
  rw [← beforeRetries_clock, ← hstands, ← hmarked, ← htag, ← hdetail]
  exact Posting.retries_outcome _ (nodup_retryList order) (mem_retryList order x) _

theorem blockRaises_probes (s : State) : (blockMarks .probes).flatMap s.raisesOf
    = (List.finRange 32).flatMap fun c =>
      if (s.channel c).unposted = true ∧ (s.channel c).state ≠ .ok then
        [(.probeFault, .probe c, none, some (BitVec.ofNat 16 (s.channel c).state.place))] else [] := by
  simp [blockMarks, List.flatMap_assoc, State.raisesOf, State.raiseOf, State.marked, State.stands, State.tagOf, State.detailOf,
    RetryMark.code, RetryMark.subject, detailNat]

theorem blockRaises_rooms (s : State) : (blockMarks .rooms).flatMap s.raisesOf
    = (List.finRange 8).flatMap fun r =>
      (if (s.room r).highUnposted = true then
          [(.roomHigh, .room r, none, some (BitVec.ofInt 16 (s.room r).filtered))] else [])
        ++ (if (s.room r).lostUnposted = true then [(.roomProbesLost, .room r, none, none)] else [])
        ++ if (s.room r).lowUnposted = true then
          [(.roomLow, .room r, none, some (BitVec.ofInt 16 (s.room r).filtered))] else [] := by
  simp [blockMarks, List.flatMap_assoc, State.raisesOf, State.raiseOf, State.marked, State.stands, State.tagOf, State.detailOf,
    RetryMark.code, RetryMark.subject, detailTemp]

theorem blockRaises_doors (s : State) : (blockMarks .doors).flatMap s.raisesOf
    = (List.finRange 24).flatMap fun d =>
      (if (s.door d).state = .breach ∧ (s.door d).breachUnposted = true then [(.doorBreach, .door d, none, none)] else [])
        ++ if (s.door d).state = .fault ∧ (s.door d).faultUnposted = true then
          [(.doorFault, .door d, none, some (BitVec.ofNat 16 (s.door d).faultCause.place))] else [] := by
  simp [blockMarks, List.flatMap_assoc, State.raisesOf, State.raiseOf, State.marked, State.stands, State.tagOf, State.detailOf,
    RetryMark.code, RetryMark.subject, detailNat, and_comm]

theorem blockRaises_defrost (s : State) : (blockMarks .defrost).flatMap s.raisesOf
    = (List.finRange 8).flatMap fun r =>
      (if (s.defrost r).overrunUnposted = true ∧ (s.defrost r).overrunFlag = true then
          [(.defrostOverrun, .room r, none, none)] else [])
        ++ (if (s.defrost r).forcedUnposted = true ∧ (s.defrost r).forcedFlag = true then
          [(.defrostForced, .room r, none, some (BitVec.ofNat 16 (s.defrost r).frostIndex))] else [])
        ++ if (s.defrost r).dueUnposted = true ∧ (s.defrost r).dueFlag = true then
          [(.frostDue, .room r, none, some (BitVec.ofNat 16 (s.defrost r).frostIndex))] else [] := by
  simp [blockMarks, List.flatMap_assoc, State.raisesOf, State.raiseOf, State.marked, State.stands, State.tagOf, State.detailOf,
    RetryMark.code, RetryMark.subject, detailNat]
  rfl

theorem blockRaises_pallets (s : State) : (blockMarks .pallets).flatMap s.raisesOf
    = (List.finRange 256).flatMap fun q =>
      (if (s.pallet q).warnUnposted = true then [(.exposureWarning, .pallet q, some (s.pallet q).tag,
          some (BitVec.ofNat 16 (min ((s.pallet q).exposure / 960) 65535)))] else [])
        ++ if (s.pallet q).exceedUnposted = true then [(.exposureExceeded, .pallet q, some (s.pallet q).tag,
          some (BitVec.ofNat 16 (min ((s.pallet q).exposure / 960) 65535)))] else [] := by
  simp [blockMarks, List.flatMap_assoc, State.raisesOf, State.raiseOf, State.marked, State.stands, State.tagOf, State.detailOf,
    RetryMark.code, RetryMark.subject, exposureDetail_eq]

theorem blockRaises_moves (s : State) : (blockMarks .moves).flatMap s.raisesOf
    = (List.finRange 32).flatMap fun m =>
      if (s.move m).overdueUnposted = true ∧ (s.move m).state = .inTransit ∧ (s.move m).overdueFlag = true then
        [(.moveOverdue, .move m, none,
          some (((s.move m).generation ++ BitVec.ofNat 5 m.val : Byte).setWidth 16))] else [] := by
  simp [blockMarks, List.flatMap_assoc, State.raisesOf, State.raiseOf, State.marked, State.stands, State.tagOf, State.detailOf,
    RetryMark.code, RetryMark.subject, detailHandle, State.handleAt, Handle.byte]

theorem blockRaises_journal (s : State) : (blockMarks .journal).flatMap s.raisesOf
    = if s.journal.highUnposted = true ∧ s.journal.threshold ≤ s.journal.held then
        [(.journalHigh, .none, none, some (BitVec.ofNat 16 s.journal.held))] else [] := by
  simp [blockMarks, State.raisesOf, State.raiseOf, State.marked, State.stands, State.tagOf, State.detailOf, RetryMark.code,
    RetryMark.subject, detailNat]

/-- A property of the table that the retries of conditions keep is kept by a second tick. -/
theorem retried_induct {P : AlarmTable → Prop} (order : List RetryBlock) (s : State)
    (h : ∀ t (x : RetryMark), P t → P (t.raise (s.clock + 1) true x.code x.subject (s.tagOf x) (s.detailOf x)).1)
    (hs : P s.alarms) : P (retried order s).alarms := by
  refine Posting.retries_induct _ (fun x _ t ht => ?_) ?_
  · rw [retryRaise_beforeRetries]
    exact h t x ht
  · have : (beforeRetries s).posting.alarms = s.alarms := State.frame_alarms (beforeRetries_frame s) (by decide)
    rwa [this]

/-! ### The records a second tick leaves -/

/-- Marks and outputs apart, the retries leave a door as its outputs keep it (R46). -/
theorem Posting.door_rest (p : Posting) {lines : LineSettings} (d : Fin 24) {x : Door} (h : x = x.driven lines) :
    { p.door lines d x.tick with breachUnposted := false, faultUnposted := false }
      = { x with
          sealTimer := x.sealTimer.tick, breachTimer := x.breachTimer.tick, releaseTimer := x.releaseTimer.tick
          breachUnposted := false, faultUnposted := false } := by
  unfold Posting.door
  dsimp only
  split
  · exact congrArg (fun y : Door => { y with
      sealTimer := x.sealTimer.tick, breachTimer := x.breachTimer.tick, releaseTimer := x.releaseTimer.tick
      breachUnposted := false, faultUnposted := false }) h.symm
  · rfl

/-- The mark a second tick leaves is the one its retries leave. -/
theorem retryAll_marked (order : List RetryBlock) (s : State) (x : RetryMark) :
    (retryAll order (beforeRetries s)).marked x = (retried order s).marks x := by
  rw [retryAll_retried]
  exact (State.withPosting_asked _ _ x).1

theorem retryAll_outcome (order : List RetryBlock) (s : State) (x : RetryMark) :
    retryOutcome (s.clock + 1) (retryAll order (beforeRetries s)).alarms (s.stands x) (s.marked x)
      ((retryAll order (beforeRetries s)).marked x) x.code x.subject (s.tagOf x) (s.detailOf x) := by
  rw [retryAll_marked, retryAll_retried]
  exact retried_outcome order s x

/-- The fields of a state that a second tick writes, its expiries apart. -/
theorem retryAll_frame_settled (order : List RetryBlock) (s : State) :
    s.frame [.clock, .phase, .exposureDue, .channels, .round, .rooms, .doors, .defrosts, .pallets, .moves, .journal, .alarms,
      .attn] (retryAll order (beforeRetries s)) :=
  State.frame_trans (State.frame_mono (beforeRetries_frame s) (by decide)) (State.frame_mono (retryAll_frame order _) (by decide))

/-- Settles O26: the retries are one list of raises over the table, each mark once; what is counted is counted before them. -/
theorem secondTickCounts : Obligations.SecondTickCounts := by
  intro order before
  dsimp only
  generalize hs : settleTimers before = s
  have htick : tickSecond order before = retryAll order (beforeRetries s) := by rw [← hs, tickSecond_eq]
  have houtcome := retryAll_outcome order s
  have hclock : (retryAll order (beforeRetries s)).clock = s.clock + 1 :=
    (State.frame_clock (retryAll_frame order _) (by decide)).trans (beforeRetries_clock s)
  have hmerge := State.eq_merge (retryAll_frame_settled order s)
  obtain ⟨hphase, hdue⟩ := retryAll_phase order s
  have hentries := fun (i : Fin 48) (e : AlarmEntry) (h : s.alarms.entries[i] = some e) =>
    retried_induct (P := fun t => ∃ e', t.entries[i] = some e' ∧ e'.code = e.code ∧ e'.subject = e.subject
      ∧ e'.firstRaised = e.firstRaised) order s (fun t x ⟨e', he', hcode, hsubject, hfirst⟩ => by
        obtain ⟨e'', he'', hcode', hsubject', hfirst'⟩ :=
          t.retry_keeps (s.clock + 1) x.code_condition x.subject (s.tagOf x) (s.detailOf x) he'
        exact ⟨e'', he'', hcode'.trans hcode, hsubject'.trans hsubject, hfirst'.trans hfirst⟩) ⟨e, h, rfl, rfl, rfl⟩
  have hports := retried_induct (P := fun t => t.ports = s.alarms.ports) order s
    (fun t x ht => (t.retry_ports _ x.code_condition _ _ _).trans ht) rfl
  have hzero := fun h : s.tableKept => retried_induct
    (P := fun t => t.zeroKept ∧ t.entries[(0 : Fin 48)] = s.alarms.entries[(0 : Fin 48)]) order s
    (fun t x ht => ⟨AlarmTable.raise_zeroKept ht.1 _ _ _ _ _ _,
      (AlarmTable.retry_entry_zero ht.1 _ x.code_condition x.code_ne_tableFull _ _ _).trans ht.2⟩)
    ⟨AlarmTable.zeroKept_of_kept h, rfl⟩
  have halarms := retried_alarms order s
  have hattn : s.attentionKept → (retried order s).attn = .of fun p => (retried order s).alarms.attention p := fun h =>
    Posting.retries_attn _ _ (by
      have hstart := beforeRetries_frame s
      exact (State.frame_attn hstart (by decide)).trans (h.trans (congrArg (fun t : AlarmTable => PerPort.of fun p =>
        t.attention p) (State.frame_alarms hstart (by decide)).symm)))
  have hlines : (beforeRetries s).lines = s.lines := State.frame_lines (beforeRetries_frame s) (by decide)
  refine ⟨tickSecond order before, rfl, ?_⟩
  rw [htick]
  generalize hlast : retryAll order (beforeRetries s) = t at *
  have ht : t = (beforeRetries s).withPosting (retried order s) := hlast.symm.trans (retryAll_retried order s)
  have htable : t.alarms = (retried order s).alarms := congrArg State.alarms ht
  have hroom : ∀ r, t.room r = (retried order s).room r (s.room r).tick := fun r => by
    rw [ht, State.withPosting_room, beforeRetries_room]
  have hdoor : ∀ d, t.door d = (retried order s).door s.lines d (s.door d).tick := fun d => by
    rw [ht, State.withPosting_door, beforeRetries_door, hlines]
  have hdefrost : ∀ r, t.defrost r = (retried order s).defrost r (s.defrost r).tick := fun r => by
    rw [ht, State.withPosting_defrost, beforeRetries_defrost]
  have hpallet : ∀ q, t.pallet q = (retried order s).pallet q (s.pallet q) := fun q => by
    rw [ht, State.withPosting_pallet, beforeRetries_pallet]
  have hmove : ∀ m, t.move m = (retried order s).move m (s.move m).tick := fun m => by
    rw [ht, State.withPosting_move, beforeRetries_move]
  have hchannel : ∀ c, t.channel c = (retried order s).channel c (s.channel c) := fun c => by
    rw [ht, State.withPosting_channel, beforeRetries_channel]
  have hjournal : t.journal = { s.journal with highUnposted := (retried order s).marks .journalHigh } :=
    (congrArg State.journal ht).trans
      (congrArg (fun j : Journal => { j with highUnposted := (retried order s).marks .journalHigh }) (beforeRetries_journal s))
  refine ⟨?_, fun h => ?_, fun h hlt => ?_, fun h hle => ?_, fun r => ?_, fun r => ?_, fun m => ?_, fun h d => ?_, fun q => ?_,
    fun c => ?_, ?_, ⟨?_, nodup_retryOrder order, mem_retryOrder order, fun h => ?_⟩, fun h => ?_, ?_, fun i e h => ?_, fun h => ?_,
    ?_⟩
  · refine hmerge.trans ?_
    rw [← hclock]
    rfl
  · rw [hphase, hdue, h]
    simp [phaseAfter, dueAfter]
  · rw [hphase, hdue, h]
    simp [phaseAfter, dueAfter, hlt, Nat.not_le.mpr hlt]
  · rw [hphase, hdue, h]
    simp [phaseAfter, dueAfter, hle, Nat.not_lt.mpr hle]
  · rw [hroom]; rfl
  · rw [hdefrost]; rfl
  · rw [hmove]; rfl
  · rw [hdoor]
    exact Posting.door_rest _ d (h d)
  · rw [hpallet]; rfl
  · rw [hchannel]; rfl
  · rw [hjournal]
  · refine htable.trans (halarms.trans (congrArg (fun raises => ((retryOrder order).flatMap raises).foldl _ s.alarms)
      (funext fun b => ?_)))
    cases b with
    | probes => exact blockRaises_probes s
    | rooms => exact blockRaises_rooms s
    | doors => exact blockRaises_doors s
    | defrost => exact blockRaises_defrost s
    | pallets => exact blockRaises_pallets s
    | moves => exact blockRaises_moves s
    | journal => exact blockRaises_journal s
  · rw [retryOrder, keepFirst_eq h]; rfl
  · have := hattn h
    rw [State.attentionKept, htable, ← this, ht]; rfl
  · rw [htable]; exact hports
  · rw [htable]; exact hentries i e h
  · rw [htable]; exact (hzero h).2
  · exact ⟨fun c => houtcome (.probe c), fun r => ⟨houtcome (.roomHigh r), houtcome (.roomLost r), houtcome (.roomLow r)⟩,
      fun d => ⟨houtcome (.doorBreach d), houtcome (.doorFault d)⟩,
      fun r => ⟨houtcome (.overrun r), houtcome (.forced r), houtcome (.frostDue r)⟩,
      fun q => ⟨houtcome (.warning q), houtcome (.exceeded q)⟩, fun m => houtcome (.overdue m), houtcome .journalHigh⟩

end Sys2Proof.Machine
end

section
/-! PROOFS. What every command but the structural requests keeps: the clock, what SETUP fixed, and the ranges of channels and rooms
(R2, R17, R22, R173). The parts of the relation, and the blocks that write channels, rooms and doors. -/

namespace Sys2Proof.Machine

set_option Elab.async false

/-! ### The relation -/

/-- From one state to another the clock, the mode and what SETUP fixed stay, and channels and rooms in range stay in range. -/
structure State.Steady (s t : State) : Prop where
  clock : t.clock = s.clock
  mode : t.mode = s.mode
  lines : t.lines = s.lines
  interval : t.interval = s.interval
  heaterCapacity : t.heaterCapacity = s.heaterCapacity
  classes : t.classes = s.classes
  channel : ∀ c : Fin 32, (t.channel c).role = (s.channel c).role ∧ (t.channel c).room = (s.channel c).room
  room : ∀ r : Fin 8, (t.room r).kind = (s.room r).kind ∧ (t.defrost r).heaterLoad = (s.defrost r).heaterLoad
  door : ∀ d : Fin 24, (t.door d).enabled = (s.door d).enabled ∧ (t.door d).dockRoom = (s.door d).dockRoom
  ranges : s.temperaturesKept → t.temperaturesKept

theorem State.Steady.refl (s : State) : s.Steady s :=
  ⟨rfl, rfl, rfl, rfl, rfl, rfl, fun _ => ⟨rfl, rfl⟩, fun _ => ⟨rfl, rfl⟩, fun _ => ⟨rfl, rfl⟩, id⟩

theorem State.Steady.trans {s t u : State} (h : s.Steady t) (k : t.Steady u) : s.Steady u where
  clock := k.clock.trans h.clock
  mode := k.mode.trans h.mode
  lines := k.lines.trans h.lines
  interval := k.interval.trans h.interval
  heaterCapacity := k.heaterCapacity.trans h.heaterCapacity
  classes := k.classes.trans h.classes
  channel c := ⟨(k.channel c).1.trans (h.channel c).1, (k.channel c).2.trans (h.channel c).2⟩
  room r := ⟨(k.room r).1.trans (h.room r).1, (k.room r).2.trans (h.room r).2⟩
  door d := ⟨(k.door d).1.trans (h.door d).1, (k.door d).2.trans (h.door d).2⟩
  ranges hs := k.ranges (h.ranges hs)

/-- Ranges from the records: the counts of R8 follow from roles and rooms. -/
theorem State.temperaturesKept_of_records {s t : State} (hs : s.temperaturesKept)
    (hplace : ∀ c : Fin 32, (t.channel c).role = (s.channel c).role ∧ (t.channel c).room = (s.channel c).room)
    (hchannel : ∀ c : Fin 32, (t.channel c).inRange) (hroom : ∀ r : Fin 8, (t.room r).inRange) : t.temperaturesKept := by
  obtain ⟨-, -, hcount⟩ := hs
  refine ⟨hchannel, hroom, fun r => ?_⟩
  simp only [fun c => (hplace c).1, fun c => (hplace c).2]
  exact hcount r

/-- The fields a frame leaves out for its operation to be steady. -/
def steadyFields : List Field := [.clock, .mode, .lines, .interval, .heaterCapacity, .classes, .channels, .rooms, .doors, .defrosts]

theorem State.Steady.of_frame {fs : List Field} {s t : State} (h : s.frame fs t) (hf : ∀ f ∈ steadyFields, f ∉ fs) : s.Steady t := by
  have hchannel := State.frame_channel h (hf _ (by decide))
  have hroom := State.frame_room h (hf _ (by decide))
  have hdoor := State.frame_door h (hf _ (by decide))
  have hdefrost := State.frame_defrost h (hf _ (by decide))
  exact ⟨State.frame_clock h (hf _ (by decide)), State.frame_mode h (hf _ (by decide)), State.frame_lines h (hf _ (by decide)),
    State.frame_interval h (hf _ (by decide)), State.frame_heaterCapacity h (hf _ (by decide)),
    State.frame_classes h (hf _ (by decide)), fun c => by rw [hchannel]; exact ⟨rfl, rfl⟩,
    fun r => by rw [hroom, hdefrost]; exact ⟨rfl, rfl⟩, fun d => by rw [hdoor]; exact ⟨rfl, rfl⟩, fun ⟨hc, hr, hn⟩ =>
      ⟨fun c => by rw [hchannel]; exact hc c, fun r => by rw [hroom]; exact hr r, fun r => by simpa only [hchannel] using hn r⟩⟩

/-! ### One record written -/

theorem State.steady_setChannel (s : State) (c : Fin 32) {x : Channel}
    (hplace : x.role = (s.channel c).role ∧ x.room = (s.channel c).room) (hrange : s.temperaturesKept → x.inRange) :
    s.Steady (s.setChannel c x) := by
  have hchannel : ∀ i, ((s.setChannel c x).channel i).role = (s.channel i).role
      ∧ ((s.setChannel c x).channel i).room = (s.channel i).room := fun i => by
    rw [State.channel_setChannel]
    split
    · next h => subst h; exact hplace
    · exact ⟨rfl, rfl⟩
  refine ⟨rfl, rfl, rfl, rfl, rfl, rfl, hchannel, fun _ => ⟨rfl, rfl⟩, fun _ => ⟨rfl, rfl⟩, fun hs =>
    State.temperaturesKept_of_records hs hchannel (fun i => ?_) fun r => hs.2.1 r⟩
  rw [State.channel_setChannel]
  split
  · exact hrange hs
  · exact hs.1 i

theorem State.steady_setRoom (s : State) (r : Fin 8) {x : Room} (hkind : x.kind = (s.room r).kind)
    (hrange : s.temperaturesKept → x.inRange) : s.Steady (s.setRoom r x) := by
  refine ⟨rfl, rfl, rfl, rfl, rfl, rfl, fun _ => ⟨rfl, rfl⟩, fun i => ?_, fun _ => ⟨rfl, rfl⟩, fun hs =>
    State.temperaturesKept_of_records hs (fun _ => ⟨rfl, rfl⟩) hs.1 fun i => ?_⟩
  · rw [State.room_setRoom]
    split
    · next h => subst h; exact ⟨hkind, rfl⟩
    · exact ⟨rfl, rfl⟩
  · rw [State.room_setRoom]
    split
    · exact hrange hs
    · exact hs.2.1 i

theorem State.steady_setDoor (s : State) (d : Fin 24) {x : Door}
    (h : x.enabled = (s.door d).enabled ∧ x.dockRoom = (s.door d).dockRoom) : s.Steady (s.setDoor d x) := by
  refine ⟨rfl, rfl, rfl, rfl, rfl, rfl, fun _ => ⟨rfl, rfl⟩, fun _ => ⟨rfl, rfl⟩, fun i => ?_, fun hs =>
    State.temperaturesKept_of_records hs (fun _ => ⟨rfl, rfl⟩) hs.1 hs.2.1⟩
  rw [State.door_setDoor]
  split
  · next he => subst he; exact h
  · exact ⟨rfl, rfl⟩

theorem State.steady_setDefrost (s : State) (r : Fin 8) {x : Defrost} (h : x.heaterLoad = (s.defrost r).heaterLoad) :
    s.Steady (s.setDefrost r x) := by
  refine ⟨rfl, rfl, rfl, rfl, rfl, rfl, fun _ => ⟨rfl, rfl⟩, fun i => ?_, fun _ => ⟨rfl, rfl⟩, fun hs =>
    State.temperaturesKept_of_records hs (fun _ => ⟨rfl, rfl⟩) hs.1 hs.2.1⟩
  rw [State.defrost_setDefrost]
  split
  · next he => subst he; exact ⟨rfl, h⟩
  · exact ⟨rfl, rfl⟩

theorem State.steady_modifyChannel (s : State) (c : Fin 32) {f : Channel → Channel}
    (hplace : ∀ x, (f x).role = x.role ∧ (f x).room = x.room) (hrange : ∀ x : Channel, x.inRange → (f x).inRange) :
    s.Steady (s.modifyChannel c f) :=
  s.steady_setChannel c (hplace _) fun hs => hrange _ (hs.1 c)

theorem State.steady_modifyRoom (s : State) (r : Fin 8) {f : Room → Room} (hkind : ∀ x, (f x).kind = x.kind)
    (hrange : ∀ x : Room, x.inRange → (f x).inRange) : s.Steady (s.modifyRoom r f) :=
  s.steady_setRoom r (hkind _) fun hs => hrange _ (hs.2.1 r)

theorem State.steady_modifyDoor (s : State) (d : Fin 24) {f : Door → Door}
    (h : ∀ x, (f x).enabled = x.enabled ∧ (f x).dockRoom = x.dockRoom) : s.Steady (s.modifyDoor d f) :=
  s.steady_setDoor d (h _)

theorem State.steady_modifyDefrost (s : State) (r : Fin 8) {f : Defrost → Defrost} (h : ∀ x, (f x).heaterLoad = x.heaterLoad) :
    s.Steady (s.modifyDefrost r f) :=
  s.steady_setDefrost r (h _)

/-! ### The table, turns and lists -/

theorem State.steady_setAlarms (s : State) (t : AlarmTable) : s.Steady (s.setAlarms t) :=
  .of_frame (frame_setAlarms (fs := [.alarms, .attn]) (by decide) (by decide) s t) (by decide)

theorem State.steady_setPort (s : State) (p : Port) (x : PortControl) : s.Steady (s.setPort p x) :=
  .of_frame (frame_setPort (fs := [.ports]) (by decide) s p x) (by decide)

theorem State.steady_raiseCondition (s : State) (code : AlarmCode) (subject : Subject) (tag : Option Word32)
    (detail : Option Word16) {f : State → State} (h : ∀ t : State, t.Steady (f t)) :
    s.Steady (s.raiseCondition code subject tag detail f) := by
  rw [State.raiseCondition_eq]
  split
  · exact s.steady_setAlarms _
  · exact (s.steady_setAlarms _).trans (h _)

theorem State.steady_post (s : State) (code : AlarmCode) (subject : Subject) (detail : Option Word16) :
    s.Steady (s.post code subject detail) := s.steady_setAlarms _

theorem State.steady_returnCondition (s : State) (code : AlarmCode) (subject : Subject) :
    s.Steady (s.returnCondition code subject) := s.steady_setAlarms _

theorem State.Steady.returned {s t : State} (h : s.Steady t) (code : AlarmCode) (subject : Subject) :
    s.Steady (t.returnCondition code subject) := h.trans (t.steady_setAlarms _)

/-- A room's record written without its configuration and ranges. -/
theorem State.Steady.roomRecord {s t : State} (h : s.Steady t) (r : Fin 8) {f : Room → Room}
    (hkind : ∀ x, (f x).kind = x.kind := by exact fun _ => rfl)
    (hrange : ∀ x : Room, x.inRange → (f x).inRange := by exact fun _ h => h) : s.Steady (t.modifyRoom r f) :=
  h.trans (t.steady_modifyRoom r hkind hrange)

/-- A door's record written without its configuration. -/
theorem State.Steady.doorRecord {s t : State} (h : s.Steady t) (d : Fin 24) {f : Door → Door}
    (hdoor : ∀ x, (f x).enabled = x.enabled ∧ (f x).dockRoom = x.dockRoom := by exact fun _ => ⟨rfl, rfl⟩) :
    s.Steady (t.modifyDoor d f) := h.trans (t.steady_modifyDoor d hdoor)

/-- A defrost record written without its heater load. -/
theorem State.Steady.defrostRecord {s t : State} (h : s.Steady t) (r : Fin 8) {f : Defrost → Defrost}
    (hload : ∀ x, (f x).heaterLoad = x.heaterLoad := by exact fun _ => rfl) : s.Steady (t.modifyDefrost r f) :=
  h.trans (t.steady_modifyDefrost r hload)

theorem steady_forEach {n : Nat} {f : Fin n → State → State} (h : ∀ i (s : State), s.Steady (f i s)) (s : State) :
    s.Steady (forEach n f s) :=
  forEach_rel State.Steady State.Steady.refl State.Steady.trans h s

theorem steady_foldl {α : Type} {f : State → α → State} (h : ∀ (s : State) a, s.Steady (f s a)) (l : List α) (s : State) :
    s.Steady (l.foldl f s) := by
  induction l generalizing s with
  | nil => exact .refl s
  | cons a l ih => exact (h s a).trans (ih _)

/-! ### Channels (chapter 1) -/

theorem clampTemp_inTempRange (t : Int) : inTempRange (clampTemp t) := by
  show (-960 : Int) ≤ max (-960) (min t 960) ∧ max (-960) (min t 960) ≤ (960 : Int)
  omega

theorem Channel.good_inRange {x : Channel} (code : BitVec 12) (h : x.inRange) : (x.good code).inRange := by
  obtain ⟨hlow, hhigh, hoffset, -, -⟩ := h
  exact ⟨hlow, hhigh, hoffset, clampTemp_inTempRange _, Nat.zero_le 3⟩

theorem Channel.failed_inRange {x : Channel} (cls : ChannelState) (code : Option (BitVec 12)) (h : x.inRange) :
    (x.failed cls code).inRange := by
  obtain ⟨hlow, hhigh, hoffset, htemp, -⟩ := h
  exact ⟨hlow, hhigh, hoffset, htemp, Nat.min_le_right _ _⟩

theorem raiseProbeFault_steady (c : Fin 32) (s : State) : s.Steady (raiseProbeFault c s) :=
  s.steady_raiseCondition _ _ _ _ fun t => t.steady_modifyChannel c (fun _ => ⟨rfl, rfl⟩) fun _ h => h

theorem classifyGood_steady (c : Fin 32) (code : BitVec 12) (s : State) : s.Steady (classifyGood c code s) := by
  have hset : s.Steady (s.setChannel c ((s.channel c).good code)) :=
    s.steady_setChannel c ⟨rfl, rfl⟩ fun hs => Channel.good_inRange code (hs.1 c)
  unfold classifyGood
  dsimp only
  split
  · exact hset
  · exact (hset.trans (State.steady_modifyChannel _ c (f := fun x => { x with unposted := false }) (fun _ => ⟨rfl, rfl⟩)
      fun _ h => h)).returned _ _

theorem classifyFailure_steady (c : Fin 32) (cls : ChannelState) (code : Option (BitVec 12)) (s : State) :
    s.Steady (classifyFailure c cls code s) := by
  have hset : s.Steady (s.setChannel c ((s.channel c).failed cls code)) :=
    s.steady_setChannel c ⟨rfl, rfl⟩ fun hs => Channel.failed_inRange cls code (hs.1 c)
  unfold classifyFailure
  dsimp only
  split
  · exact hset
  · exact hset.trans (raiseProbeFault_steady c _)

theorem classifyCode_steady (c : Fin 32) (code : BitVec 12) (s : State) : s.Steady (classifyCode c code s) := by
  unfold classifyCode
  split
  · exact classifyFailure_steady _ _ _ s
  · split
    · exact classifyFailure_steady _ _ _ s
    · exact classifyGood_steady _ _ s

theorem continueRound_steady (start : Nat) (s : State) : s.Steady (continueRound start s) :=
  .of_frame (continueRound_frame start s) (by decide)

theorem completeTransaction_steady (bits : Word16) (s : State) : s.Steady (completeTransaction bits s) := by
  unfold completeTransaction
  split
  · refine State.Steady.trans ?_ (continueRound_steady _ _)
    split
    · exact .refl s
    · exact classifyCode_steady _ _ s
  · exact .refl s
  · exact .refl s

theorem expireReplyLimit_steady (s : State) : s.Steady (expireReplyLimit s) := by
  unfold expireReplyLimit
  split
  · refine State.Steady.trans ?_ (continueRound_steady _ _)
    split
    · exact .refl s
    · exact classifyFailure_steady _ _ _ s
  · exact .refl s
  · exact .refl s

/-! ### The vote and smoothing (R20, R22) -/

theorem mem_insertTemp {t u : Temperature} {l : List Temperature} : u ∈ insertTemp t l ↔ u = t ∨ u ∈ l := by
  induction l with
  | nil => simp [insertTemp]
  | cons v l ih =>
    unfold insertTemp
    split
    · simp
    · simp only [List.mem_cons, ih]
      tauto

theorem mem_sortTemps {u : Temperature} {l : List Temperature} : u ∈ sortTemps l ↔ u ∈ l := by
  induction l with
  | nil => rfl
  | cons t l ih => rw [sortTemps, mem_insertTemp, ih, List.mem_cons]

/-- What lies between two temperatures in range is in range. -/
theorem inTempRange_between {a b t : Int} (ha : inTempRange a) (hb : inTempRange b) (hlow : min a b ≤ t) (hhigh : t ≤ max a b) :
    inTempRange t := by
  have ha : -960 ≤ a ∧ a ≤ 960 := ha
  have hb : -960 ≤ b ∧ b ≤ 960 := hb
  show (-960 : Int) ≤ t ∧ t ≤ 960
  omega

theorem half_between (a b : Int) : min a b ≤ (a + b + 1) / 2 ∧ (a + b + 1) / 2 ≤ max a b := by omega

/-- A weight of at most 1 takes no step past the difference (R22). -/
theorem weighted_between (d : Int) {weight : Nat} (hlow : 1 ≤ weight) (hhigh : weight ≤ 256) :
    min 0 d ≤ (d * weight + 128) / 256 ∧ (d * weight + 128) / 256 ≤ max 0 d := by
  have hw1 : (1 : Int) ≤ weight := by exact_mod_cast hlow
  have hw2 : (weight : Int) ≤ 256 := by exact_mod_cast hhigh
  rcases le_total 0 d with hd | hd
  · have h1 : 0 ≤ d * weight := mul_nonneg hd (by omega)
    have h2 : d * weight ≤ d * 256 := mul_le_mul_of_nonneg_left hw2 hd
    omega
  · have h1 : d * weight ≤ 0 := mul_nonpos_of_nonpos_of_nonneg hd (by omega)
    have h2 : d * 256 ≤ d * weight := mul_le_mul_of_nonpos_left hw2 hd
    omega

theorem between_shift {r f step : Int} (hlow : min 0 (r - f) ≤ step) (hhigh : step ≤ max 0 (r - f)) :
    min f r ≤ f + step ∧ f + step ≤ max f r := by omega

theorem unit_between {d : Int} (h : d ≠ 0) : min 0 d ≤ (if 0 < d then 1 else -1) ∧ (if 0 < d then 1 else -1) ≤ max 0 d := by
  split <;> omega

/-- A vote lies within the range of its probes. -/
theorem vote_inTempRange {temps : List Temperature} (h : ∀ t ∈ temps, inTempRange t) {v : Temperature} (hv : vote temps = some v) :
    inTempRange v := by
  have hsort : ∀ t ∈ sortTemps temps, inTempRange t := fun t ht => h t (mem_sortTemps.mp ht)
  unfold vote at hv
  split at hv
  · next a heq => cases hv; exact hsort v (by simp [heq])
  · next a b heq => cases hv; exact hsort v (by simp [heq])
  · next a b c heq => cases hv; exact hsort v (by simp [heq])
  · next a b c d heq =>
    cases hv
    exact inTempRange_between (hsort b (by simp [heq])) (hsort c (by simp [heq])) (half_between b c).1 (half_between b c).2
  · cases hv

/-- A smoothing step does not pass the reading (R22). -/
theorem smoothStep_inTempRange {reading filtered : Temperature} {weight : Nat} (hlow : 1 ≤ weight) (hhigh : weight ≤ 256)
    (hr : inTempRange reading) (hf : inTempRange filtered) :
    inTempRange (filtered + smoothStep reading filtered weight) := by
  have hstep : min 0 (reading - filtered) ≤ smoothStep reading filtered weight
      ∧ smoothStep reading filtered weight ≤ max 0 (reading - filtered) := by
    unfold smoothStep
    dsimp only
    split
    · next h => exact unit_between h.2
    · exact weighted_between _ hlow hhigh
  obtain ⟨h1, h2⟩ := between_shift hstep.1 hstep.2
  exact inTempRange_between hf hr h1 h2

theorem Room.voted_inRange {x : Room} {temps : List Temperature} (h : x.inRange) (ht : ∀ t ∈ temps, inTempRange t)
    (hn : temps.length ≤ 4) : (x.voted temps).inRange := by
  obtain ⟨hlow, hhigh, hreading, hfiltered, -, hrest⟩ := h
  unfold Room.voted
  split
  · exact ⟨hlow, hhigh, hreading, hfiltered, hn, hrest⟩
  · next v hv =>
    have hvote := vote_inTempRange ht hv
    refine ⟨hlow, hhigh, hvote, ?_, hn, hrest⟩
    dsimp only
    split
    · exact smoothStep_inTempRange hlow hhigh hvote hfiltered
    · exact hvote

theorem State.probeTemps_inTempRange {s : State} (hs : s.temperaturesKept) (role : ChannelRole) (r : Fin 8) :
    ∀ t ∈ s.probeTemps role r, inTempRange t := by
  intro t ht
  obtain ⟨c, -, hc⟩ := List.mem_filterMap.mp ht
  dsimp only at hc
  split at hc
  · cases hc
    exact (hs.1 c).2.2.2.1
  · cases hc

/-- The valid probes of a role in a room are no more than its channels there. -/
theorem State.length_probeTemps_le (s : State) (role : ChannelRole) (r : Fin 8) :
    (s.probeTemps role r).length ≤ countWhere 32 fun c => (s.channel c).role == role && (s.channel c).room == r := by
  unfold State.probeTemps countWhere
  generalize List.finRange 32 = l
  induction l with
  | nil => exact Nat.le_refl 0
  | cons c l ih =>
    rw [List.filterMap_cons, List.countP_cons]
    dsimp only
    by_cases h : ((s.channel c).valid && (s.channel c).role == role && (s.channel c).room == r) = true
    · have hplace : ((s.channel c).role == role && (s.channel c).room == r) = true := by
        simp only [Bool.and_eq_true] at h ⊢
        exact ⟨h.1.2, h.2⟩
      rw [if_pos h, if_pos hplace]
      exact Nat.succ_le_succ ih
    · rw [if_neg h]
      exact Nat.le_add_right_of_le ih

/-! ### Rooms (chapter 2) -/

theorem evaluateHigh_steady (r : Fin 8) (s : State) : s.Steady (evaluateHigh r s) := by
  unfold evaluateHigh
  dsimp only
  have hset : ∀ t : Timer, s.Steady (s.setRoom r { s.room r with highTimer := t }) := fun _ =>
    s.steady_setRoom r rfl fun hs => hs.2.1 r
  split
  · exact ((hset _).roomRecord r).returned _ _
  · exact hset _

theorem evaluateLow_steady (r : Fin 8) (s : State) : s.Steady (evaluateLow r s) := by
  unfold evaluateLow
  dsimp only
  have hset : ∀ t : Timer, s.Steady (s.setRoom r { s.room r with lowTimer := t }) := fun _ =>
    s.steady_setRoom r rfl fun hs => hs.2.1 r
  split
  · exact ((hset _).roomRecord r).returned _ _
  · exact hset _

theorem evaluateRoom_steady (r : Fin 8) (s : State) : s.Steady (evaluateRoom r s) := by
  unfold evaluateRoom
  split
  · exact (evaluateHigh_steady r s).trans (evaluateLow_steady r _)
  · exact .refl s

theorem raiseProbesLost_steady (r : Fin 8) (s : State) : s.Steady (raiseProbesLost r s) :=
  (State.Steady.roomRecord (.refl s) r).trans (State.steady_raiseCondition _ _ _ _ _ fun t =>
    .roomRecord (.refl t) r)

theorem evaluateLost_steady (r : Fin 8) (s : State) : s.Steady (evaluateLost r s) := by
  unfold evaluateLost
  dsimp only
  split
  · split
    · exact raiseProbesLost_steady r s
    · exact .refl s
  · split
    · refine State.Steady.returned ?_ _ _
      exact s.steady_setRoom r rfl fun hs => hs.2.1 r
    · exact .refl s

theorem roundRoom_steady (r : Fin 8) (s : State) : s.Steady (roundRoom r s) := by
  have hkind : ∀ (x : Room) temps, (x.voted temps).kind = x.kind := fun x temps => by
    unfold Room.voted
    split <;> rfl
  exact ((s.steady_setRoom r (hkind _ _) fun hs => Room.voted_inRange (hs.2.1 r) (State.probeTemps_inTempRange hs _ r)
    ((s.length_probeTemps_le _ r).trans (hs.2.2 r).1)).trans (evaluateRoom_steady r _)).trans (evaluateLost_steady r _)

theorem roundRooms_steady (s : State) : s.Steady (roundRooms s) := steady_forEach roundRoom_steady s

theorem resumeHigh_steady (r : Fin 8) (s : State) : s.Steady (resumeHigh r s) :=
  s.steady_modifyRoom r (fun _ => rfl) fun _ h => h

theorem expireHigh_steady (r : Fin 8) (s : State) : s.Steady (expireHigh r s) := by
  unfold expireHigh
  split
  · exact (State.Steady.roomRecord (.refl s) r).trans (State.steady_raiseCondition _ _ _ _ _ fun t =>
      .roomRecord (.refl t) r)
  · exact .refl s

theorem expireLow_steady (r : Fin 8) (s : State) : s.Steady (expireLow r s) := by
  unfold expireLow
  split
  · exact (State.Steady.roomRecord (.refl s) r).trans (State.steady_raiseCondition _ _ _ _ _ fun t =>
      .roomRecord (.refl t) r)
  · exact .refl s

theorem settleRooms_steady (s : State) : s.Steady (settleRooms s) :=
  steady_forEach (fun r s => (expireHigh_steady r s).trans (expireLow_steady r _)) s

/-! ### Doors (chapter 3) -/

theorem sampleStrobe_steady (tp pc sm : BitVec 24) (s : State) : s.Steady (sampleStrobe tp pc sm s) :=
  steady_forEach (fun d s => .doorRecord (.refl s) d) s

theorem enterFault_steady (cause : FaultCause) (d : Fin 24) (s : State) : s.Steady (enterFault cause d s) :=
  (State.Steady.doorRecord (.refl s) d).trans (State.steady_raiseCondition _ _ _ _ _ fun t => .doorRecord (.refl t) d)

theorem leaveBreach_steady (d : Fin 24) (s : State) : s.Steady (leaveBreach d s) :=
  (State.Steady.doorRecord (.refl s) d).returned _ _

theorem deriveDoor_steady (d : Fin 24) (s : State) : s.Steady (deriveDoor d s) := by
  unfold deriveDoor
  split
  · exact enterFault_steady _ d s
  all_goals exact .doorRecord (.refl s) d

theorem doorTransition_steady (i : DoorInput) (level : Bool) (d : Fin 24) (s : State) :
    s.Steady (doorTransition i level d s) := by
  unfold doorTransition
  split
  · unfold doorTrailerArrives
    split
    · exact .doorRecord (.refl s) d
    all_goals exact .refl s
  · unfold doorTrailerLeaves
    split
    · exact .doorRecord (.refl s) d
    · split
      · exact enterFault_steady _ d s
      · exact .doorRecord (.refl s) d
    · exact enterFault_steady _ d s
    · exact enterFault_steady _ d s
    all_goals exact .refl s
  · unfold doorPanelCloses
    split
    · exact .doorRecord (.refl s) d
    · exact (leaveBreach_steady d s).trans (deriveDoor_steady d _)
    all_goals exact .refl s
  · unfold doorPanelOpens
    dsimp only
    split
    case h_5 =>
      split
      · exact .doorRecord (.refl s) d
      · exact .doorRecord (.refl s) d
    case h_6 => exact .refl s
    case h_7 => exact .refl s
    case h_8 => exact .refl s
    all_goals exact .doorRecord (.refl s) d
  · unfold doorSealMade
    dsimp only
    split
    · exact enterFault_steady _ d s
    · exact .doorRecord (.refl s) d
    · exact .doorRecord (.refl s) d
    · split
      · exact (leaveBreach_steady d s).doorRecord d
      · exact .refl s
    all_goals exact .refl s
  · unfold doorSealLost
    split
    · exact .doorRecord (.refl s) d
    · exact .doorRecord (.refl s) d
    all_goals exact .refl s

theorem doorEvent_steady (i : DoorInput) (level : Bool) (d : Fin 24) (s : State) : s.Steady (doorEvent i level d s) := by
  have hgrace : ∀ (before : DoorState) (t : State), t.Steady (restartGrace before d t) := fun before t => by
    unfold restartGrace
    split
    · exact .doorRecord (.refl t) d
    · exact .refl t
  unfold doorEvent
  dsimp only
  refine State.Steady.trans (State.Steady.trans ?_ (doorTransition_steady i level d _)) (hgrace _ _)
  split
  · exact .doorRecord (.refl s) d
  · exact .refl s

theorem expireSeal_steady (d : Fin 24) (s : State) : s.Steady (expireSeal d s) := by
  unfold expireSeal
  dsimp only
  split
  · split
    · exact (s.steady_post _ _ _).doorRecord d
    · exact (s.steady_post _ _ _).doorRecord d
  · exact .refl s

theorem expireBreach_steady (d : Fin 24) (s : State) : s.Steady (expireBreach d s) := by
  unfold expireBreach
  dsimp only
  split
  · exact (State.Steady.doorRecord (.refl s) d).trans (State.steady_raiseCondition _ _ _ _ _ fun t => .doorRecord (.refl t) d)
  · exact .refl s

theorem expireRelease_steady (d : Fin 24) (s : State) : s.Steady (expireRelease d s) := by
  unfold expireRelease
  dsimp only
  split
  · split
    · exact enterFault_steady _ d s
    · split
      · exact .doorRecord (.refl s) d
      · exact .doorRecord (.refl s) d
  · exact .refl s

theorem settleDoor_steady (d : Fin 24) (s : State) : s.Steady (settleDoor d s) :=
  ((expireSeal_steady d s).trans (expireBreach_steady d _)).trans (expireRelease_steady d _)

theorem debouncedChange_steady (d : Fin 24) (i : DoorInput) (s : State) : s.Steady (debouncedChange d i s) := by
  have htake : ∀ t : State, t.Steady (takeChange d i t) := fun t => by
    have hinput : t.Steady (t.modifyDoor d fun x => x.setInput i (InputLine.change ((t.door d).input i))) :=
      t.steady_modifyDoor d fun x => by cases i <;> exact ⟨rfl, rfl⟩
    unfold takeChange
    dsimp only
    split
    · exact hinput.trans (doorEvent_steady _ _ d _)
    · exact hinput
  unfold debouncedChange
  split
  · exact (settleDoor_steady d s).trans (htake _)
  · exact .refl s

theorem givePermits_steady (r : Fin 8) (s : State) : s.Steady (givePermits r s) := by
  refine steady_forEach (fun d s => ?_) s
  unfold givePermit
  dsimp only
  split
  · refine State.Steady.trans ?_ (State.steady_post _ _ _ _)
    exact s.steady_setDoor d ⟨rfl, rfl⟩
  · exact .refl s

theorem deriveDoors_steady (s : State) : s.Steady (deriveDoors s) := by
  refine steady_forEach (fun d s => ?_) s
  split
  · exact deriveDoor_steady d s
  · exact .refl s

theorem restartDoors_steady (s : State) : s.Steady (restartDoors s) := by
  refine steady_forEach (fun d s => ?_) s
  unfold restartDoor
  dsimp only
  have hderived := (State.Steady.doorRecord (.refl s) d (f := Door.restarted)).trans (deriveDoor_steady d _)
  split
  · split
    · exact hderived.doorRecord d
    · exact hderived
  · exact .refl s

end Sys2Proof.Machine
end

section
/-! PROOFS. What every command but the structural requests keeps: the defrost, move and trailer blocks, expiries, ticks and restarts. -/

namespace Sys2Proof.Machine

set_option Elab.async false

theorem State.Steady.posted {s t : State} (h : s.Steady t) (code : AlarmCode) (subject : Subject) (detail : Option Word16) :
    s.Steady (t.post code subject detail) := h.trans (t.steady_setAlarms _)

/-- A choice between two ways that are both steady. -/
theorem State.Steady.ite {s t u : State} {p : Prop} [Decidable p] (h : s.Steady t) (k : s.Steady u) :
    s.Steady (if p then t else u) := by
  split
  · exact h
  · exact k

/-- An entry of a table mapped. -/
theorem mapTable_entry {α β : Type} {n : Nat} (f : α → β) (v : Vector α n) (i : Fin n) : (mapTable f v)[i] = f v[i] :=
  mapTable_get rfl i

/-! ### The Defrost Unit (chapter 4) -/

theorem raiseFrostDue_steady (r : Fin 8) (s : State) : s.Steady (raiseFrostDue r s) :=
  (State.Steady.defrostRecord (.refl s) r).trans (State.steady_raiseCondition _ _ _ _ _ fun t => .defrostRecord (.refl t) r)

theorem raiseForced_steady (r : Fin 8) (s : State) : s.Steady (raiseForced r s) :=
  (State.Steady.defrostRecord (.refl s) r).trans (State.steady_raiseCondition _ _ _ _ _ fun t => .defrostRecord (.refl t) r)

theorem raiseOverrun_steady (r : Fin 8) (s : State) : s.Steady (raiseOverrun r s) :=
  (State.Steady.defrostRecord (.refl s) r).trans (State.steady_raiseCondition _ _ _ _ _ fun t => .defrostRecord (.refl t) r)

theorem testFrostDue_steady (r : Fin 8) (s : State) : s.Steady (testFrostDue r s) :=
  .ite (raiseFrostDue_steady r s) (.refl s)

theorem testForced_steady (r : Fin 8) (s : State) : s.Steady (testForced r s) :=
  .ite ((State.Steady.defrostRecord (.refl s) r).trans (raiseForced_steady r _)) (.refl s)

theorem accumulateFrost_steady (r : Fin 8) (s : State) : s.Steady (accumulateFrost r s) := by
  refine .ite (.refl s) (State.Steady.trans (State.Steady.trans ?_ (testFrostDue_steady r _)) (testForced_steady r _))
  exact s.steady_setDefrost r rfl

theorem grant_steady (r : Fin 8) (s : State) : s.Steady (grant r s) := by
  have htake : s.Steady ({ s with defrostQueue := s.defrostQueue.erase r }.takeLoad r) :=
    .of_frame (fs := [.defrostQueue, .remainingCapacity]) rfl (by decide)
  refine State.Steady.posted (htake.trans ?_) _ _ _
  exact State.steady_setDefrost _ r rfl

theorem arbiterTurn_steady (s : State) (bar : Bool) (r : Fin 8) : s.Steady (arbiterTurn (s, bar) r).1 := by
  have hstate : s.Steady (s.modifyDefrost r fun x => { x with state := s.queueState r }) := .defrostRecord (.refl s) r
  unfold arbiterTurn
  dsimp only
  split
  · exact hstate
  · split
    · exact hstate
    · split
      · exact hstate
      · exact hstate.trans (grant_steady r _)

theorem evaluateQueue_steady (s : State) : s.Steady (evaluateQueue s) := by
  have go : ∀ (l : List (Fin 8)) (a : State × Bool), a.1.Steady (l.foldl arbiterTurn a).1 := by
    intro l
    induction l with
    | nil => intro a; exact .refl _
    | cons r l ih => intro a; exact (arbiterTurn_steady a.1 a.2 r).trans (ih _)
  exact go _ (s, false)

theorem accumulateAll_steady (s : State) : s.Steady (accumulateAll s) :=
  (steady_forEach accumulateFrost_steady s).trans (evaluateQueue_steady _)

theorem returnLoad_steady (r : Fin 8) (s : State) : s.Steady (s.returnLoad r) :=
  .of_frame (fs := [.remainingCapacity]) rfl (by decide)

theorem expireGrantHold_steady (r : Fin 8) (s : State) : s.Steady (expireGrantHold r s) := by
  refine .ite (State.Steady.trans (State.Steady.trans (State.Steady.posted (State.Steady.trans ?_ (returnLoad_steady r _)) _ _ _)
    (givePermits_steady r _)) (evaluateQueue_steady _)) (.refl s)
  exact s.steady_setDefrost r rfl

theorem expireHeating_steady (r : Fin 8) (s : State) : s.Steady (expireHeating r s) := by
  refine .ite (State.Steady.trans ?_ (raiseOverrun_steady r _)) (.refl s)
  exact s.steady_setDefrost r rfl

theorem expireDrip_steady (r : Fin 8) (s : State) : s.Steady (expireDrip r s) := by
  refine .ite (State.Steady.trans ?_ (givePermits_steady r _)) (.refl s)
  exact s.steady_setDefrost r rfl

theorem expireRecovery_steady (r : Fin 8) (s : State) : s.Steady (expireRecovery r s) := by
  refine .ite (State.Steady.trans (State.Steady.posted ?_ _ _ _) (resumeHigh_steady r _)) (.refl s)
  exact s.steady_setDefrost r rfl

theorem testRecovery_steady (r : Fin 8) (s : State) : s.Steady (testRecovery r s) :=
  .ite ((State.Steady.defrostRecord (.refl s) r (f := Defrost.recovered)).trans (resumeHigh_steady r _)) (.refl s)

theorem expireInhibit_steady (r : Fin 8) (s : State) : s.Steady (expireInhibit r s) :=
  .ite ((State.Steady.defrostRecord (.refl s) r).trans (evaluateQueue_steady _)) (.refl s)

theorem settleDefrost_steady (r : Fin 8) (s : State) : s.Steady (settleDefrost r s) :=
  ((((expireGrantHold_steady r s).trans (expireHeating_steady r _)).trans (expireDrip_steady r _)).trans
    (expireRecovery_steady r _)).trans (expireInhibit_steady r _)

theorem testTerminate_steady (r : Fin 8) (s : State) : s.Steady (testTerminate r s) := by
  unfold testTerminate
  dsimp only
  split
  · exact .refl s
  · refine .ite (State.Steady.posted ?_ _ _ _) (.refl s)
    exact s.steady_setDefrost r rfl

theorem roundDefrost_steady (s : State) : s.Steady (roundDefrost s) :=
  .ite (steady_forEach (fun r s => (testTerminate_steady r s).trans (testRecovery_steady r _)) s) (.refl s)

theorem reraiseDefrost_steady (r : Fin 8) (s : State) : s.Steady (reraiseDefrost r s) := by
  have hdue : ∀ (p : Prop) [Decidable p] (t : State), t.Steady (if p then raiseFrostDue r t else t) := fun p _ t =>
    .ite (raiseFrostDue_steady r t) (.refl t)
  have hforced : ∀ (p : Prop) [Decidable p] (t : State), t.Steady (if p then raiseForced r t else t) := fun p _ t =>
    .ite (raiseForced_steady r t) (.refl t)
  have hoverrun : ∀ (p : Prop) [Decidable p] (t : State), t.Steady (if p then raiseOverrun r t else t) := fun p _ t =>
    .ite (raiseOverrun_steady r t) (.refl t)
  exact ((hdue _ s).trans (hforced _ _)).trans (hoverrun _ _)

/-! ### Moves and trailers (chapter 6) -/

theorem writeRecord_steady (j : JournalRecord) (s : State) : s.Steady (writeRecord j s) :=
  .of_frame (writeRecord_frame j s) (by decide)

theorem setMove_steady (s : State) (m : Fin 32) (x : Move) : s.Steady (s.setMove m x) :=
  .of_frame (frame_setMove (fs := [.moves]) (by decide) s m x) (by decide)

theorem endMove_steady (kind : RecordKind) (f : EndFlags) (settle : Option (PalletState × Place)) (m : Fin 32) (s : State) :
    s.Steady (endMove kind f settle m s) := by
  have hmoved : s.Steady (settleMoved m settle s) := .of_frame (settleMoved_frame m settle s) (by decide)
  have hrecord := hmoved.trans (writeRecord_steady (moveRecord kind f (s.move m) ((settleMoved m settle s).movedPallet m) s.clock) _)
  exact (State.Steady.trans (.ite (hrecord.returned _ _) hrecord) (setMove_steady _ m _)).trans (evaluateQueue_steady _)

theorem expireLapse_steady (m : Fin 32) (s : State) : s.Steady (expireLapse m s) :=
  .ite ((endMove_steady _ _ _ m s).posted _ _ _) (.refl s)

theorem expireTransit_steady (m : Fin 32) (s : State) : s.Steady (expireTransit m s) :=
  .of_frame (expireTransit_frame m s) (by decide)

theorem restartMoves_steady (s : State) : s.Steady (restartMoves s) := by
  refine steady_forEach (fun m s => ?_) s
  unfold restartMove
  split
  · exact .refl s
  · exact endMove_steady _ _ _ m s
  · exact endMove_steady _ _ _ m s

theorem writeOff_steady (d : Fin 24) (s : State) : s.Steady (writeOff d s) := by
  have hmoves : s.Steady (forEach 32 (writeOffMove d) s) := steady_forEach (fun m s => .ite (endMove_steady _ _ _ m s) (.refl s)) s
  exact ((hmoves.trans (.of_frame (shipAboard_frame true d _) (by decide))).trans
    (.of_frame (rejectInbound_frame d _) (by decide))).doorRecord d

/-! ### Expiries and ticks -/

/-- The expiries of the ticks before are steady (R3). -/
theorem settleTimers_steady (s : State) : s.Steady (settleTimers s) :=
  (((settleRooms_steady s).trans (steady_forEach settleDoor_steady _)).trans (steady_forEach settleDefrost_steady _)).trans
    (steady_forEach (fun m s => (expireLapse_steady m s).trans (expireTransit_steady m _)) _)

theorem clearMark_steady (s : State) (x : RetryMark) : s.Steady (s.clearMark x) := by
  unfold State.clearMark
  split
  · exact s.steady_modifyChannel _ (fun _ => ⟨rfl, rfl⟩) fun _ h => h
  · exact .roomRecord (.refl s) _
  · exact .roomRecord (.refl s) _
  · exact .roomRecord (.refl s) _
  · exact .doorRecord (.refl s) _
  · exact .doorRecord (.refl s) _
  · exact .defrostRecord (.refl s) _
  · exact .defrostRecord (.refl s) _
  · exact .defrostRecord (.refl s) _
  · exact .of_frame (frame_setPallet (fs := [.pallets]) (by decide) s _ _) (by decide)
  · exact .of_frame (frame_setPallet (fs := [.pallets]) (by decide) s _ _) (by decide)
  · exact setMove_steady s _ _
  · exact .of_frame (frame_setJournal (fs := [.journal]) (by decide) s _) (by decide)

theorem retryMark_steady (s : State) (x : RetryMark) : s.Steady (retryMark s x) := by
  refine .ite ?_ (.refl s)
  rw [State.retryCondition_eq]
  exact .ite ((s.steady_setAlarms _).trans (clearMark_steady _ x)) (s.steady_setAlarms _)

theorem retryAll_steady (order : List RetryBlock) (s : State) : s.Steady (retryAll order s) := by
  rw [retryAll_eq]
  exact steady_foldl retryMark_steady _ s

theorem tickTimers_steady (s : State) : s.Steady (tickTimers s) := by
  have hroom : ∀ r, (tickTimers s).room r = (s.room r).tick := mapTable_entry Room.tick s.rooms
  have hdoor : ∀ d, (tickTimers s).door d = (s.door d).tick := mapTable_entry Door.tick s.doors
  have hdefrost : ∀ r, (tickTimers s).defrost r = (s.defrost r).tick := mapTable_entry Defrost.tick s.defrosts
  refine ⟨rfl, rfl, rfl, rfl, rfl, rfl, fun _ => ⟨rfl, rfl⟩, fun r => ?_, fun d => ?_, fun hs =>
    State.temperaturesKept_of_records hs (fun _ => ⟨rfl, rfl⟩) hs.1 fun r => ?_⟩
  · rw [hroom, hdefrost]; exact ⟨rfl, rfl⟩
  · rw [hdoor]; exact ⟨rfl, rfl⟩
  · rw [hroom]; exact hs.2.1 r

/-- A second tick, once the clock has moved and the expiries before it have been taken, is steady. -/
theorem tickSecond_steady (order : List RetryBlock) (s : State) :
    ({ settleTimers s with clock := (settleTimers s).clock + 1 } : State).Steady (tickSecond order s) :=
  (((tickTimers_steady _).trans (.of_frame (advancePhase_frame _) (by decide))).trans
    (.of_frame (startRound_frame _) (by decide))).trans (retryAll_steady order _)

theorem tickExposure_steady (first : Bool) (s : State) : s.Steady (tickExposure first s) := by
  have hdue : s.Steady { s with exposureDue := false } := .of_frame (fs := [.exposureDue]) rfl (by decide)
  have hcharge : ∀ t : State, t.Steady (chargePallets t) := fun t => .of_frame (chargePallets_frame t) (by decide)
  exact .ite (.ite ((hdue.trans (accumulateAll_steady _)).trans (hcharge _)) ((hdue.trans (hcharge _)).trans (accumulateAll_steady _)))
    (.refl s)

theorem completeRound_steady (first : Bool) (s : State) : s.Steady (completeRound first s) := by
  have hidle : s.Steady { s with round := .idle } := .of_frame (fs := [.round]) rfl (by decide)
  have hround := hidle.trans (settleRooms_steady _)
  unfold completeRound
  split
  · exact .ite ((hround.trans (roundDefrost_steady _)).trans (roundRooms_steady _))
      ((hround.trans (roundRooms_steady _)).trans (roundDefrost_steady _))
  · exact .refl s
  · exact .refl s

/-! ### Restarts and the entry into RUN -/

theorem restartDefrost_steady (s : State) : s.Steady (restartDefrost s) := by
  have hdefrost : ∀ r, (restartDefrost s).defrost r = (s.defrost r).restarted := mapTable_entry Defrost.restarted s.defrosts
  refine ⟨rfl, rfl, rfl, rfl, rfl, rfl, fun _ => ⟨rfl, rfl⟩, fun r => ⟨rfl, ?_⟩, fun _ => ⟨rfl, rfl⟩, id⟩
  rw [hdefrost]
  unfold Defrost.restarted
  split <;> rfl

theorem clearTable_steady (s : State) : s.Steady (clearTable s) := by
  have hchannel : ∀ c, (clearTable s).channel c = (s.channel c).clearUnposted := mapTable_entry Channel.clearUnposted s.channels
  have hroom : ∀ r, (clearTable s).room r = (s.room r).clearAlarms := mapTable_entry Room.clearAlarms s.rooms
  have hdefrost : ∀ r, (clearTable s).defrost r = (s.defrost r).clearAlarms := mapTable_entry Defrost.clearAlarms s.defrosts
  have hplace : ∀ c, ((clearTable s).channel c).role = (s.channel c).role ∧ ((clearTable s).channel c).room = (s.channel c).room :=
    fun c => by rw [hchannel]; exact ⟨rfl, rfl⟩
  refine ⟨rfl, rfl, rfl, rfl, rfl, rfl, hplace, fun r => ?_, fun _ => ⟨rfl, rfl⟩, fun hs =>
    State.temperaturesKept_of_records hs hplace (fun c => ?_) fun r => ?_⟩
  · rw [hroom, hdefrost]; exact ⟨rfl, rfl⟩
  · rw [hchannel]; exact hs.1 c
  · rw [hroom]; exact hs.2.1 r

theorem restartRooms_steady (s : State) : s.Steady (restartRooms s) :=
  steady_forEach (fun r s => (State.Steady.roomRecord (.refl s) r (f := Room.stopTimers)).trans (evaluateRoom_steady r _)) s

theorem reraiseConditions_steady (s : State) : s.Steady (reraiseConditions s) := by
  have hprobes : s.Steady (forEach 32 reraiseProbe s) := steady_forEach (fun c s => .ite (.refl s) (raiseProbeFault_steady c s)) s
  have hjournal : ∀ t : State, t.Steady (reraiseJournal t) := fun t =>
    .ite (.of_frame (raiseJournalHigh_frame t) (by decide)) (.refl t)
  exact (((hprobes.trans (steady_forEach evaluateLost_steady _)).trans (steady_forEach reraiseDefrost_steady _)).trans
    (.of_frame (frame_forEach reraisePallet_frame _) (by decide))).trans (hjournal _)

theorem restartPart_steady (s : State) : s.Steady (restartPart s) :=
  (((State.Steady.posted (((restartMoves_steady s).trans (restartDefrost_steady _)).trans (clearTable_steady _)) _ _ _).trans
    (restartDoors_steady _)).trans (restartRooms_steady _)).trans (reraiseConditions_steady _)

/-- The entry into RUN, once the mode has changed, is steady. -/
theorem enterRun_steady (s : State) : ({ s with mode := .run } : State).Steady (enterRun s) := by
  have hstart : ({ s with mode := .run } : State).Steady { s with
      mode := .run, phase := 0, defrosts := mapTable Defrost.entered s.defrosts, remainingCapacity := s.heaterCapacity
      defrostQueue := [] } := by
    have hload : ∀ r : Fin 8, ((mapTable Defrost.entered s.defrosts)[r]).heaterLoad = (s.defrost r).heaterLoad := fun r => by
      rw [mapTable_entry]; rfl
    exact ⟨rfl, rfl, rfl, rfl, rfl, rfl, fun _ => ⟨rfl, rfl⟩, fun r => ⟨rfl, hload r⟩, fun _ => ⟨rfl, rfl⟩, id⟩
  exact ((hstart.trans (deriveDoors_steady _)).trans (steady_forEach evaluateRoom_steady _)).posted _ _ _

end Sys2Proof.Machine
end

section
/-! PROOFS. What requests keep: each operational request is steady; each structural one keeps the clock and the ranges. -/

namespace Sys2Proof.Machine

set_option Elab.async false

/-! ### Answers about an index -/

theorem onRoom_steady {b : Byte} {s : State} {k : Fin 8 → Answer} (h : ∀ r, s.Steady (k r).state) :
    s.Steady (onRoom b s k).state := by
  unfold onRoom
  split
  · exact h _
  · exact .refl s

theorem onDoor_steady {b : Byte} {s : State} {k : Fin 24 → Answer} (h : ∀ d, s.Steady (k d).state) :
    s.Steady (onDoor b s k).state := by
  unfold onDoor
  split
  · exact h _
  · exact .refl s

theorem done_steady {s t : State} (h : s.Steady t) : s.Steady (done t).state := h

theorem doneClamped_steady {s t : State} (h : s.Steady t) (forced : Bool) : s.Steady (doneClamped forced t).state := h

theorem reply_steady {s t : State} (h : s.Steady t) (status : Status) (values : List Byte) :
    s.Steady (Answer.mk t status values).state := h

/-- An answer chosen between two. -/
theorem answer_ite_steady {s : State} {p : Prop} [Decidable p] {a b : Answer} (h : s.Steady a.state) (k : s.Steady b.state) :
    s.Steady (if p then a else b).state := by
  split
  · exact h
  · exact k

theorem onEnabledDoor_steady {b : Byte} {s : State} {k : Fin 24 → Answer} (h : ∀ d, s.Steady (k d).state) :
    s.Steady (onEnabledDoor b s k).state :=
  onDoor_steady fun d => answer_ite_steady (h d) (.refl s)

/-! ### Reads, the table and the Journal -/

theorem readRoomSnapshot_steady (p : Port) (part : Byte) (s : State) : s.Steady (readRoomSnapshot p part s).state := by
  unfold readRoomSnapshot
  split
  · exact .refl s
  · split
    · exact .refl s
    · exact s.steady_setPort p _

theorem latchRooms_steady (p : Port) (s : State) : s.Steady (latchRooms p s).state := by
  unfold latchRooms
  dsimp only
  split
  · exact s.steady_setPort p _
  · exact answer_ite_steady (s.steady_setPort p _) (.refl s)

theorem readDoor_steady (door : Byte) (s : State) : s.Steady (readDoor door s).state :=
  onDoor_steady fun d => reply_steady (.doorRecord (.refl s) d) _ _

theorem readPallet_state (tag : Word32) (s : State) : (readPallet tag s).state = s := by
  unfold readPallet
  split
  · rfl
  · split <;> rfl

theorem readProbe_state (channel : Byte) (s : State) : (readProbe channel s).state = s := by
  unfold readProbe
  split <;> rfl

theorem readStatus_state (p : Port) (part : Byte) (s : State) : (readStatus p part s).state = s := by
  unfold readStatus
  split <;> rfl

theorem readJournal_state (count : Byte) (s : State) : (readJournal count s).state = s := by
  unfold readJournal
  split <;> rfl

theorem steady_takeAlarm (p : Port) (s : State) : s.Steady (takeAlarm p s).state := by
  unfold takeAlarm
  split
  · exact .refl s
  · exact s.steady_setAlarms _

theorem steady_endAlarm (p : Port) (s : State) : s.Steady (endAlarm p s).state := by
  unfold endAlarm
  dsimp only
  split
  · exact .refl s
  · exact s.steady_setAlarms _

theorem setAlarmRoutes_steady (p : Port) (code routed : Byte) (s : State) : s.Steady (setAlarmRoutes p code routed s).state := by
  unfold setAlarmRoutes
  split
  · exact s.steady_setAlarms _
  · exact .refl s

theorem setJournal_steady (s : State) (j : Journal) : s.Steady (s.setJournal j) :=
  .of_frame (frame_setJournal (fs := [.journal]) (by decide) s j) (by decide)

theorem releaseJournal_steady (count : Word16) (s : State) : s.Steady (releaseJournal count s).state :=
  .ite ((setJournal_steady s _).trans (.of_frame (testJournalReturn_frame _) (by decide))) (setJournal_steady s _)

theorem setJournalThreshold_steady (threshold : Word16) (s : State) : s.Steady (setJournalThreshold threshold s).state :=
  .ite (((setJournal_steady s _).trans (.of_frame (testJournalRaise_frame _) (by decide))).trans
    (.of_frame (testJournalReturn_frame _) (by decide))) (setJournal_steady s _)

/-! ### Doors -/

theorem doorArmSeal_steady (door : Byte) (s : State) : s.Steady (doorArmSeal door s).state :=
  onEnabledDoor_steady fun d => answer_ite_steady (done_steady (.doorRecord (.refl s) d)) (.refl s)

theorem doorOpenPermit_steady (door : Byte) (s : State) : s.Steady (doorOpenPermit door s).state := by
  refine onEnabledDoor_steady fun d => answer_ite_steady ?_ (.refl s)
  split
  · exact .refl s
  · exact .refl s
  · refine answer_ite_steady ?_ ?_
    · exact s.steady_setDoor d ⟨rfl, rfl⟩
    · exact s.steady_setDoor d ⟨rfl, rfl⟩

theorem doorClose_steady (door : Byte) (s : State) : s.Steady (doorClose door s).state := by
  refine onEnabledDoor_steady fun d => ?_
  dsimp only
  split
  · exact s.steady_setDoor d ⟨rfl, rfl⟩
  · exact s.steady_setDoor d ⟨rfl, rfl⟩
  all_goals exact .refl s

theorem doorRelease_steady (door : Byte) (s : State) : s.Steady (doorRelease door s).state :=
  have hship : ∀ d, s.Steady (shipAboard false d s) := fun d => .of_frame (shipAboard_frame false d s) (by decide)
  onEnabledDoor_steady fun d => answer_ite_steady (answer_ite_steady (.refl s) (done_steady ((hship d).doorRecord d))) (.refl s)

theorem doorOverride_steady (door on : Byte) (s : State) : s.Steady (doorOverride door on s).state := by
  refine onEnabledDoor_steady fun d => ?_
  split
  · exact .refl s
  · exact done_steady (.doorRecord (.refl s) d)

theorem doorClearFault_steady (door : Byte) (s : State) : s.Steady (doorClearFault door s).state :=
  onEnabledDoor_steady fun d => answer_ite_steady (answer_ite_steady (.refl s)
    (done_steady ((((State.Steady.ite (.refl s) (writeOff_steady d s)).doorRecord d).returned _ _).trans (deriveDoor_steady d _)))) (.refl s)

theorem reportTrailerTemperature_steady (door : Byte) (temperature : Word16) (s : State) :
    s.Steady (reportTrailerTemperature door temperature s).state :=
  onEnabledDoor_steady fun d => answer_ite_steady (doneClamped_steady (.doorRecord (.refl s) d) _) (.refl s)

/-! ### Channels and rooms -/

theorem setProbeCalibration_steady (channel : Byte) (gain offset : Word16) (s : State) :
    s.Steady (setProbeCalibration channel gain offset s).state := by
  unfold setProbeCalibration
  split
  · exact .refl s
  · dsimp only
    refine doneClamped_steady ?_ _
    refine State.steady_modifyChannel s _ (fun _ => ⟨rfl, rfl⟩) fun x h => ?_
    obtain ⟨-, -, -, htemp, hsuspect⟩ := h
    refine ⟨?_, ?_, clampTemp_inTempRange _, htemp, hsuspect⟩
    · exact Nat.le_max_left 1 _
    · exact Nat.max_le.mpr ⟨by decide, Nat.min_le_right _ _⟩

theorem limitChanged_steady (r : Fin 8) (s : State) : s.Steady (limitChanged r s) :=
  (evaluateRoom_steady r s).trans (testRecovery_steady r _)

/-- The effective upper limit follows the limits a request stores (R17). -/
theorem Room.withEffective_effective (x : Room) :
    x.withEffective.effectiveUpper = x.withEffective.withEffective.effectiveUpper := rfl

theorem setRoomLimits_steady (room : Byte) (upper lower highDelay lowDelay weight : Word16) (s : State) :
    s.Steady (setRoomLimits room upper lower highDelay lowDelay weight s).state := by
  refine onRoom_steady fun r => State.Steady.trans ?_ (limitChanged_steady r _)
  refine s.steady_modifyRoom r (fun _ => rfl) fun x h => ?_
  obtain ⟨-, -, hreading, hfiltered, hcount, -, -, -, hceiling, -, -, -⟩ := h
  refine ⟨Nat.le_max_left 1 _, Nat.max_le.mpr ⟨by decide, Nat.min_le_right _ _⟩, hreading, hfiltered, hcount,
    clampTemp_inTempRange _, ?_, Int.min_le_right _ _, hceiling, rfl, Nat.max_le.mpr ⟨by decide, Nat.min_le_right _ _⟩,
    Nat.max_le.mpr ⟨by decide, Nat.min_le_right _ _⟩⟩
  exact inTempRange_between (clampTemp_inTempRange lower.toInt) (clampTemp_inTempRange upper.toInt) (Int.le_refl _)
    (Int.le_trans (Int.min_le_left _ _) (Int.le_max_left _ _))

theorem setProductCeiling_steady (room present : Byte) (ceiling : Word16) (s : State) :
    s.Steady (setProductCeiling room present ceiling s).state := by
  have hceiling : ∀ (r : Fin 8) (c : Option Temperature), (∀ t, c = some t → inTempRange t) →
      s.Steady (s.modifyRoom r fun x => Room.withEffective { x with ceiling := c }) := fun r c hc =>
    s.steady_modifyRoom r (fun _ => rfl) fun x ⟨h1, h2, h3, h4, h5, h6, h7, h8, _, _, h11, h12⟩ =>
      ⟨h1, h2, h3, h4, h5, h6, h7, h8, hc, rfl, h11, h12⟩
  refine onRoom_steady fun r => ?_
  split
  · exact .refl s
  · exact (hceiling r _ fun t ht => by cases ht; exact clampTemp_inTempRange _).trans (limitChanged_steady r _)
  · exact (hceiling r _ fun t ht => by cases ht).trans (limitChanged_steady r _)

/-! ### Defrost requests -/

theorem setFrostParameters_steady (room baseRate : Byte) (threshold hardLimit : Word16) (s : State) :
    s.Steady (setFrostParameters room baseRate threshold hardLimit s).state := by
  refine onRoom_steady fun r => ?_
  dsimp only
  have htested := ((State.Steady.defrostRecord (.refl s) r (f := fun x =>
    { x with
      baseRate := baseRate.toNat, threshold := forceNat 1 65535 threshold.toNat
      hardLimit := max (forceNat 1 65535 hardLimit.toNat) (forceNat 1 65535 threshold.toNat) })).trans
    (testFrostDue_steady r _)).trans (testForced_steady r _)
  exact .ite (.ite (htested.trans (evaluateQueue_steady _)) htested) (.defrostRecord (.refl s) r)

theorem requestDefrost_steady (room : Byte) (s : State) : s.Steady (requestDefrost room s).state := by
  refine onRoom_steady fun r => ?_
  split
  · refine State.Steady.trans (State.Steady.trans (.defrostRecord (.refl s) r (f := fun x => { x with state := .queued }))
      (.of_frame (fs := [.defrostQueue]) ?_ (by decide))) (evaluateQueue_steady _)
    rfl
  all_goals exact .refl s

theorem withdrawDefrost_steady (room : Byte) (s : State) : s.Steady (withdrawDefrost room s).state := by
  have hqueued : ∀ r, s.Steady (evaluateQueue
      { s.modifyDefrost r fun x => { x with state := .idle } with defrostQueue := s.defrostQueue.erase r }) := fun r => by
    refine State.Steady.trans (State.Steady.trans (.defrostRecord (.refl s) r (f := fun x => { x with state := .idle }))
      (.of_frame (fs := [.defrostQueue]) ?_ (by decide))) (evaluateQueue_steady _)
    rfl
  have hlapsed : ∀ r, s.Steady ((s.modifyDefrost r fun x =>
      { x with state := .idle, phaseTimer := .stopped, forcedCycle := false }).returnLoad r) := fun r =>
    State.Steady.trans (.defrostRecord (.refl s) r) (returnLoad_steady r _)
  refine onRoom_steady fun r => ?_
  split
  · exact done_steady (hqueued r)
  · exact done_steady (hqueued r)
  · exact done_steady (((hlapsed r).trans (givePermits_steady r _)).trans (evaluateQueue_steady _))
  all_goals exact .refl s

theorem defrostBegun_steady (room : Byte) (s : State) : s.Steady (defrostBegun room s).state := by
  refine onRoom_steady fun r => ?_
  dsimp only
  refine answer_ite_steady ?_ (.refl s)
  have hheating : s.Steady (s.setDefrost r { s.defrost r with
      state := .heating, terminateMark := false, phaseTimer := .start (s.defrost r).heatingLimit }) := s.steady_setDefrost r rfl
  exact done_steady (State.Steady.roomRecord (.ite ((hheating.defrostRecord r).returned _ _) hheating) r)

theorem heatingEnded_steady (room cause : Byte) (s : State) : s.Steady (heatingEnded room cause s).state := by
  refine onRoom_steady fun r => ?_
  split
  · exact .refl s
  · next c _ =>
    refine answer_ite_steady ?_ (.refl s)
    have hdrip : s.Steady (s.setDefrost r { s.defrost r with
        state := .drip, phaseTimer := .stopped, forcedMark := false, lastTermination := c }) := s.steady_setDefrost r rfl
    have hload := hdrip.trans (returnLoad_steady r _)
    have hindex := (State.Steady.ite (p := (s.defrost r).overrunFlag = true) ((hload.defrostRecord r (f := fun x =>
      { x with overrunFlag := false, overrunUnposted := false })).returned .defrostOverrun (.room r)) hload).defrostRecord r
      (f := fun x => { x with frostIndex := 0 })
    exact done_steady (((State.Steady.ite ((hindex.defrostRecord r).returned _ _) hindex).defrostRecord r).trans
      (evaluateQueue_steady _))

theorem inhibitDefrost_steady (room : Byte) (seconds : Word16) (s : State) : s.Steady (inhibitDefrost room seconds s).state := by
  have hset : ∀ (r : Fin 8) (n : Nat), s.Steady (s.setDefrost r { s.defrost r with inhibit := n }) := fun r _ =>
    s.steady_setDefrost r rfl
  exact onRoom_steady fun r => .ite (.ite ((hset r _).trans (evaluateQueue_steady _)) (hset r _)) (hset r _)

/-! ### Pallet and move requests -/

theorem setPallet_steady (s : State) (q : Fin 256) (x : Pallet) : s.Steady (s.setPallet q x) :=
  .of_frame (frame_setPallet (fs := [.pallets]) (by decide) s q x) (by decide)

theorem enterPallet_steady (tag : Word32) (cls door : Byte) (s : State) : s.Steady (enterPallet tag cls door s).state := by
  unfold enterPallet
  split
  · refine answer_ite_steady (.refl s) (answer_ite_steady (.refl s) (answer_ite_steady (.refl s) ?_))
    split
    · exact .refl s
    · exact answer_ite_steady (setPallet_steady s _ _) (.refl s)
  · exact .refl s

theorem rejectPallet_steady (tag : Word32) (s : State) : s.Steady (rejectPallet tag s).state := by
  refine answer_ite_steady (.refl s) ?_
  split
  · exact .refl s
  · exact answer_ite_steady (.refl s) (.of_frame (freePallet_frame _ _ _ s) (by decide))

theorem requestMove_steady (tag : Word32) (destination : Byte) (s : State) : s.Steady (requestMove tag destination s).state := by
  have hto : ∀ q origin dest, s.Steady (requestMoveTo q origin dest s).state := fun q origin dest => by
    refine answer_ite_steady (.refl s) (answer_ite_steady (.refl s) (answer_ite_steady (.refl s) (answer_ite_steady (.refl s) ?_)))
    split
    · exact .refl s
    · exact answer_ite_steady ((setMove_steady s _ _).trans (setPallet_steady _ q _)) (.refl s)
  refine answer_ite_steady (.refl s) ?_
  split
  · exact .refl s
  · refine answer_ite_steady (.refl s) ?_
    split
    · exact answer_ite_steady (.refl s) (hto _ _ _)
    all_goals exact .refl s

theorem pick_steady (handle : Byte) (s : State) : s.Steady (pick handle s).state := by
  unfold pick
  split
  · exact .refl s
  · refine answer_ite_steady ?_ (.refl s)
    refine State.Steady.trans ?_ (setMove_steady _ _ _)
    split
    · exact setPallet_steady s _ _
    · exact .refl s

theorem put_steady (handle : Byte) (actual : Option Byte) (s : State) : s.Steady (put handle actual s).state := by
  unfold put
  split
  · exact .refl s
  · refine answer_ite_steady ?_ (.refl s)
    split
    · exact .refl s
    · exact endMove_steady _ _ _ _ s

theorem cancelMove_steady (handle : Byte) (location : Option Byte) (s : State) : s.Steady (cancelMove handle location s).state := by
  unfold cancelMove
  split
  · exact .refl s
  · refine answer_ite_steady (endMove_steady _ _ _ _ s) ?_
    split
    · exact endMove_steady _ _ _ _ s
    · split
      · exact .refl s
      · exact endMove_steady _ _ _ _ s

/-! ### Requests that SETUP alone takes (R173) -/

/-- The clock stays, and channels and rooms in range stay in range. -/
def State.Calm (s t : State) : Prop := t.clock = s.clock ∧ (s.temperaturesKept → t.temperaturesKept)

theorem State.Steady.calm {s t : State} (h : s.Steady t) : s.Calm t := ⟨h.clock, h.ranges⟩

theorem State.Calm.refl (s : State) : s.Calm s := ⟨rfl, id⟩

theorem State.Calm.trans {s t u : State} (h : s.Calm t) (k : t.Calm u) : s.Calm u := ⟨k.1.trans h.1, k.2 ∘ h.2⟩

/-- An index counted apart from the others. -/
theorem countP_split {α : Type} [DecidableEq α] {l : List α} (hl : l.Nodup) (p : α → Bool) {c : α} (hc : c ∈ l) :
    l.countP p = l.countP (fun i => i != c && p i) + if p c = true then 1 else 0 := by
  induction l with
  | nil => cases hc
  | cons a l ih =>
    obtain ⟨hnot, hl⟩ := List.nodup_cons.mp hl
    rw [List.countP_cons, List.countP_cons]
    by_cases hac : a = c
    · subst hac
      have hsame : l.countP (fun i => i != a && p i) = l.countP p := List.countP_congr fun i hi => by
        have : i ≠ a := fun h => hnot (h ▸ hi)
        simp [this]
      simp [hsame]
    · rw [ih hl ((List.mem_cons.mp hc).resolve_left fun h => hac h.symm)]
      simp [hac]
      omega

theorem countWhere_split {n : Nat} (p : Fin n → Bool) (c : Fin n) :
    countWhere n p = countWhere n (fun i => i != c && p i) + if p c = true then 1 else 0 :=
  countP_split (List.nodup_finRange n) p (List.mem_finRange c)

/-- A channel in a new place raises the count of that place alone, by one at most (R8). -/
theorem State.count_afresh (s : State) (c : Fin 32) (x : Channel) (role : ChannelRole) (r : Fin 8) :
    countWhere 32 (fun i => ((s.setChannel c x).channel i).role == role && ((s.setChannel c x).channel i).room == r)
      = s.othersWith c role r + if (x.role == role && x.room == r) = true then 1 else 0 := by
  rw [countWhere_split _ c, State.channel_setChannel, if_pos rfl]
  congr 1
  unfold State.othersWith countWhere
  refine List.countP_congr fun i _ => ?_
  rw [State.channel_setChannel]
  by_cases h : i = c
  · simp [h]
  · simp [h, Ne.symm h]

theorem State.othersWith_le (s : State) (c : Fin 32) (role : ChannelRole) (r : Fin 8) :
    s.othersWith c role r ≤ countWhere 32 fun i => (s.channel i).role == role && (s.channel i).room == r := by
  rw [countWhere_split _ c]
  simp only [State.othersWith, Bool.and_assoc]
  omega

theorem configureProbe_calm (channel role room : Byte) (s : State) : s.Calm (configureProbe channel role room s).state := by
  unfold configureProbe
  split
  · next c ro r _ _ _ =>
    split
    · next hplace =>
      dsimp only
      split
      · exact .refl s
      · have hset : s.Calm (s.setChannel c ((s.channel c).afresh ro r)) := by
          refine ⟨rfl, fun ⟨hchannel, hroom, hcount⟩ => ⟨fun i => ?_, hroom, fun i => ?_⟩⟩
          · rw [State.channel_setChannel]
            split
            · obtain ⟨hlow, hhigh, hoffset, -, -⟩ := hchannel c
              exact ⟨hlow, hhigh, hoffset, (by decide : (-960 : Int) ≤ 0 ∧ (0 : Int) ≤ 960), Nat.zero_le 3⟩
            · exact hchannel i
          · obtain ⟨h4, h2⟩ := hcount i
            rw [State.count_afresh, State.count_afresh]
            have hroom4 := s.othersWith_le c .room i
            have hcoil2 := s.othersWith_le c .coil i
            cases ro
            · simp only [Channel.afresh]
              exact ⟨hroom4.trans h4, hcoil2.trans h2⟩
            · have hlt : s.othersWith c .room r < 4 := of_decide_eq_true hplace
              refine ⟨?_, hcoil2.trans h2⟩
              by_cases hri : r = i
              · subst hri
                simpa [Channel.afresh] using hlt
              · simpa [Channel.afresh, hri] using hroom4.trans h4
            · have hlt : s.othersWith c .coil r < 2 := of_decide_eq_true hplace
              refine ⟨hroom4.trans h4, ?_⟩
              by_cases hri : r = i
              · subst hri
                simpa [Channel.afresh] using hlt
              · simpa [Channel.afresh, hri] using hcoil2.trans h2
        exact hset
    · exact .refl s
  · exact .refl s

theorem configureRoom_calm (room kind load : Byte) (s : State) : s.Calm (configureRoom room kind load s).state := by
  unfold configureRoom onRoom
  split
  · next r _ =>
    split
    · exact .refl s
    · next k _ =>
      split
      · refine ⟨rfl, fun hs => State.temperaturesKept_of_records hs (fun _ => ⟨rfl, rfl⟩) hs.1 fun i => ?_⟩
        show ((s.modifyRoom r fun x => { x with kind := k }).room i).inRange
        rw [State.modifyRoom, State.room_setRoom]
        split
        · exact hs.2.1 r
        · exact hs.2.1 i
      · exact .refl s
  · exact .refl s

theorem modifyDoor_calm (d : Fin 24) (f : Door → Door) (s : State) : s.Calm (s.modifyDoor d f) := ⟨rfl, id⟩

theorem configureDoor_calm (door enabled room : Byte) (wp bp wf bf : Word16) (s : State) :
    s.Calm (configureDoor door enabled room wp bp wf bf s).state := by
  unfold configureDoor onDoor
  split
  · split
    · exact ⟨rfl, id⟩
    · exact .refl s
  · exact .refl s

theorem setDoorLines_calm (tp pc sm sb pr debounce : Byte) (s : State) : s.Calm (setDoorLines tp pc sm sb pr debounce s).state := by
  unfold setDoorLines
  split
  · dsimp only
    have hlines : ∀ lines : LineSettings, s.Calm { s with lines := lines } := fun _ => ⟨rfl, id⟩
    exact (hlines _).trans (forEach_rel State.Calm State.Calm.refl State.Calm.trans (fun d t => modifyDoor_calm d _ t) _)
  · exact .refl s

theorem setHeaterCapacity_calm (capacity : Byte) (s : State) : s.Calm (setHeaterCapacity capacity s).state := by
  unfold setHeaterCapacity
  split
  · exact ⟨rfl, id⟩
  · exact .refl s

theorem configureClass_calm (cls : Byte) (threshold budget warn transit defrost : Word16) (s : State) :
    s.Calm (configureClass cls threshold budget warn transit defrost s).state := by
  unfold configureClass
  split
  · exact .refl s
  · split
    · exact ⟨rfl, id⟩
    · exact .refl s

theorem setExposureTick_calm (interval : Byte) (s : State) : s.Calm (setExposureTick interval s).state := by
  unfold setExposureTick
  split
  · exact ⟨rfl, id⟩
  · exact .refl s

theorem setupComplete_calm (p : Port) (s : State) : s.Calm (setupComplete p s).state := by
  have hflag : s.Calm (s.setPort p { s.port p with setupComplete := true }) := (s.steady_setPort p _).calm
  have hmode : ∀ t : State, t.Calm { t with mode := .run } := fun _ => ⟨rfl, id⟩
  have hrun : ∀ t : State, t.Calm (enterRun t) := fun t => (hmode t).trans (enterRun_steady t).calm
  have hclear : ∀ t : State, t.Calm t.clearSetupFlags := fun _ => ⟨rfl, id⟩
  have hreject : ∀ (t : State) (detail : Option Word16), t.Calm (t.clearSetupFlags.post .setupRejected .none detail) :=
    fun t detail => (hclear t).trans (State.steady_post _ _ _ _).calm
  unfold setupComplete
  generalize s.setPort p { s.port p with setupComplete := true } = t at *
  dsimp only
  split
  · split
    · dsimp only
      exact hflag.trans (hrun t)
    · dsimp only
      exact hflag.trans (hreject t _)
  · exact hflag

theorem warmRestart_steady (s : State) : s.Steady (warmRestart s).state := by
  rw [warmRestart]
  exact done_steady (restartPart_steady s)

/-! ### A request performed -/

/-- The requests that RUN refuses: the structural ones and SETUP COMPLETE (R163). -/
def setupOnly : Request → Bool
  | .setupComplete | .configureDoor .. | .setDoorLines .. | .configureRoom .. | .configureProbe .. | .setHeaterCapacity ..
  | .configureClass .. | .setExposureTick .. => true
  | _ => false

theorem perform_steady (p : Port) {r : Request} (h : setupOnly r = false) (s : State) : s.Steady (perform p r s).state := by
  unfold perform
  cases r with
  | readStatus part => exact (readStatus_state p part s).symm ▸ .refl s
  | readClock => exact .refl s
  | readRoom room => exact onRoom_steady fun _ => .refl s
  | latchRooms => exact latchRooms_steady p s
  | readRoomSnapshot part => exact readRoomSnapshot_steady p part s
  | readDoor door => exact readDoor_steady door s
  | readPallet tag => exact (readPallet_state tag s).symm ▸ .refl s
  | readProbe channel => exact (readProbe_state channel s).symm ▸ .refl s
  | takeAlarm => exact steady_takeAlarm p s
  | endAlarm => exact steady_endAlarm p s
  | setAlarmRoutes code routed => exact setAlarmRoutes_steady p code routed s
  | setAlarmFloor floor => exact s.steady_setAlarms _
  | setupComplete => cases h
  | warmRestart => exact warmRestart_steady s
  | configureDoor => cases h
  | setDoorLines => cases h
  | setDoorTimes door sl bg rt => exact onDoor_steady fun d => doneClamped_steady (.doorRecord (.refl s) d) _
  | doorArmSeal door => exact doorArmSeal_steady door s
  | doorOpenPermit door => exact doorOpenPermit_steady door s
  | doorClose door => exact doorClose_steady door s
  | doorRelease door => exact doorRelease_steady door s
  | doorOverride door on => exact doorOverride_steady door on s
  | doorClearFault door => exact doorClearFault_steady door s
  | reportTrailerTemperature door temperature => exact reportTrailerTemperature_steady door temperature s
  | configureRoom => cases h
  | configureProbe => cases h
  | setProbeCalibration channel gain offset => exact setProbeCalibration_steady channel gain offset s
  | setRoomLimits room upper lower hd ld weight => exact setRoomLimits_steady room upper lower hd ld weight s
  | setFrostParameters room rate threshold limit => exact setFrostParameters_steady room rate threshold limit s
  | setDefrostTimes room hl dt rl tt gh => exact onRoom_steady fun r => doneClamped_steady (.defrostRecord (.refl s) r) _
  | setHeaterCapacity => cases h
  | requestDefrost room => exact requestDefrost_steady room s
  | withdrawDefrost room => exact withdrawDefrost_steady room s
  | defrostBegun room => exact defrostBegun_steady room s
  | heatingEnded room cause => exact heatingEnded_steady room cause s
  | configureClass => cases h
  | setExposureTick => cases h
  | setMoveTimes pl tl => exact .of_frame (fs := [.permitLimit, .transitLimit]) rfl (by decide)
  | setJournalThreshold threshold => exact setJournalThreshold_steady threshold s
  | enterPallet tag cls door => exact enterPallet_steady tag cls door s
  | rejectPallet tag => exact rejectPallet_steady tag s
  | requestMove tag destination => exact requestMove_steady tag destination s
  | pick handle => exact pick_steady handle s
  | put handle actual => exact put_steady handle actual s
  | cancelMove handle location => exact cancelMove_steady handle location s
  | readJournal count => exact (readJournal_state count s).symm ▸ .refl s
  | releaseJournal count => exact releaseJournal_steady count s
  | setProductCeiling room present ceiling => exact setProductCeiling_steady room present ceiling s
  | inhibitDefrost room seconds => exact inhibitDefrost_steady room seconds s

theorem perform_calm (p : Port) (r : Request) (s : State) : s.Calm (perform p r s).state := by
  cases h : setupOnly r
  · exact (perform_steady p h s).calm
  · cases r
    case setupComplete => exact setupComplete_calm p s
    case configureDoor => exact configureDoor_calm _ _ _ _ _ _ _ s
    case setDoorLines => exact setDoorLines_calm _ _ _ _ _ _ s
    case configureRoom => exact configureRoom_calm _ _ _ s
    case configureProbe => exact configureProbe_calm _ _ _ s
    case setHeaterCapacity => exact setHeaterCapacity_calm _ s
    case configureClass => exact configureClass_calm _ _ _ _ _ _ s
    case setExposureTick => exact setExposureTick_calm _ s
    all_goals cases h

end Sys2Proof.Machine
end

section
/-! PROOFS. Every command keeps the ranges of channels and rooms (O20), and the clock and the configuration (O24). -/

namespace Sys2Proof.Machine

set_option Elab.async false

/-! ### A frame taken -/

/-- The clock and the ranges stay; in RUN what SETUP fixed stays too (R173). -/
def State.Kept (s t : State) : Prop := s.Calm t ∧ (s.mode = .run → s.Steady t)

theorem State.Steady.kept {s t : State} (h : s.Steady t) : s.Kept t := ⟨h.calm, fun _ => h⟩

theorem State.Kept.refl (s : State) : s.Kept s := (State.Steady.refl s).kept

theorem State.Kept.trans {s t u : State} (h : s.Kept t) (k : t.Kept u) : s.Kept u :=
  ⟨h.1.trans k.1, fun hs => (h.2 hs).trans (k.2 ((h.2 hs).mode.trans hs))⟩

/-- A row that RUN takes parses no request of SETUP alone (R163). -/
theorem requestTable_setupOnly : ∀ row ∈ requestTable, row.run = .wrongMode ∨ ∀ l, (row.parse l).all (fun r => !setupOnly r) = true := by
  simp only [requestTable, List.forall_mem_cons, reduceCtorEq, false_or, true_or, true_and, List.not_mem_nil, false_imp_iff,
    implies_true, and_true]
  and_intros
  all_goals
    intro l
    split <;> rfl

theorem requestRow_mem {code : Byte} {row : RequestRow} (h : requestRow code = some row) : row ∈ requestTable := by
  unfold requestRow at h
  split at h
  · cases h
  · exact List.mem_of_getElem? h

/-- A request that RUN performs is not one of SETUP alone (R163). -/
theorem setupOnly_of_run {s : State} (hs : s.mode = .run) {p : Port} {code : Byte} {row : RequestRow}
    (hrow : requestRow code = some row) (htakes : s.takes p row = true) {l : List Byte} {r : Request} (hr : row.parse l = some r) :
    setupOnly r = false := by
  obtain hrun | hparse := requestTable_setupOnly row (requestRow_mem hrow)
  · rw [State.takes, hs] at htakes
    dsimp only at htakes
    rw [hrun] at htakes
    cases htakes
  · simpa [hr] using hparse l

theorem answerFrame_kept (p : Port) (f : Frame) (s : State) : s.Kept (answerFrame p f s).state := by
  unfold answerFrame
  split
  · exact .refl s
  · next row hrow =>
    unfold answerRow
    split
    · split
      · exact .refl s
      · next r hr =>
        split
        · next htakes => exact ⟨perform_calm p r s, fun hs => perform_steady p (setupOnly_of_run hs hrow htakes hr) s⟩
        · exact .refl s
    · exact .refl s

theorem setPort_kept (s : State) (p : Port) (x : PortControl) : s.Kept (s.setPort p x) := (s.steady_setPort p x).kept

theorem takeFrame_kept (p : Port) (f : Frame) (s : State) : s.Kept (takeFrame p f s) :=
  ((settleTimers_steady s).kept.trans (answerFrame_kept p f _)).trans (setPort_kept _ p _)

theorem frameCompletes_kept (p : Port) (f : Frame) (s : State) : s.Kept (frameCompletes p f s) := by
  unfold frameCompletes
  split
  · exact takeFrame_kept p f s
  · exact setPort_kept s p _
  · exact setPort_kept s p _

theorem frameArrives_kept (p : Port) (f : Frame) (s : State) : s.Kept (frameArrives p f s) := by
  unfold frameArrives
  split
  · exact .refl s
  · exact (setPort_kept s p _).trans (frameCompletes_kept p f _)

theorem unknownArrives_kept (p : Port) (code tag : Byte) (payload : List Byte) (s : State) :
    s.Kept (unknownArrives p code tag payload s) := by
  unfold unknownArrives
  split
  · exact frameArrives_kept p _ s
  · exact .refl s

theorem receiveByte_kept (p : Port) (b : Byte) (stopMark : Bool) (s : State) : s.Kept (receiveByte p b stopMark s) := by
  unfold receiveByte
  dsimp only
  split
  · exact .refl s
  · split
    · exact setPort_kept s p _
    · split
      · exact setPort_kept s p _
      · exact (setPort_kept s p _).trans (frameCompletes_kept p _ _)

theorem endReply_kept (p : Port) (s : State) : s.Kept (endReply p s) := by
  unfold endReply
  dsimp only
  split
  · exact .refl s
  · exact setPort_kept s p _
  · exact (setPort_kept s p _).trans (takeFrame_kept p _ _)

theorem resetLink_kept (p : Port) (s : State) : s.Kept (resetLink p s) := by
  unfold resetLink
  dsimp only
  split
  · exact .refl s
  · exact (setPort_kept s p _).trans (State.steady_setAlarms _ _).kept

theorem endBreak_kept (p : Port) (s : State) : s.Kept (endBreak p s) := by
  unfold endBreak
  dsimp only
  split
  · exact setPort_kept s p _
  · exact .refl s

/-! ### Every command -/

/-- The commands that move the clock. -/
def Instr.movesClock : Instr → Bool
  | .coldReset | .secondTick _ => true
  | _ => false

theorem exec_kept {c : Instr} (hc : Instr.movesClock c = false) {s t : State} (h : exec c s = .next t) : s.Kept t := by
  cases c
  case coldReset => cases hc
  case secondTick => cases hc
  case sampleStrobe tp pc sm => cases h; exact (sampleStrobe_steady tp pc sm s).kept
  case debouncedChange d i => cases h; exact (debouncedChange_steady d i s).kept
  case exposureTick first => cases h; exact (tickExposure_steady first s).kept
  case converterTransactionComplete bits => cases h; exact (completeTransaction_steady bits s).kept
  case converterReplyLimitExpiry => cases h; exact (expireReplyLimit_steady s).kept
  case roundComplete first => cases h; exact (completeRound_steady first s).kept
  case highTimerExpiry r => cases h; exact (expireHigh_steady r s).kept
  case lowTimerExpiry r => cases h; exact (expireLow_steady r s).kept
  case sealTimerExpiry d => cases h; exact (expireSeal_steady d s).kept
  case breachGraceExpiry d => cases h; exact (expireBreach_steady d s).kept
  case releaseTimerExpiry d => cases h; exact (expireRelease_steady d s).kept
  case grantHoldExpiry r => cases h; exact (expireGrantHold_steady r s).kept
  case heatingLimitExpiry r => cases h; exact (expireHeating_steady r s).kept
  case dripTimeExpiry r => cases h; exact (expireDrip_steady r s).kept
  case recoveryLimitExpiry r => cases h; exact (expireRecovery_steady r s).kept
  case inhibitExpiry r => cases h; exact (expireInhibit_steady r s).kept
  case lapseTimerExpiry m => cases h; exact (expireLapse_steady m s).kept
  case transitTimerExpiry m => cases h; exact (expireTransit_steady m s).kept
  case byteReceived p b stopMark => cases h; exact receiveByte_kept p b stopMark s
  case unknownRequest p code tag payload => cases h; exact unknownArrives_kept p code tag payload s
  case frameGapTimeout p => cases h; exact setPort_kept s p _
  case replySent p => cases h; exact endReply_kept p s
  case linkReset p => cases h; exact resetLink_kept p s
  case rxReturnToMark p => cases h; exact endBreak_kept p s
  all_goals
    cases h
    exact frameArrives_kept _ _ s

/-- A steady way, the clock written, and a steady way: the clock alone of it changes. -/
theorem State.Steady.clocked {s u t : State} {now : Word32} (h : s.Steady u) (k : ({ u with clock := now } : State).Steady t) :
    (s.temperaturesKept → t.temperaturesKept) ∧ ({ s with clock := t.clock } : State).Steady t :=
  ⟨fun hs => k.ranges (h.ranges hs), rfl, k.mode.trans h.mode, k.lines.trans h.lines, k.interval.trans h.interval,
    k.heaterCapacity.trans h.heaterCapacity, k.classes.trans h.classes,
    fun c => ⟨(k.channel c).1.trans (h.channel c).1, (k.channel c).2.trans (h.channel c).2⟩,
    fun r => ⟨(k.room r).1.trans (h.room r).1, (k.room r).2.trans (h.room r).2⟩,
    fun d => ⟨(k.door d).1.trans (h.door d).1, (k.door d).2.trans (h.door d).2⟩, fun hs => k.ranges (h.ranges hs)⟩

/-- A second tick moves the clock alone of what `Steady` keeps. -/
theorem tickSecond_kept (order : List RetryBlock) (s : State) :
    (s.temperaturesKept → (tickSecond order s).temperaturesKept)
      ∧ ({ s with clock := (tickSecond order s).clock } : State).Steady (tickSecond order s) :=
  (settleTimers_steady s).clocked (tickSecond_steady order s)

/-- The cold reset records are in range (R7, R17). -/
theorem reset_temperatures : State.reset.temperaturesKept := by
  have hchannel : ∀ c, State.reset.channel c = .initial := fun c => Vector.getElem_replicate _
  have hroom : ∀ r, State.reset.room r = .initial := fun r => Vector.getElem_replicate _
  refine ⟨fun c => ?_, fun r => ?_, fun r => ?_⟩
  · rw [hchannel]
    unfold Channel.inRange inTempRange
    decide
  · rw [hroom]
    unfold Room.inRange inTempRange
    exact ⟨by decide, by decide, by decide, by decide, by decide, by decide, by decide, by decide, nofun, rfl, by decide, by decide⟩
  · simp only [hchannel]
    exact (by decide : countWhere 32 (fun _ => false) ≤ 4 ∧ countWhere 32 (fun _ => false) ≤ 2)

/-- Settles O20: each step runs one command, and every command keeps the ranges. -/
theorem stepKeepsTemperaturesInRange : Obligations.StepKeepsTemperaturesInRange := by
  intro s t hs hstep
  unfold step at hstep
  split at hstep
  · cases hstep
    exact hs
  · next c rest _ =>
    have hrest : ({ s with pending := rest } : State).temperaturesKept := hs
    cases hc : Instr.movesClock c
    · exact (exec_kept hc hstep).1.2 hrest
    · cases c
      case coldReset => cases hstep; exact reset_temperatures
      case secondTick order _ => cases hstep; exact (tickSecond_kept order _).1 hrest
      all_goals cases hc

/-- Settles O24: a second tick moves the clock alone of it; no other command but a cold reset moves the clock, and in RUN none changes
what SETUP fixed. -/
theorem clockAndConfigurationAreFixed : Obligations.ClockAndConfigurationAreFixed := by
  intro c s t h hreset
  have fixed : ∀ u : State, u.Steady t → u.mode = .run → t.mode = .run ∧ t.lines = u.lines ∧ t.interval = u.interval
      ∧ t.heaterCapacity = u.heaterCapacity ∧ t.classes = u.classes
      ∧ (∀ i : Fin 32, (t.channel i).role = (u.channel i).role ∧ (t.channel i).room = (u.channel i).room)
      ∧ (∀ r : Fin 8, (t.room r).kind = (u.room r).kind ∧ (t.defrost r).heaterLoad = (u.defrost r).heaterLoad)
      ∧ ∀ d : Fin 24, (t.door d).enabled = (u.door d).enabled ∧ (t.door d).dockRoom = (u.door d).dockRoom := fun u k hu =>
    ⟨k.mode.trans hu, k.lines, k.interval, k.heaterCapacity, k.classes, k.channel, k.room, k.door⟩
  cases hc : Instr.movesClock c
  · have hkept := exec_kept hc h
    exact ⟨fun _ => hkept.1.1, fun hs => fixed s (hkept.2 hs) hs⟩
  · cases c
    case coldReset => exact absurd rfl hreset
    case secondTick order =>
      cases h
      exact ⟨fun hno => absurd rfl (hno order), fun hs => fixed { s with clock := (tickSecond order s).clock } (tickSecond_kept order s).2 hs⟩
    all_goals cases hc

end Sys2Proof.Machine
end

section
/-! PROOFS. Expiries do not read the round or the queue of commands, so a run of their commands takes them one after the other (R3). -/

namespace Sys2Proof.Machine

set_option Elab.async false

/-- A state with another round and another queue of commands. -/
def State.aside (s : State) (x : Round) (l : List Instr) : State := { s with round := x, pending := l }

/-- An operation reads neither the round nor the queue, and leaves both. -/
def Aside (f : State → State) : Prop := ∀ (s : State) (x : Round) (l : List Instr), f (s.aside x l) = (f s).aside x l

theorem ite_aside {p : Prop} [Decidable p] {a b a' b' : State} {x : Round} {l : List Instr} (ha : a' = a.aside x l)
    (hb : b' = b.aside x l) : (if p then a' else b') = (if p then a else b).aside x l := by
  split
  · exact ha
  · exact hb

theorem forEach_aside {n : Nat} {f : Fin n → State → State} (h : ∀ i, Aside (f i)) : Aside (forEach n f) := by
  have go : ∀ (is : List (Fin n)) (s : State) (x : Round) (l : List Instr),
      is.foldl (fun s i => f i s) (s.aside x l) = (is.foldl (fun s i => f i s) s).aside x l := by
    intro is
    induction is with
    | nil => intro s x l; rfl
    | cons i is ih => intro s x l; exact (congrArg (is.foldl _) (h i s x l)).trans (ih _ x l)
  exact fun s x l => go _ s x l

theorem Aside.comp {f g : State → State} (hf : Aside f) (hg : Aside g) : Aside fun s => g (f s) :=
  fun s x l => (congrArg g (hf s x l)).trans (hg _ x l)

theorem raiseCondition_aside (code : AlarmCode) (subject : Subject) (tag : Option Word32) (detail : Option Word16)
    {f : State → State} (hf : Aside f) : Aside fun s => s.raiseCondition code subject tag detail f := by
  intro s x l
  dsimp only
  rw [State.raiseCondition_eq, State.raiseCondition_eq]
  exact ite_aside rfl (hf (s.setAlarms (s.alarms.raise s.clock false code subject tag detail).1) x l)

/-! ### Rooms -/

theorem modifyRoom_aside (r : Fin 8) (f : Room → Room) : Aside fun s => s.modifyRoom r f := fun _ _ _ => rfl

theorem expireHigh_aside (r : Fin 8) : Aside (expireHigh r) := fun s x l =>
  ite_aside (raiseCondition_aside _ _ _ _ (modifyRoom_aside r _)
    (s.modifyRoom r fun x => { x with highTimer := .stopped, highFlag := true }) x l) rfl

theorem expireLow_aside (r : Fin 8) : Aside (expireLow r) := fun s x l =>
  ite_aside (raiseCondition_aside _ _ _ _ (modifyRoom_aside r _)
    (s.modifyRoom r fun x => { x with lowTimer := .stopped, lowFlag := true }) x l) rfl

theorem settleRooms_aside : Aside settleRooms := forEach_aside fun r => (expireHigh_aside r).comp (expireLow_aside r)

/-! ### Doors -/

theorem modifyDoor_aside (d : Fin 24) (f : Door → Door) : Aside fun s => s.modifyDoor d f := fun _ _ _ => rfl

theorem enterFault_aside (cause : FaultCause) (d : Fin 24) : Aside (enterFault cause d) :=
  (modifyDoor_aside d _).comp (raiseCondition_aside _ _ _ _ (modifyDoor_aside d _))

theorem expireSeal_aside (d : Fin 24) : Aside (expireSeal d) := fun _ _ _ => ite_aside (ite_aside rfl rfl) rfl

theorem expireBreach_aside (d : Fin 24) : Aside (expireBreach d) := fun s x l =>
  ite_aside (raiseCondition_aside _ _ _ _ (modifyDoor_aside d _)
    (s.modifyDoor d fun x => { x with breachTimer := .stopped, breachFlag := true }) x l) rfl

theorem expireRelease_aside (d : Fin 24) : Aside (expireRelease d) := fun s x l =>
  ite_aside (ite_aside (enterFault_aside _ d s x l) (ite_aside rfl rfl)) rfl

/-! ### Defrost -/

theorem modifyDefrost_aside (r : Fin 8) (f : Defrost → Defrost) : Aside fun s => s.modifyDefrost r f := fun _ _ _ => rfl

theorem arbiterTurn_aside (s : State) (bar : Bool) (r : Fin 8) (x : Round) (l : List Instr) :
    arbiterTurn (s.aside x l, bar) r = ((arbiterTurn (s, bar) r).1.aside x l, (arbiterTurn (s, bar) r).2) := by
  have hpair : ∀ {p : Prop} [Decidable p] {a b a' b' : State × Bool}, a' = (a.1.aside x l, a.2) → b' = (b.1.aside x l, b.2) →
      (if p then a' else b') = ((if p then a else b).1.aside x l, (if p then a else b).2) := by
    intro p _ a b a' b' ha hb
    split
    · exact ha
    · exact hb
  exact hpair rfl (hpair rfl (hpair rfl rfl))

theorem evaluateQueue_aside : Aside evaluateQueue := by
  have go : ∀ (rs : List (Fin 8)) (s : State) (bar : Bool) (x : Round) (l : List Instr),
      (rs.foldl arbiterTurn (s.aside x l, bar)).1 = (rs.foldl arbiterTurn (s, bar)).1.aside x l := by
    intro rs
    induction rs with
    | nil => intro s bar x l; rfl
    | cons r rs ih =>
      intro s bar x l
      rw [List.foldl_cons, List.foldl_cons, arbiterTurn_aside]
      exact ih _ _ x l
  exact fun s x l => go s.arbiterOrder s false x l

theorem givePermits_aside (r : Fin 8) : Aside (givePermits r) := forEach_aside fun _ _ _ _ => ite_aside rfl rfl

/-- A grant that has lapsed, before the held permits are given (R80). -/
def lapsed (r : Fin 8) (s : State) : State :=
  ((s.setDefrost r { s.defrost r with state := .idle, phaseTimer := .stopped, forcedCycle := false }).returnLoad r).post
    .grantLapsed (.room r) none

theorem expireGrantHold_eq (r : Fin 8) (s : State) :
    expireGrantHold r s = if (s.defrost r).state = .granted ∧ (s.defrost r).phaseTimer.due = true then
      evaluateQueue (givePermits r (lapsed r s)) else s := rfl

theorem expireGrantHold_aside (r : Fin 8) : Aside (expireGrantHold r) := by
  intro s x l
  rw [expireGrantHold_eq, expireGrantHold_eq]
  exact ite_aside (((givePermits_aside r).comp evaluateQueue_aside) (lapsed r s) x l) rfl

theorem raiseOverrun_aside (r : Fin 8) : Aside (raiseOverrun r) :=
  (modifyDefrost_aside r _).comp (raiseCondition_aside _ _ _ _ (modifyDefrost_aside r _))

theorem expireHeating_aside (r : Fin 8) : Aside (expireHeating r) := fun s x l =>
  ite_aside (raiseOverrun_aside r (s.setDefrost r { s.defrost r with phaseTimer := .stopped }) x l) rfl

theorem expireDrip_aside (r : Fin 8) : Aside (expireDrip r) := fun s x l =>
  ite_aside (givePermits_aside r (s.setDefrost r { s.defrost r with
    state := .recovery, forcedCycle := false, phaseTimer := .start (s.defrost r).recoveryLimit }) x l) rfl

theorem expireRecovery_aside (r : Fin 8) : Aside (expireRecovery r) := fun _ _ _ => ite_aside rfl rfl

theorem expireInhibit_aside (r : Fin 8) : Aside (expireInhibit r) := fun s x l =>
  ite_aside (evaluateQueue_aside (s.modifyDefrost r fun x => { x with inhibitDue := false }) x l) rfl

/-! ### Moves -/

theorem settleMoved_aside (m : Fin 32) (settle : Option (PalletState × Place)) : Aside (settleMoved m settle) := by
  intro s x l
  have hfind : (s.aside x l).findPallet ((s.aside x l).move m).tag = s.findPallet (s.move m).tag := rfl
  unfold settleMoved
  rw [hfind]
  split <;> rfl

theorem writeRecord_aside (j : JournalRecord) : Aside (writeRecord j) := by
  have hraise : Aside raiseJournalHigh := fun s x l =>
    raiseCondition_aside _ _ _ _ (f := fun s => s.setJournal { s.journal with highUnposted := true }) (fun _ _ _ => rfl)
      (s.setJournal { s.journal with highFlag := true }) x l
  exact fun s x l => ite_aside (hraise (s.setJournal
    { s.journal with
      records := s.journal.records ++ [{ j with sequence := s.journal.next }]
      held := s.journal.held + 1
      next := s.journal.next + 1 }) x l) rfl

/-- An end of a move up to its record (R119, steps 1 and 2). -/
def recorded (kind : RecordKind) (f : EndFlags) (settle : Option (PalletState × Place)) (m : Fin 32) (s : State) : State :=
  writeRecord (moveRecord kind f (s.move m) ((settleMoved m settle s).movedPallet m) s.clock) (settleMoved m settle s)

/-- An end of a move up to its last step (R119, steps 3 and 4). -/
def cleared (m : Fin 32) (x : Move) (s : State) : State :=
  (if x.overdueFlag = true then s.returnCondition .moveOverdue (.move m) else s).setMove m (.empty (x.generation + 1))

theorem endMove_eq (kind : RecordKind) (f : EndFlags) (settle : Option (PalletState × Place)) (m : Fin 32) (s : State) :
    endMove kind f settle m s = evaluateQueue (cleared m (s.move m) (recorded kind f settle m s)) := rfl

theorem recorded_aside (kind : RecordKind) (f : EndFlags) (settle : Option (PalletState × Place)) (m : Fin 32) :
    Aside (recorded kind f settle m) := by
  intro s x l
  have hmoved : ((settleMoved m settle s).aside x l).movedPallet m = (settleMoved m settle s).movedPallet m := rfl
  unfold recorded
  rw [settleMoved_aside, hmoved]
  exact writeRecord_aside _ _ x l

theorem cleared_aside (m : Fin 32) (y : Move) : Aside (cleared m y) := fun s x l =>
  congrArg (State.setMove · m (.empty (y.generation + 1)))
    (ite_aside (p := y.overdueFlag = true) (a := s.returnCondition .moveOverdue (.move m)) (b := s) (x := x) (l := l) rfl rfl)

theorem endMove_aside (kind : RecordKind) (f : EndFlags) (settle : Option (PalletState × Place)) (m : Fin 32) :
    Aside (endMove kind f settle m) := by
  intro s x l
  have hmove : (s.aside x l).move m = s.move m := rfl
  rw [endMove_eq, endMove_eq, recorded_aside, hmove, cleared_aside, evaluateQueue_aside]

theorem expireLapse_aside (m : Fin 32) : Aside (expireLapse m) := by
  intro s x l
  have hpost : Aside fun t => (endMove .moveLapsed .plain none m t).post .moveLapsed (.move m) (detailHandle (s.handleAt m)) :=
    (endMove_aside _ _ _ m).comp (g := fun t => t.post .moveLapsed (.move m) (detailHandle (s.handleAt m))) fun _ _ _ => rfl
  exact ite_aside (hpost s x l) rfl

theorem expireTransit_aside (m : Fin 32) : Aside (expireTransit m) := fun s x l =>
  ite_aside (raiseCondition_aside _ _ _ _ (f := fun s => s.modifyMove m fun x => { x with overdueUnposted := true })
    (fun _ _ _ => rfl) (s.setMove m { s.move m with transitTimer := .stopped, overdueFlag := true }) x l) rfl

/-! ### A run of expiry commands -/

/-- The commands that take an expiry, with what they do. -/
def expiryOf : Instr → Option (State → State)
  | .highTimerExpiry r => some (expireHigh r)
  | .lowTimerExpiry r => some (expireLow r)
  | .sealTimerExpiry d => some (expireSeal d)
  | .breachGraceExpiry d => some (expireBreach d)
  | .releaseTimerExpiry d => some (expireRelease d)
  | .grantHoldExpiry r => some (expireGrantHold r)
  | .heatingLimitExpiry r => some (expireHeating r)
  | .dripTimeExpiry r => some (expireDrip r)
  | .recoveryLimitExpiry r => some (expireRecovery r)
  | .inhibitExpiry r => some (expireInhibit r)
  | .lapseTimerExpiry m => some (expireLapse m)
  | .transitTimerExpiry m => some (expireTransit m)
  | _ => none

theorem expiryOf_exec {c : Instr} {f : State → State} (h : expiryOf c = some f) :
    (∀ s, exec c s = .next (f s)) ∧ Aside f := by
  unfold expiryOf at h
  split at h
  case h_13 => cases h
  all_goals
    cases h
    refine ⟨fun _ => rfl, ?_⟩
  · exact expireHigh_aside _
  · exact expireLow_aside _
  · exact expireSeal_aside _
  · exact expireBreach_aside _
  · exact expireRelease_aside _
  · exact expireGrantHold_aside _
  · exact expireHeating_aside _
  · exact expireDrip_aside _
  · exact expireRecovery_aside _
  · exact expireInhibit_aside _
  · exact expireLapse_aside _
  · exact expireTransit_aside _

theorem Aside.withPending {f : State → State} (h : Aside f) (s : State) (l : List Instr) :
    f { s with pending := l } = { f s with pending := l } := by
  have hround : (f s).round = s.round := (congrArg State.round (h s s.round s.pending) :)
  have hpending : f { s with pending := l } = (f s).aside s.round l := h s s.round l
  rw [hpending, ← hround]
  rfl

/-- From one state a list of commands, each of which takes an expiry, leads to another. -/
inductive Takes : List Instr → State → State → Prop
  | nil (s : State) : Takes [] s s
  | cons {c : Instr} {f : State → State} {l : List Instr} {s t : State} (hc : expiryOf c = some f) (hl : Takes l (f s) t) :
    Takes (c :: l) s t

theorem Takes.append {l k : List Instr} {s t u : State} (h : Takes l s t) (i : Takes k t u) : Takes (l ++ k) s u := by
  induction h with
  | nil => exact i
  | cons hc _ ih => exact .cons hc (ih i)

theorem Takes.forEach {n : Nat} {l : Fin n → List Instr} {f : Fin n → State → State} (h : ∀ i s, Takes (l i) s (f i s))
    (s : State) : Takes ((List.finRange n).map l).flatten s (forEach n f s) := by
  have go : ∀ (is : List (Fin n)) (s : State), Takes (is.map l).flatten s (is.foldl (fun s i => f i s) s) := by
    intro is
    induction is with
    | nil => exact .nil
    | cons i is ih => intro s; exact (h i s).append (ih _)
  exact go _ s

theorem run_of_step {M : Host.Core} {s t : M.State} (h : M.step s = .next t) (k : Nat) : M.run (k + 1) s = M.run k t := by
  conv_lhs => unfold Host.Core.run
  rw [h]

/-- A run of the commands takes the expiries, and leaves no command. -/
theorem Takes.run {l : List Instr} {s t : State} (h : Takes l s t) :
    Host.Core.run core l.length ({ s with pending := l } : State) = .next ({ t with pending := [] } : State) := by
  induction h with
  | nil s => rfl
  | @cons c f l s t hc _ ih =>
    obtain ⟨hexec, haside⟩ := expiryOf_exec hc
    have hstep : Host.Core.step core ({ s with pending := c :: l } : State) = .next ({ f s with pending := l } : State) :=
      (hexec { s with pending := l }).trans (congrArg _ (haside.withPending s l))
    exact (run_of_step hstep l.length).trans ih

/-! ### The expiry commands of each record -/

theorem takes_settleRoom (r : Fin 8) (s : State) : Takes [.highTimerExpiry r, .lowTimerExpiry r] s (settleRoom r s) :=
  .cons rfl (.cons rfl (.nil _))

theorem takes_settleDoor (d : Fin 24) (s : State) :
    Takes [.sealTimerExpiry d, .breachGraceExpiry d, .releaseTimerExpiry d] s (settleDoor d s) :=
  .cons rfl (.cons rfl (.cons rfl (.nil _)))

theorem takes_settleDefrost (r : Fin 8) (s : State) :
    Takes [.grantHoldExpiry r, .heatingLimitExpiry r, .dripTimeExpiry r, .recoveryLimitExpiry r, .inhibitExpiry r] s
      (settleDefrost r s) :=
  .cons rfl (.cons rfl (.cons rfl (.cons rfl (.cons rfl (.nil _)))))

theorem takes_settleMove (m : Fin 32) (s : State) : Takes [.lapseTimerExpiry m, .transitTimerExpiry m] s (settleMove m s) :=
  .cons rfl (.cons rfl (.nil _))

theorem takes_settleRooms (s : State) :
    Takes ((List.finRange 8).map fun r => [Instr.highTimerExpiry r, .lowTimerExpiry r]).flatten s (settleRooms s) :=
  Takes.forEach takes_settleRoom s

theorem takes_settleTimers (s : State) : Takes
    (((List.finRange 8).map fun r => [Instr.highTimerExpiry r, .lowTimerExpiry r]).flatten
      ++ ((List.finRange 24).map fun d => [.sealTimerExpiry d, .breachGraceExpiry d, .releaseTimerExpiry d]).flatten
      ++ ((List.finRange 8).map fun r => [.grantHoldExpiry r, .heatingLimitExpiry r, .dripTimeExpiry r, .recoveryLimitExpiry r,
          .inhibitExpiry r]).flatten
      ++ ((List.finRange 32).map fun m => [.lapseTimerExpiry m, .transitTimerExpiry m]).flatten) s (settleTimers s) :=
  (((takes_settleRooms s).append (Takes.forEach takes_settleDoor _)).append (Takes.forEach takes_settleDefrost _)).append
    (Takes.forEach takes_settleMove _)

end Sys2Proof.Machine
end

section
/-! PROOFS. Which expiries stand after others are taken (R3): taking an expiry brings no other about, and its own stands no more. -/

namespace Sys2Proof.Machine

set_option Elab.async false

theorem Timer.due_start (n : Nat) : (Timer.start n).due = false := by
  simp [Timer.due, Timer.start]

/-- The expiry of the phase timer stands to be taken (R80, R81, R84, R86). -/
def Defrost.phaseDue (x : Defrost) : Bool :=
  match x.state with
  | .granted | .heating | .drip | .recovery => x.phaseTimer.due
  | .idle | .queued | .draining => false

theorem Defrost.expiryDue_eq (x : Defrost) : x.expiryDue = (x.inhibitDue || x.phaseDue) := rfl

theorem Defrost.phaseDue_timer {x : Defrost} (h : x.phaseDue = true) : x.phaseTimer.due = true := by
  cases hstate : x.state <;> simp only [Defrost.phaseDue, hstate, Bool.false_eq_true] at h
  all_goals exact h

theorem Defrost.phaseDue_of_timer {x : Defrost} (h : x.phaseTimer.due = false) : x.phaseDue = false :=
  Bool.eq_false_iff.mpr fun hdue => Bool.eq_false_iff.mp h (Defrost.phaseDue_timer hdue)

theorem Door.expiryDue_driven (x : Door) (lines : LineSettings) : (x.driven lines).expiryDue = x.expiryDue := rfl

/-! ### Expiries that stand are those that stood -/

/-- Every expiry that stands in the second state stood in the first. -/
structure State.Eases (s t : State) : Prop where
  room : ∀ r : Fin 8, (s.room r).expiryDue = false → (t.room r).expiryDue = false
  door : ∀ d : Fin 24, (s.door d).expiryDue = false → (t.door d).expiryDue = false
  phase : ∀ r : Fin 8, (s.defrost r).phaseDue = false → (t.defrost r).phaseDue = false
  inhibit : ∀ r : Fin 8, (s.defrost r).inhibitDue = false → (t.defrost r).inhibitDue = false
  move : ∀ m : Fin 32, (s.move m).expiryDue = false → (t.move m).expiryDue = false

theorem State.Eases.refl (s : State) : s.Eases s := ⟨fun _ => id, fun _ => id, fun _ => id, fun _ => id, fun _ => id⟩

theorem State.Eases.trans {s t u : State} (h : s.Eases t) (k : t.Eases u) : s.Eases u :=
  ⟨fun r => k.room r ∘ h.room r, fun d => k.door d ∘ h.door d, fun r => k.phase r ∘ h.phase r, fun r => k.inhibit r ∘ h.inhibit r,
    fun m => k.move m ∘ h.move m⟩

theorem State.Eases.ite {s t u : State} {p : Prop} [Decidable p] (h : p → s.Eases t) (k : ¬ p → s.Eases u) :
    s.Eases (if p then t else u) := by
  split
  · next hp => exact h hp
  · next hp => exact k hp

theorem State.Eases.of_frame {fs : List Field} {s t : State} (h : s.frame fs t)
    (hf : ∀ f ∈ [Field.rooms, .doors, .defrosts, .moves], f ∉ fs) : s.Eases t := by
  have hroom := State.frame_room h (hf _ (by decide))
  have hdoor := State.frame_door h (hf _ (by decide))
  have hdefrost := State.frame_defrost h (hf _ (by decide))
  have hmove := State.frame_move h (hf _ (by decide))
  exact ⟨fun r => by rw [hroom]; exact id, fun d => by rw [hdoor]; exact id, fun r => by rw [hdefrost]; exact id,
    fun r => by rw [hdefrost]; exact id, fun m => by rw [hmove]; exact id⟩

theorem State.eases_setRoom (s : State) (r : Fin 8) {x : Room} (h : (s.room r).expiryDue = false → x.expiryDue = false) :
    s.Eases (s.setRoom r x) := by
  refine ⟨fun i hi => ?_, fun _ => id, fun _ => id, fun _ => id, fun _ => id⟩
  rw [State.room_setRoom]
  split
  · next e => subst e; exact h hi
  · exact hi

theorem State.eases_setDoor (s : State) (d : Fin 24) {x : Door} (h : (s.door d).expiryDue = false → x.expiryDue = false) :
    s.Eases (s.setDoor d x) := by
  refine ⟨fun _ => id, fun i hi => ?_, fun _ => id, fun _ => id, fun _ => id⟩
  rw [State.door_setDoor]
  split
  · next e => subst e; exact (Door.expiryDue_driven x _).trans (h hi)
  · exact hi

theorem State.eases_setDefrost (s : State) (r : Fin 8) {x : Defrost} (hphase : (s.defrost r).phaseDue = false → x.phaseDue = false)
    (hinhibit : (s.defrost r).inhibitDue = false → x.inhibitDue = false) : s.Eases (s.setDefrost r x) := by
  refine ⟨fun _ => id, fun _ => id, fun i hi => ?_, fun i hi => ?_, fun _ => id⟩
  · rw [State.defrost_setDefrost]
    split
    · next e => subst e; exact hphase hi
    · exact hi
  · rw [State.defrost_setDefrost]
    split
    · next e => subst e; exact hinhibit hi
    · exact hi

theorem State.eases_setMove (s : State) (m : Fin 32) {x : Move} (h : (s.move m).expiryDue = false → x.expiryDue = false) :
    s.Eases (s.setMove m x) := by
  refine ⟨fun _ => id, fun _ => id, fun _ => id, fun _ => id, fun i hi => ?_⟩
  rw [State.move_setMove]
  split
  · next e => subst e; exact h hi
  · exact hi

theorem State.eases_setAlarms (s : State) (t : AlarmTable) : s.Eases (s.setAlarms t) :=
  ⟨fun _ => id, fun _ => id, fun _ => id, fun _ => id, fun _ => id⟩

theorem State.eases_post (s : State) (code : AlarmCode) (subject : Subject) (detail : Option Word16) :
    s.Eases (s.post code subject detail) := s.eases_setAlarms _

theorem State.eases_raiseCondition (s : State) (code : AlarmCode) (subject : Subject) (tag : Option Word32)
    (detail : Option Word16) {f : State → State} (h : ∀ t : State, t.Eases (f t)) :
    s.Eases (s.raiseCondition code subject tag detail f) := by
  rw [State.raiseCondition_eq]
  exact .ite (fun _ => s.eases_setAlarms _) fun _ => (s.eases_setAlarms _).trans (h _)

theorem eases_forEach {n : Nat} {f : Fin n → State → State} (h : ∀ i (s : State), s.Eases (f i s)) (s : State) :
    s.Eases (forEach n f s) :=
  forEach_rel State.Eases State.Eases.refl State.Eases.trans h s

/-! ### Rooms -/

theorem expireHigh_eases (r : Fin 8) (s : State) : s.Eases (expireHigh r s) := by
  refine .ite (fun _ => State.Eases.trans (State.eases_setRoom s r fun h => ?_) (State.eases_raiseCondition _ _ _ _ _ fun t =>
    t.eases_setRoom r ?_)) fun _ => .refl s
  · exact (Bool.or_eq_false_iff.mp h).2
  · exact id

theorem expireLow_eases (r : Fin 8) (s : State) : s.Eases (expireLow r s) := by
  refine .ite (fun _ => State.Eases.trans (State.eases_setRoom s r fun h => ?_) (State.eases_raiseCondition _ _ _ _ _ fun t =>
    t.eases_setRoom r ?_)) fun _ => .refl s
  · exact Bool.or_eq_false_iff.mpr ⟨(Bool.or_eq_false_iff.mp h).1, rfl⟩
  · exact id

theorem settleRoom_eases (r : Fin 8) (s : State) : s.Eases (settleRoom r s) :=
  (expireHigh_eases r s).trans (expireLow_eases r _)

theorem resumeHigh_eases (r : Fin 8) (s : State) : s.Eases (resumeHigh r s) := by
  refine s.eases_setRoom r fun h => Bool.or_eq_false_iff.mpr ⟨?_, (Bool.or_eq_false_iff.mp h).2⟩
  dsimp only
  split
  · exact Timer.due_start _
  · rfl

/-- The high timer's expiry where it is due (R27, R32). -/
theorem expireHigh_eq {r : Fin 8} {s : State} (h : (s.room r).highTimer = .running 0) :
    let raised := s.alarms.raise s.clock false .roomHigh (.room r) none (detailTemp (s.room r).filtered)
    expireHigh r s = (s.setRoom r
      { s.room r with
        highTimer := .stopped, highFlag := true, highUnposted := (s.room r).highUnposted || !raised.2 }).setAlarms raised.1 := by
  intro raised
  have hdue : (s.room r).highTimer.due = true := (Timer.due_iff _).mpr h
  rw [expireHigh, if_pos hdue, State.raiseCondition_eq]
  by_cases he : raised.2 = true
  · refine (if_pos he).trans ?_
    rw [he, Bool.not_true, Bool.or_false]
    rfl
  · refine (if_neg he).trans ?_
    rw [Bool.eq_false_iff.mpr he, Bool.not_false, Bool.or_true]
    simp [State.modifyRoom, State.setRoom_setAlarms, raised]

/-- The low timer's expiry where it is due (R30, R32). -/
theorem expireLow_eq {r : Fin 8} {s : State} (h : (s.room r).lowTimer = .running 0) :
    let raised := s.alarms.raise s.clock false .roomLow (.room r) none (detailTemp (s.room r).filtered)
    expireLow r s = (s.setRoom r
      { s.room r with
        lowTimer := .stopped, lowFlag := true, lowUnposted := (s.room r).lowUnposted || !raised.2 }).setAlarms raised.1 := by
  intro raised
  have hdue : (s.room r).lowTimer.due = true := (Timer.due_iff _).mpr h
  rw [expireLow, if_pos hdue, State.raiseCondition_eq]
  by_cases he : raised.2 = true
  · refine (if_pos he).trans ?_
    rw [he, Bool.not_true, Bool.or_false]
    rfl
  · refine (if_neg he).trans ?_
    rw [Bool.eq_false_iff.mpr he, Bool.not_false, Bool.or_true]
    simp [State.modifyRoom, State.setRoom_setAlarms, raised]

theorem settleRoom_own (r : Fin 8) (s : State) : ((settleRoom r s).room r).expiryDue = false := by
  have hhigh : ((expireHigh r s).room r).highTimer.due = false := by
    by_cases h : (s.room r).highTimer.due = true
    · rw [expireHigh_eq ((Timer.due_iff _).mp h)]
      simp
    · rw [expireHigh, if_neg h]
      exact Bool.eq_false_iff.mpr h
  unfold settleRoom
  generalize expireHigh r s = t at *
  by_cases h : (t.room r).lowTimer.due = true
  · rw [expireLow_eq ((Timer.due_iff _).mp h)]
    simpa [Room.expiryDue] using hhigh
  · rw [expireLow, if_neg h]
    exact Bool.or_eq_false_iff.mpr ⟨hhigh, Bool.eq_false_iff.mpr h⟩

/-! ### Doors -/

theorem enterFault_eases (cause : FaultCause) (d : Fin 24) (s : State) : s.Eases (enterFault cause d s) := by
  refine State.Eases.trans (State.eases_setDoor s d fun _ => ?_) (State.eases_raiseCondition _ _ _ _ _ fun t => t.eases_setDoor d ?_)
  · rfl
  · exact id

theorem Door.expiryDue_sealing {x : Door} (h : x.state = .sealing) : x.expiryDue = x.sealTimer.due := by
  rw [Door.expiryDue, h]

theorem Door.expiryDue_breach {x : Door} (h : x.state = .breach) : x.expiryDue = x.breachTimer.due := by
  rw [Door.expiryDue, h]

theorem Door.expiryDue_releasing {x : Door} (h : x.state = .releasing) : x.expiryDue = x.releaseTimer.due := by
  rw [Door.expiryDue, h]

/-- The seal timer started again. -/
theorem Door.sealing_again {x : Door} (h : x.state = .sealing) (n : Nat) :
    ({ x with sealTimer := .start n } : Door).expiryDue = false :=
  (Door.expiryDue_sealing (x := { x with sealTimer := .start n }) h).trans (Timer.due_start n)

/-- The breach grace timer stopped. -/
theorem Door.breach_stopped {x : Door} (h : x.state = .breach) :
    ({ x with breachTimer := .stopped, breachFlag := true } : Door).expiryDue = false :=
  Door.expiryDue_breach (x := { x with breachTimer := .stopped, breachFlag := true }) h

theorem expireSeal_eases (d : Fin 24) (s : State) : s.Eases (expireSeal d s) := by
  refine .ite (fun h => .ite (fun _ => State.Eases.trans (s.eases_post _ _ _) (State.eases_setDoor _ d fun _ => ?_))
    fun _ => State.Eases.trans (s.eases_post _ _ _) (State.eases_setDoor _ d fun _ => ?_)) fun _ => .refl s
  · exact Door.sealing_again h.1 _
  · rfl

theorem expireBreach_eases (d : Fin 24) (s : State) : s.Eases (expireBreach d s) := by
  refine .ite (fun h => State.Eases.trans (State.eases_setDoor s d fun _ => ?_) (State.eases_raiseCondition _ _ _ _ _ fun t =>
    t.eases_setDoor d ?_)) fun _ => .refl s
  · exact Door.breach_stopped h.1
  · exact id

theorem expireRelease_eases (d : Fin 24) (s : State) : s.Eases (expireRelease d s) := by
  refine .ite (fun _ => .ite (fun _ => enterFault_eases _ d s) fun _ => .ite (fun _ => State.eases_setDoor s d fun _ => ?_)
    fun _ => State.eases_setDoor s d fun _ => ?_) fun _ => .refl s
  · rfl
  · rfl

theorem settleDoor_eases (d : Fin 24) (s : State) : s.Eases (settleDoor d s) :=
  ((expireSeal_eases d s).trans (expireBreach_eases d _)).trans (expireRelease_eases d _)

/-- A door's record after another is written in its place. -/
theorem State.setDoor_own (s : State) (d : Fin 24) {x : Door} (h : x.expiryDue = false) : ((s.setDoor d x).door d).expiryDue = false := by
  rw [State.door_setDoor_self]
  exact (Door.expiryDue_driven x _).trans h

theorem enterFault_own (cause : FaultCause) (d : Fin 24) (s : State) : ((enterFault cause d s).door d).expiryDue = false := by
  unfold enterFault
  refine (State.eases_raiseCondition _ _ _ _ _ fun t => t.eases_setDoor d ?_).door d ?_
  · exact id
  · refine State.setDoor_own _ d ?_
    rfl

theorem expireSeal_own {d : Fin 24} {s : State} (h : (s.door d).state = .sealing ∧ (s.door d).sealTimer.due = true) :
    ((expireSeal d s).door d).expiryDue = false := by
  unfold expireSeal
  dsimp only
  rw [if_pos h]
  split
  · exact State.setDoor_own _ d (Door.sealing_again h.1 _)
  · exact State.setDoor_own _ d rfl

theorem expireBreach_own {d : Fin 24} {s : State} (h : (s.door d).state = .breach ∧ (s.door d).breachTimer.due = true) :
    ((expireBreach d s).door d).expiryDue = false := by
  unfold expireBreach
  dsimp only
  rw [if_pos h]
  refine (State.eases_raiseCondition _ _ _ _ _ fun t => t.eases_setDoor d ?_).door d ?_
  · exact id
  · exact State.setDoor_own _ d (Door.breach_stopped h.1)

theorem expireRelease_own {d : Fin 24} {s : State} (h : (s.door d).state = .releasing ∧ (s.door d).releaseTimer.due = true) :
    ((expireRelease d s).door d).expiryDue = false := by
  unfold expireRelease
  dsimp only
  rw [if_pos h]
  split
  · exact enterFault_own _ d s
  · split
    all_goals
      refine State.setDoor_own _ d ?_
      rfl

/-- One of a door's expiries stands at a time, that of the timer its state runs; taken, none stands. -/
theorem settleDoor_own (d : Fin 24) (s : State) : ((settleDoor d s).door d).expiryDue = false := by
  cases hdue : (s.door d).expiryDue
  · exact (settleDoor_eases d s).door d hdue
  · have hseal : (s.door d).state ≠ .sealing → expireSeal d s = s := fun h => if_neg fun k => h k.1
    have hbreach : (s.door d).state ≠ .breach → expireBreach d s = s := fun h => if_neg fun k => h k.1
    unfold settleDoor
    cases hstate : (s.door d).state
    case sealing =>
      rw [Door.expiryDue_sealing hstate] at hdue
      exact (expireRelease_eases d _).door d ((expireBreach_eases d _).door d (expireSeal_own ⟨hstate, hdue⟩))
    case breach =>
      rw [Door.expiryDue_breach hstate] at hdue
      rw [hseal (by rw [hstate]; decide)]
      exact (expireRelease_eases d _).door d (expireBreach_own ⟨hstate, hdue⟩)
    case releasing =>
      rw [Door.expiryDue_releasing hstate] at hdue
      rw [hseal (by rw [hstate]; decide), hbreach (by rw [hstate]; decide)]
      exact expireRelease_own ⟨hstate, hdue⟩
    all_goals
      rw [Door.expiryDue, hstate] at hdue
      cases hdue

/-! ### Defrost -/

theorem modifyDefrost_eases (r : Fin 8) {f : Defrost → Defrost} (s : State)
    (hphase : (s.defrost r).phaseDue = false → (f (s.defrost r)).phaseDue = false)
    (hinhibit : (f (s.defrost r)).inhibitDue = (s.defrost r).inhibitDue) : s.Eases (s.modifyDefrost r f) :=
  s.eases_setDefrost r hphase fun h => hinhibit.trans h

theorem grant_eases (r : Fin 8) (s : State) : s.Eases (grant r s) := by
  have htake : s.Eases ({ s with defrostQueue := s.defrostQueue.erase r }.takeLoad r) :=
    .of_frame (fs := [.defrostQueue, .remainingCapacity]) rfl (by decide)
  refine (htake.trans (State.eases_setDefrost _ r (fun _ => ?_) fun h => ?_)).trans (State.eases_post _ _ _ _)
  · exact Timer.due_start _
  · exact h

theorem arbiterTurn_eases (s : State) (bar : Bool) (r : Fin 8) : s.Eases (arbiterTurn (s, bar) r).1 := by
  have hstate : s.Eases (s.modifyDefrost r fun x => { x with state := s.queueState r }) := by
    refine modifyDefrost_eases r s (fun _ => ?_) rfl
    unfold State.queueState
    split <;> rfl
  unfold arbiterTurn
  dsimp only
  split
  · exact hstate
  · split
    · exact hstate
    · split
      · exact hstate
      · exact hstate.trans (grant_eases r _)

theorem evaluateQueue_eases (s : State) : s.Eases (evaluateQueue s) := by
  have go : ∀ (l : List (Fin 8)) (a : State × Bool), a.1.Eases (l.foldl arbiterTurn a).1 := by
    intro l
    induction l with
    | nil => intro a; exact .refl _
    | cons r l ih => intro a; exact (arbiterTurn_eases a.1 a.2 r).trans (ih _)
  exact go _ (s, false)

theorem givePermits_eases (r : Fin 8) (s : State) : s.Eases (givePermits r s) := by
  refine eases_forEach (fun d s => .ite (fun _ => ?_) fun _ => .refl s) s
  refine State.Eases.trans ?_ (State.eases_post _ _ _ _)
  exact s.eases_setDoor d id

theorem lapsed_eases (r : Fin 8) (s : State) : s.Eases (lapsed r s) := by
  refine State.Eases.trans ?_ (State.eases_post _ _ _ _)
  have hload : ∀ t : State, t.Eases (t.returnLoad r) := fun t => .of_frame (fs := [.remainingCapacity]) rfl (by decide)
  refine State.Eases.trans ?_ (hload _)
  refine s.eases_setDefrost r (fun _ => ?_) ?_
  · rfl
  · exact id

theorem expireGrantHold_eases (r : Fin 8) (s : State) : s.Eases (expireGrantHold r s) := by
  rw [expireGrantHold_eq]
  exact .ite (fun _ => ((lapsed_eases r s).trans (givePermits_eases r _)).trans (evaluateQueue_eases _)) fun _ => .refl s

theorem raiseOverrun_eases (r : Fin 8) (s : State) : s.Eases (raiseOverrun r s) :=
  (modifyDefrost_eases r s id rfl).trans (State.eases_raiseCondition _ _ _ _ _ fun t => modifyDefrost_eases r t id rfl)

theorem expireHeating_eases (r : Fin 8) (s : State) : s.Eases (expireHeating r s) := by
  refine .ite (fun _ => State.Eases.trans ?_ (raiseOverrun_eases r _)) fun _ => .refl s
  exact s.eases_setDefrost r (fun _ => Defrost.phaseDue_of_timer rfl) id

theorem expireDrip_eases (r : Fin 8) (s : State) : s.Eases (expireDrip r s) := by
  refine .ite (fun _ => State.Eases.trans ?_ (givePermits_eases r _)) fun _ => .refl s
  exact s.eases_setDefrost r (fun _ => Timer.due_start _) id

theorem expireRecovery_eases (r : Fin 8) (s : State) : s.Eases (expireRecovery r s) := by
  refine .ite (fun _ => State.Eases.trans (State.Eases.trans ?_ (State.eases_post _ _ _ _)) (resumeHigh_eases r _)) fun _ => .refl s
  exact s.eases_setDefrost r (fun _ => rfl) id

theorem expireInhibit_eases (r : Fin 8) (s : State) : s.Eases (expireInhibit r s) := by
  refine .ite (fun _ => State.Eases.trans ?_ (evaluateQueue_eases _)) fun _ => .refl s
  exact s.eases_setDefrost r id fun _ => rfl

theorem settleDefrost_eases (r : Fin 8) (s : State) : s.Eases (settleDefrost r s) :=
  ((((expireGrantHold_eases r s).trans (expireHeating_eases r _)).trans (expireDrip_eases r _)).trans
    (expireRecovery_eases r _)).trans (expireInhibit_eases r _)

theorem State.phaseDue_setDefrost (s : State) (r : Fin 8) {x : Defrost} (h : x.phaseDue = false) :
    ((s.setDefrost r x).defrost r).phaseDue = false := by
  rw [State.defrost_setDefrost_self]
  exact h

theorem expireGrantHold_own {r : Fin 8} {s : State} (h : (s.defrost r).state = .granted ∧ (s.defrost r).phaseTimer.due = true) :
    ((expireGrantHold r s).defrost r).phaseDue = false := by
  rw [expireGrantHold_eq, if_pos h]
  refine ((givePermits_eases r _).trans (evaluateQueue_eases _)).phase r ?_
  refine s.phaseDue_setDefrost r ?_
  rfl

theorem expireHeating_own {r : Fin 8} {s : State} (h : (s.defrost r).state = .heating ∧ (s.defrost r).phaseTimer.due = true) :
    ((expireHeating r s).defrost r).phaseDue = false := by
  unfold expireHeating
  dsimp only
  rw [if_pos h]
  refine (raiseOverrun_eases r _).phase r (s.phaseDue_setDefrost r (Defrost.phaseDue_of_timer ?_))
  rfl

theorem expireDrip_own {r : Fin 8} {s : State} (h : (s.defrost r).state = .drip ∧ (s.defrost r).phaseTimer.due = true) :
    ((expireDrip r s).defrost r).phaseDue = false := by
  unfold expireDrip
  dsimp only
  rw [if_pos h]
  refine (givePermits_eases r _).phase r (s.phaseDue_setDefrost r ?_)
  exact Timer.due_start _

theorem expireRecovery_own {r : Fin 8} {s : State} (h : (s.defrost r).state = .recovery ∧ (s.defrost r).phaseTimer.due = true) :
    ((expireRecovery r s).defrost r).phaseDue = false := by
  unfold expireRecovery
  dsimp only
  rw [if_pos h]
  refine (resumeHigh_eases r _).phase r ?_
  refine s.phaseDue_setDefrost r ?_
  rfl

theorem expireInhibit_own (r : Fin 8) (s : State) : ((expireInhibit r s).defrost r).inhibitDue = false := by
  unfold expireInhibit
  split
  · refine (evaluateQueue_eases _).inhibit r ?_
    exact congrArg Defrost.inhibitDue (State.defrost_setDefrost_self s r _)
  · next h => exact Bool.eq_false_iff.mpr h

/-- One phase's expiry stands at a time, that of the room's state; taken, neither it nor the inhibit's stands. -/
theorem settleDefrost_own (r : Fin 8) (s : State) : ((settleDefrost r s).defrost r).expiryDue = false := by
  have hphase : ((expireRecovery r (expireDrip r (expireHeating r (expireGrantHold r s)))).defrost r).phaseDue = false := by
    have hgrant : (s.defrost r).state ≠ .granted → expireGrantHold r s = s := fun h => if_neg fun k => h k.1
    have hheating : (s.defrost r).state ≠ .heating → expireHeating r s = s := fun h => if_neg fun k => h k.1
    have hdrip : (s.defrost r).state ≠ .drip → expireDrip r s = s := fun h => if_neg fun k => h k.1
    cases hdue : (s.defrost r).phaseDue
    · exact ((((expireGrantHold_eases r s).trans (expireHeating_eases r _)).trans (expireDrip_eases r _)).trans
        (expireRecovery_eases r _)).phase r hdue
    · have htimer := Defrost.phaseDue_timer hdue
      cases hstate : (s.defrost r).state
      case granted =>
        exact (((expireHeating_eases r _).trans (expireDrip_eases r _)).trans (expireRecovery_eases r _)).phase r
          (expireGrantHold_own ⟨hstate, htimer⟩)
      case heating =>
        rw [hgrant (by rw [hstate]; decide)]
        exact ((expireDrip_eases r _).trans (expireRecovery_eases r _)).phase r (expireHeating_own ⟨hstate, htimer⟩)
      case drip =>
        rw [hgrant (by rw [hstate]; decide), hheating (by rw [hstate]; decide)]
        exact (expireRecovery_eases r _).phase r (expireDrip_own ⟨hstate, htimer⟩)
      case recovery =>
        rw [hgrant (by rw [hstate]; decide), hheating (by rw [hstate]; decide), hdrip (by rw [hstate]; decide)]
        exact expireRecovery_own ⟨hstate, htimer⟩
      all_goals
        rw [Defrost.phaseDue, hstate] at hdue
        cases hdue
  unfold settleDefrost
  generalize expireRecovery r (expireDrip r (expireHeating r (expireGrantHold r s))) = t at *
  exact Bool.or_eq_false_iff.mpr ⟨expireInhibit_own r t, (expireInhibit_eases r t).phase r hphase⟩

/-! ### Moves -/

theorem recorded_eases (kind : RecordKind) (f : EndFlags) (settle : Option (PalletState × Place)) (m : Fin 32) (s : State) :
    s.Eases (recorded kind f settle m s) := by
  have hmoved : s.Eases (settleMoved m settle s) := .of_frame (settleMoved_frame m settle s) (by decide)
  exact hmoved.trans (.of_frame (writeRecord_frame _ _) (by decide))

theorem cleared_eases (m : Fin 32) (x : Move) (s : State) : s.Eases (cleared m x s) := by
  refine State.Eases.trans (.ite (fun _ => s.eases_setAlarms _) fun _ => .refl s) (State.eases_setMove _ m fun _ => ?_)
  rfl

theorem endMove_eases (kind : RecordKind) (f : EndFlags) (settle : Option (PalletState × Place)) (m : Fin 32) (s : State) :
    s.Eases (endMove kind f settle m s) := by
  rw [endMove_eq]
  exact ((recorded_eases kind f settle m s).trans (cleared_eases m _ _)).trans (evaluateQueue_eases _)

theorem expireLapse_eases (m : Fin 32) (s : State) : s.Eases (expireLapse m s) :=
  .ite (fun _ => (endMove_eases _ _ _ m s).trans (State.eases_post _ _ _ _)) fun _ => .refl s

theorem Move.transit_stopped {x : Move} (h : x.state = .inTransit) :
    ({ x with transitTimer := .stopped, overdueFlag := true } : Move).expiryDue = false := by
  rw [Move.expiryDue, h]
  rfl

theorem expireTransit_eases (m : Fin 32) (s : State) : s.Eases (expireTransit m s) := by
  refine .ite (fun h => State.Eases.trans (State.eases_setMove s m fun _ => ?_) (State.eases_raiseCondition _ _ _ _ _ fun t =>
    t.eases_setMove m ?_)) fun _ => .refl s
  · exact Move.transit_stopped h.1
  · exact id

theorem settleMove_eases (m : Fin 32) (s : State) : s.Eases (settleMove m s) := (expireLapse_eases m s).trans (expireTransit_eases m _)

theorem settleMove_own (m : Fin 32) (s : State) : ((settleMove m s).move m).expiryDue = false := by
  cases hdue : (s.move m).expiryDue
  · exact (settleMove_eases m s).move m hdue
  · unfold settleMove
    cases hstate : (s.move m).state
    case permitted =>
      refine (expireTransit_eases m _).move m ?_
      have htimer : (s.move m).lapseTimer.due = true := by rwa [Move.expiryDue, hstate] at hdue
      unfold expireLapse
      dsimp only
      rw [if_pos ⟨hstate, htimer⟩, endMove_eq]
      refine (State.eases_post _ _ _ _).move m ((evaluateQueue_eases _).move m ?_)
      exact congrArg Move.expiryDue (State.move_setMove_self _ m _)
    case inTransit =>
      have htimer : (s.move m).transitTimer.due = true := by rwa [Move.expiryDue, hstate] at hdue
      have hlapse : expireLapse m s = s := if_neg fun k => by
        rw [hstate] at k
        cases k.1
      rw [hlapse]
      unfold expireTransit
      dsimp only
      rw [if_pos ⟨hstate, htimer⟩]
      refine (State.eases_raiseCondition _ _ _ _ _ fun t => t.eases_setMove m ?_).move m ?_
      · exact id
      · rw [State.move_setMove_self]
        exact Move.transit_stopped hstate
    case free =>
      rw [Move.expiryDue, hstate] at hdue
      cases hdue

/-! ### The whole part -/

/-- What each turn makes of its own index, and easing keeps, holds of every index after all turns. -/
theorem forEach_own {n : Nat} {f : Fin n → State → State} {P : Fin n → State → Prop} (hown : ∀ i s, P i (f i s))
    (hkeep : ∀ i (s t : State), s.Eases t → P i s → P i t) (heases : ∀ i (s : State), s.Eases (f i s)) (s : State) (i : Fin n) :
    P i (forEach n f s) := by
  obtain ⟨s1, -, h⟩ := forEach_at i State.Eases State.Eases.refl State.Eases.trans (fun j t _ => heases j t) s
  exact hkeep i _ _ h (hown i s1)

theorem settleRooms_own (s : State) (r : Fin 8) : ((settleRooms s).room r).expiryDue = false :=
  forEach_own (P := fun r s => (s.room r).expiryDue = false) settleRoom_own (fun r _ _ h => h.room r) settleRoom_eases s r

theorem settleDoors_own (s : State) (d : Fin 24) : ((forEach 24 settleDoor s).door d).expiryDue = false :=
  forEach_own (P := fun d s => (s.door d).expiryDue = false) settleDoor_own (fun d _ _ h => h.door d) settleDoor_eases s d

theorem State.Eases.defrost {s t : State} (h : s.Eases t) (r : Fin 8) (hdue : (s.defrost r).expiryDue = false) :
    (t.defrost r).expiryDue = false := by
  obtain ⟨hinhibit, hphase⟩ := Bool.or_eq_false_iff.mp hdue
  exact Bool.or_eq_false_iff.mpr ⟨h.inhibit r hinhibit, h.phase r hphase⟩

theorem settleDefrosts_own (s : State) (r : Fin 8) : ((forEach 8 settleDefrost s).defrost r).expiryDue = false :=
  forEach_own (P := fun r s => (s.defrost r).expiryDue = false) settleDefrost_own (fun r _ _ h => h.defrost r)
    settleDefrost_eases s r

theorem settleMoves_own (s : State) (m : Fin 32) : ((forEach 32 settleMove s).move m).expiryDue = false :=
  forEach_own (P := fun m s => (s.move m).expiryDue = false) settleMove_own (fun m _ _ h => h.move m) settleMove_eases s m

/-- No expiry stands once all have been taken (R3). -/
theorem settleTimers_settled (s : State) : (settleTimers s).settled := by
  have hrooms := settleRooms_own s
  unfold settleTimers
  generalize settleRooms s = a at *
  have hdoors := settleDoors_own a
  have hab := eases_forEach settleDoor_eases a
  generalize forEach 24 settleDoor a = b at *
  have hdefrosts := settleDefrosts_own b
  have hbc := eases_forEach settleDefrost_eases b
  generalize forEach 8 settleDefrost b = c at *
  have hmoves := settleMoves_own c
  have hcd := eases_forEach settleMove_eases c
  generalize forEach 32 settleMove c = t at *
  exact ⟨fun r => (hab.trans (hbc.trans hcd)).room r (hrooms r), fun d => (hbc.trans hcd).door d (hdoors d),
    fun r => hcd.defrost r (hdefrosts r), hmoves⟩

end Sys2Proof.Machine
end

section
/-! PROOFS. What comes after an expiry finds it taken (R3). -/

namespace Sys2Proof.Machine

set_option Elab.async false

/-! ### Timers (R3) -/

theorem Timer.tick_iterate_stopped (k : Nat) : Timer.tick^[k] .stopped = .stopped := by
  induction k with
  | zero => rfl
  | succ k ih => rw [Function.iterate_succ_apply', ih, Timer.tick_stopped]

theorem Timer.tick_iterate_running (n k : Nat) : Timer.tick^[k] (.running n) = .running (n - k) := by
  induction k with
  | zero => rfl
  | succ k ih => rw [Function.iterate_succ_apply', ih, Timer.tick_running, Nat.sub_sub]

/-- A timer of length n is due after n second ticks, of length 0 after one, and not before. -/
theorem Timer.due_tick_iterate_start (n k : Nat) : (Timer.tick^[k] (.start n)).due = true ↔ max n 1 ≤ k := by
  rw [Timer.start, Timer.tick_iterate_running, Timer.due_running, Nat.sub_eq_zero_iff_le]

/-! ### A door's expiries leave its inputs -/

/-- Every input of every door is the same in the second state. -/
def State.KeepsInputs (s t : State) : Prop := ∀ (d : Fin 24) (i : DoorInput), (t.door d).input i = (s.door d).input i

theorem State.KeepsInputs.refl (s : State) : s.KeepsInputs s := fun _ _ => rfl

theorem State.KeepsInputs.trans {s t u : State} (h : s.KeepsInputs t) (k : t.KeepsInputs u) : s.KeepsInputs u :=
  fun d i => (k d i).trans (h d i)

theorem State.KeepsInputs.ite {s t u : State} {p : Prop} [Decidable p] (h : s.KeepsInputs t) (k : s.KeepsInputs u) :
    s.KeepsInputs (if p then t else u) := by
  split
  · exact h
  · exact k

theorem Door.input_driven (x : Door) (lines : LineSettings) (i : DoorInput) : (x.driven lines).input i = x.input i := by
  cases i <;> rfl

theorem State.keepsInputs_setDoor (s : State) (d : Fin 24) {x : Door} (htp : x.tp = (s.door d).tp) (hpc : x.pc = (s.door d).pc)
    (hsm : x.sm = (s.door d).sm) : s.KeepsInputs (s.setDoor d x) := by
  intro e i
  rw [State.door_setDoor]
  split
  · next h =>
    subst h
    rw [Door.input_driven]
    cases i
    · exact htp
    · exact hpc
    · exact hsm
  · rfl

theorem State.keepsInputs_post (s : State) (code : AlarmCode) (subject : Subject) (detail : Option Word16) :
    s.KeepsInputs (s.post code subject detail) := fun _ _ => rfl

theorem State.keepsInputs_raiseCondition (s : State) (code : AlarmCode) (subject : Subject) (tag : Option Word32)
    (detail : Option Word16) {f : State → State} (h : ∀ t : State, t.KeepsInputs (f t)) :
    s.KeepsInputs (s.raiseCondition code subject tag detail f) := by
  rw [State.raiseCondition_eq]
  exact .ite (fun _ _ => rfl) (State.KeepsInputs.trans (fun _ _ => rfl) (h _))

theorem enterFault_keepsInputs (cause : FaultCause) (d : Fin 24) (s : State) : s.KeepsInputs (enterFault cause d s) := by
  refine State.KeepsInputs.trans (s.keepsInputs_setDoor d ?_ ?_ ?_) (State.keepsInputs_raiseCondition _ _ _ _ _ fun t =>
    t.keepsInputs_setDoor d ?_ ?_ ?_)
  all_goals rfl

theorem expireSeal_keepsInputs (d : Fin 24) (s : State) : s.KeepsInputs (expireSeal d s) := by
  refine .ite (.ite (State.KeepsInputs.trans (s.keepsInputs_post _ _ _) (State.keepsInputs_setDoor _ d ?_ ?_ ?_))
    (State.KeepsInputs.trans (s.keepsInputs_post _ _ _) (State.keepsInputs_setDoor _ d ?_ ?_ ?_))) (.refl s)
  all_goals rfl

theorem expireBreach_keepsInputs (d : Fin 24) (s : State) : s.KeepsInputs (expireBreach d s) := by
  refine .ite (State.KeepsInputs.trans (s.keepsInputs_setDoor d ?_ ?_ ?_) (State.keepsInputs_raiseCondition _ _ _ _ _ fun t =>
    t.keepsInputs_setDoor d ?_ ?_ ?_)) (.refl s)
  all_goals rfl

theorem expireRelease_keepsInputs (d : Fin 24) (s : State) : s.KeepsInputs (expireRelease d s) := by
  refine .ite (.ite (enterFault_keepsInputs _ d s) (.ite (s.keepsInputs_setDoor d ?_ ?_ ?_) (s.keepsInputs_setDoor d ?_ ?_ ?_)))
    (.refl s)
  all_goals rfl

theorem settleDoor_keepsInputs (d : Fin 24) (s : State) : s.KeepsInputs (settleDoor d s) :=
  ((expireSeal_keepsInputs d s).trans (expireBreach_keepsInputs d _)).trans (expireRelease_keepsInputs d _)

/-! ### Taken once, an expiry is not taken again -/

theorem settleTimers_idem (s : State) : settleTimers (settleTimers s) = settleTimers s := settleTimers_eq (settleTimers_settled s)

theorem settleRooms_idem (s : State) : settleRooms (settleRooms s) = settleRooms s := settleRooms_eq (settleRooms_own s)

theorem settleDoor_idem (d : Fin 24) (s : State) : settleDoor d (settleDoor d s) = settleDoor d s := settleDoor_eq (settleDoor_own d s)

theorem takeFrame_settleTimers (p : Port) (f : Frame) (s : State) : takeFrame p f (settleTimers s) = takeFrame p f s := by
  unfold takeFrame
  rw [settleTimers_idem]

theorem tickSecond_settleTimers (order : List RetryBlock) (s : State) :
    tickSecond order (settleTimers s) = tickSecond order s := by
  rw [tickSecond_eq, tickSecond_eq, settleTimers_idem]

theorem debouncedChange_settleDoor (d : Fin 24) (i : DoorInput) (s : State) (h : ((s.door d).input i).changeDue = true) :
    debouncedChange d i (settleDoor d s) = debouncedChange d i s := by
  have hkept : (((settleDoor d s).door d).input i).changeDue = true := by rwa [settleDoor_keepsInputs d s d i]
  rw [debouncedChange, debouncedChange, if_pos h, if_pos hkept, settleDoor_idem]

theorem settleRooms_withRound (s : State) (x : Round) :
    settleRooms { s with round := x } = { settleRooms s with round := x } := by
  have hpending : (settleRooms s).pending = s.pending := State.frame_pending (settleRooms_frame s) (by decide)
  have haside : settleRooms { s with round := x } = (settleRooms s).aside x s.pending := settleRooms_aside s x s.pending
  rw [haside, ← hpending]
  rfl

theorem completeRound_of_ended {s : State} (h : s.round = .ended) (first : Bool) :
    completeRound first s = if first = true then roundRooms (roundDefrost { settleRooms s with round := .idle })
      else roundDefrost (roundRooms { settleRooms s with round := .idle }) := by
  unfold completeRound
  rw [h, ← settleRooms_withRound]

theorem completeRound_settleRooms {s : State} (h : s.round = .ended) (first : Bool) :
    completeRound first (settleRooms s) = completeRound first s := by
  have hround : (settleRooms s).round = .ended := (State.frame_round (settleRooms_frame s) (by decide)).trans h
  rw [completeRound_of_ended h, completeRound_of_ended hround, settleRooms_idem]

/-- Settles O41: dueness by counting the ticks, the two expiries by their case, each run of expiry commands one command after
the other (`Takes.run`), and what comes after the expiries by their being taken once. -/
theorem roomTimerExpiries : Obligations.RoomTimerExpiries := by
  refine ⟨Timer.due_tick_iterate_start, Timer.tick_iterate_stopped, fun r s => ⟨fun h => ?_, fun h => ?_⟩,
    fun s => ⟨settleTimers_settled s, settleTimers_eq⟩, fun s => ⟨?_, ?_, fun d => ?_⟩, fun s => ⟨fun p f => ?_, fun order => ?_,
    fun d i h => ⟨?_, settleDoor_own d s⟩, fun first h => ?_⟩⟩
  · exact congrArg Host.Outcome.next (expireHigh_eq h)
  · exact congrArg Host.Outcome.next (expireLow_eq h)
  · exact (takes_settleTimers s).run
  · exact (takes_settleRooms s).run
  · exact (takes_settleDoor d s).run
  · exact (takeFrame_settleTimers p f s).symm
  · exact congrArg Host.Outcome.next (tickSecond_settleTimers order s).symm
  · exact congrArg Host.Outcome.next (debouncedChange_settleDoor d i s h).symm
  · exact congrArg Host.Outcome.next (completeRound_settleRooms h first).symm

end Sys2Proof.Machine
end

section
/-! PROOFS. The vote of a room's probes (R20) and the smoothing of its reading (R22). -/

namespace Sys2Proof.Machine

set_option Elab.async false

/-! ### The sorted probes (R20) -/

theorem insertTemp_perm (t : Temperature) (l : List Temperature) : (insertTemp t l).Perm (t :: l) := by
  induction l with
  | nil => exact .refl _
  | cons u l ih =>
    unfold insertTemp
    split
    · exact .refl _
    · exact (ih.cons u).trans (.swap t u l)

theorem insertTemp_sorted (t : Temperature) {l : List Temperature} (h : l.Pairwise (· ≤ ·)) :
    (insertTemp t l).Pairwise (· ≤ ·) := by
  induction l with
  | nil => exact List.pairwise_singleton _ _
  | cons u l ih =>
    obtain ⟨hu, hl⟩ := List.pairwise_cons.mp h
    unfold insertTemp
    split
    · next htu =>
      refine List.pairwise_cons.mpr ⟨fun v hv => ?_, h⟩
      obtain rfl | hv := List.mem_cons.mp hv
      · exact htu
      · exact le_trans htu (hu v hv)
    · next htu =>
      refine List.pairwise_cons.mpr ⟨fun v hv => ?_, ih hl⟩
      obtain rfl | hv := mem_insertTemp.mp hv
      · exact le_of_not_ge htu
      · exact hu v hv

theorem sortTemps_perm (l : List Temperature) : (sortTemps l).Perm l := by
  induction l with
  | nil => exact .refl _
  | cons t l ih => exact (insertTemp_perm t _).trans (ih.cons t)

theorem sortTemps_sorted (l : List Temperature) : (sortTemps l).Pairwise (· ≤ ·) := by
  induction l with
  | nil => exact .nil
  | cons t l ih => exact insertTemp_sorted t ih

/-- The order in which the probes stand does not matter: a rising arrangement of them is the sorted one. -/
theorem sortTemps_eq {l k : List Temperature} (hp : l.Perm k) (hk : k.Pairwise (· ≤ ·)) : sortTemps l = k :=
  ((sortTemps_perm l).trans hp).eq_of_pairwise (fun _ _ _ _ => le_antisymm) (sortTemps_sorted l) hk

/-! ### The vote (R20) -/

theorem State.probeTemps_room (s : State) (r : Fin 8) :
    s.probeTemps .room r = (List.finRange 32).filterMap fun c =>
      if (s.channel c).role = .room ∧ (s.channel c).room = r ∧ (s.channel c).measured = true ∧ (s.channel c).state = .ok
      then some (s.channel c).temperature else none := by
  have hvalid : ∀ x : Channel, (x.valid && x.role == .room && x.room == r) = true
      ↔ x.role = .room ∧ x.room = r ∧ x.measured = true ∧ x.state = .ok := by
    intro x
    simp only [Channel.valid, Bool.and_eq_true, bne_iff_ne, beq_iff_eq]
    constructor
    · rintro ⟨⟨⟨⟨-, hm⟩, hs⟩, hrole⟩, hroom⟩
      exact ⟨hrole, hroom, hm, hs⟩
    · rintro ⟨hrole, hroom, hm, hs⟩
      exact ⟨⟨⟨⟨by simp [hrole], hm⟩, hs⟩, hrole⟩, hroom⟩
  unfold State.probeTemps
  simp only [hvalid]

/-- The record of a room without a vote (R21). -/
theorem Room.voted_none {x : Room} {temps : List Temperature} (h : vote temps = none) :
    x.voted temps = { x with validCount := temps.length } := by
  unfold Room.voted
  rw [h]

/-- The record of a room with a vote (R20, R22, R23). -/
theorem Room.voted_some {x : Room} {temps : List Temperature} {v : Temperature} (h : vote temps = some v) :
    x.voted temps = { x with
      validCount := temps.length, reading := v, firstVote := true
      filtered := if x.firstVote then x.filtered + smoothStep v x.filtered x.weight else v } := by
  unfold Room.voted
  rw [h]

theorem Room.voted_validCount (x : Room) (temps : List Temperature) : (x.voted temps).validCount = temps.length := by
  unfold Room.voted
  split <;> rfl

theorem vote_pair (a b : Int) : vote [a, b] = some (max a b) := by
  rcases le_total a b with h | h
  · rw [vote, sortTemps_eq (.refl _) (k := [a, b]) (by simpa using h), max_eq_right h]
  · rw [vote, sortTemps_eq (.swap b a []) (k := [b, a]) (by simpa using h), max_eq_left h]

theorem vote_three {a b c : Int} (hab : a ≤ b) (hbc : b ≤ c) {l : List Int} (hl : l.Perm [a, b, c]) : vote l = some b := by
  rw [vote, sortTemps_eq hl]
  simp only [List.pairwise_cons, List.mem_cons]
  grind

theorem vote_four {a b c d : Int} (hab : a ≤ b) (hbc : b ≤ c) (hcd : c ≤ d) {l : List Int} (hl : l.Perm [a, b, c, d]) :
    vote l = some (Int.fdiv (b + c + 1) 2) := by
  rw [vote, sortTemps_eq hl, Int.fdiv_eq_ediv_of_nonneg _ (by decide)]
  simp only [List.pairwise_cons, List.mem_cons]
  grind

/-- A vote is one of the probes' temperatures, or lies between two of them. -/
theorem vote_between {l : List Temperature} {v : Temperature} (h : vote l = some v) :
    ∃ a ∈ l, ∃ b ∈ l, min a b ≤ v ∧ v ≤ max a b := by
  have one : ∀ {k : List Temperature}, sortTemps l = k → v ∈ k → ∃ a ∈ l, ∃ b ∈ l, min a b ≤ v ∧ v ≤ max a b :=
    fun hk hv => ⟨v, mem_sortTemps.mp (hk ▸ hv), v, mem_sortTemps.mp (hk ▸ hv), by simp, by simp⟩
  unfold vote at h
  split at h
  · next a hk => cases h; exact one hk (by simp)
  · next a b hk => cases h; exact one hk (by simp)
  · next a b c hk => cases h; exact one hk (by simp)
  · next a b c d hk =>
    cases h
    exact ⟨b, mem_sortTemps.mp (by simp [hk]), c, mem_sortTemps.mp (by simp [hk]), half_between b c⟩
  · cases h

/-- Settles O37: the vote reads the sorted probes, which no arrangement of them changes. -/
theorem voteOfOneToFourProbes : Obligations.VoteOfOneToFourProbes := by
  refine ⟨State.probeTemps_room, fun x temps => ⟨x.voted_validCount temps, fun v hv => ?_⟩, fun a => rfl, vote_pair,
    fun a b c hab hbc l hl => vote_three hab hbc hl, fun a b c d hab hbc hcd l hl => vote_four hab hbc hcd hl,
    fun l v hv => ?_⟩
  · rw [Room.voted_some hv]
  · obtain ⟨a, ha, b, hb, hlow, hhigh⟩ := vote_between hv
    rcases le_total a b with h | h
    · exact ⟨⟨a, ha, min_eq_left h ▸ hlow⟩, b, hb, max_eq_right h ▸ hhigh⟩
    · exact ⟨⟨b, hb, min_eq_right h ▸ hlow⟩, a, ha, max_eq_left h ▸ hhigh⟩

/-! ### The smoothing step (R22) -/

/-- The weighted difference, rounded, before a step of 0 is replaced by one of a sixteenth (R22). -/
def weightedStep (d : Int) (weight : Nat) : Int := (d * weight + 128) / 256

theorem smoothStep_of_ne {reading filtered : Int} {weight : Nat}
    (h : weightedStep (reading - filtered) weight ≠ 0 ∨ reading = filtered) :
    smoothStep reading filtered weight = weightedStep (reading - filtered) weight := by
  unfold smoothStep
  refine if_neg fun ⟨hzero, hd⟩ => ?_
  obtain h | h := h
  · exact h hzero
  · exact hd (sub_eq_zero.mpr h)

theorem smoothStep_of_eq_zero {reading filtered : Int} {weight : Nat}
    (h : weightedStep (reading - filtered) weight = 0) (hd : reading ≠ filtered) :
    smoothStep reading filtered weight = if 0 < reading - filtered then 1 else -1 := by
  unfold smoothStep
  exact if_pos ⟨h, sub_ne_zero.mpr hd⟩

/-- The step lies between 0 and the whole difference (R22). -/
theorem smoothStep_between (reading filtered : Int) {weight : Nat} (hlow : 1 ≤ weight) (hhigh : weight ≤ 256) :
    min 0 (reading - filtered) ≤ smoothStep reading filtered weight
      ∧ smoothStep reading filtered weight ≤ max 0 (reading - filtered) := by
  by_cases h : weightedStep (reading - filtered) weight ≠ 0 ∨ reading = filtered
  · rw [smoothStep_of_ne h]
    exact weighted_between _ hlow hhigh
  · obtain ⟨hzero, hd⟩ := not_or.mp h
    rw [smoothStep_of_eq_zero (not_not.mp hzero) hd]
    exact unit_between (by omega)

theorem smoothStep_eq_zero (reading filtered : Int) (weight : Nat) :
    smoothStep reading filtered weight = 0 ↔ reading = filtered := by
  by_cases h : weightedStep (reading - filtered) weight ≠ 0 ∨ reading = filtered
  · rw [smoothStep_of_ne h]
    constructor
    · intro hzero
      exact h.resolve_left (not_not.mpr hzero)
    · rintro rfl
      simp [weightedStep]
  · obtain ⟨hzero, hd⟩ := not_or.mp h
    rw [smoothStep_of_eq_zero (not_not.mp hzero) hd]
    refine ⟨fun hstep => ?_, fun heq => absurd heq hd⟩
    split at hstep <;> omega

/-- With the weight 256 the whole difference is taken. -/
theorem smoothStep_whole (reading filtered : Int) : smoothStep reading filtered 256 = reading - filtered := by
  have hwhole : weightedStep (reading - filtered) 256 = reading - filtered := by unfold weightedStep; omega
  rw [smoothStep_of_ne, hwhole]
  omega

/-- Settles O38: each clause is a case of the step lying between 0 and the difference, and being 0 only where that is. -/
theorem smoothingStepStaysShortOfTheReading : Obligations.SmoothingStepStaysShortOfTheReading := by
  refine ⟨fun x temps v hv hfirst => ?_, fun reading filtered k hlow hhigh => ?_⟩
  · rw [Room.voted_some hv]
    exact if_pos hfirst
  · obtain ⟨hmin, hmax⟩ := smoothStep_between reading filtered hlow hhigh
    have hweighted : Int.fdiv ((reading - filtered) * k + 128) 256 = weightedStep (reading - filtered) k :=
      Int.fdiv_eq_ediv_of_nonneg _ (by decide)
    refine ⟨fun step hstep => ?_, by omega, by omega, smoothStep_eq_zero reading filtered k, ?_, by omega⟩
    · rw [hweighted] at hstep
      subst hstep
      refine ⟨fun hzero hd => ?_, fun hzero hd => ?_, smoothStep_of_ne⟩
      · rw [smoothStep_of_eq_zero hzero (by omega), if_pos hd]
      · rw [smoothStep_of_eq_zero hzero (by omega), if_neg (by omega)]
    · rw [smoothStep_whole]
      omega

end Sys2Proof.Machine
end

section
/-! PROOFS. The evaluation of a room's limits (R27 to R30), and the requests that change limits and frost parameters (R24 to R26, R67). -/

namespace Sys2Proof.Machine

set_option Elab.async false

/-! ### A condition with its unposted mark, as one update -/

/-- A condition raised whose unposted mark stands in a room's record. -/
theorem raiseCondition_room (s : State) (r : Fin 8) (code : AlarmCode) (subject : Subject) (tag : Option Word32)
    (detail : Option Word16) (f : Room → Room) :
    s.raiseCondition code subject tag detail (fun t => t.modifyRoom r f)
      = (s.setRoom r (if (s.alarms.raise s.clock false code subject tag detail).2 = true then s.room r else f (s.room r))).setAlarms
        (s.alarms.raise s.clock false code subject tag detail).1 := by
  rw [State.raiseCondition_eq]
  split
  · rw [State.setRoom_own]
  · rfl

/-- A condition raised whose unposted mark stands in a defrost record. -/
theorem raiseCondition_defrost (s : State) (r : Fin 8) (code : AlarmCode) (subject : Subject) (tag : Option Word32)
    (detail : Option Word16) (f : Defrost → Defrost) :
    s.raiseCondition code subject tag detail (fun t => t.modifyDefrost r f)
      = (s.setDefrost r (if (s.alarms.raise s.clock false code subject tag detail).2 = true then s.defrost r
          else f (s.defrost r))).setAlarms (s.alarms.raise s.clock false code subject tag detail).1 := by
  rw [State.raiseCondition_eq]
  split
  · rw [State.setDefrost_own]
  · rfl

/-! ### The evaluation of a room's limits (R27 to R30) -/

theorem Timer.follow_eq (t : Timer) (holds mayStart : Bool) (length : Nat) :
    t.follow holds mayStart length
      = if holds = true then (if t = .stopped ∧ mayStart = true then .start length else t) else .stopped := by
  unfold Timer.follow
  simp only [Bool.and_eq_true, beq_iff_eq]

theorem DefrostState.holdsHighTimer_eq_false (x : DefrostState) :
    x.holdsHighTimer = false ↔ x ≠ .heating ∧ x ≠ .drip ∧ x ≠ .recovery := by
  cases x <;> simp [DefrostState.holdsHighTimer]

/-- A room's record after its high timing (R27, R28, R29). -/
def Room.afterHigh (x : Room) (defrost : DefrostState) : Room :=
  { x with
    highTimer :=
      if x.effectiveUpper < x.filtered then
        (if x.highTimer = .stopped ∧ x.highFlag = false ∧ defrost ≠ .heating ∧ defrost ≠ .drip ∧ defrost ≠ .recovery
          then .start x.highDelay else x.highTimer)
      else .stopped
    highFlag := x.highFlag && decide (x.effectiveUpper - 8 < x.filtered)
    highUnposted := x.highUnposted && !(x.highFlag && decide (x.filtered ≤ x.effectiveUpper - 8)) }

/-- A room's record after its low timing (R30). -/
def Room.afterLow (x : Room) : Room :=
  { x with
    lowTimer :=
      if x.filtered < x.lower then (if x.lowTimer = .stopped ∧ x.lowFlag = false then .start x.lowDelay else x.lowTimer)
      else .stopped
    lowFlag := x.lowFlag && decide (x.filtered < x.lower + 8)
    lowUnposted := x.lowUnposted && !(x.lowFlag && decide (x.lower + 8 ≤ x.filtered)) }

/-- ROOM_HIGH is returned: its flag is set and F has fallen far enough (R29). -/
def Room.returnsHigh (x : Room) : Prop := x.highFlag = true ∧ x.filtered ≤ x.effectiveUpper - 8

/-- ROOM_LOW is returned: its flag is set and F has risen far enough (R30). -/
def Room.returnsLow (x : Room) : Prop := x.lowFlag = true ∧ x.lower + 8 ≤ x.filtered

theorem Room.follow_high (x : Room) (defrost : DefrostState) :
    x.highTimer.follow (decide (x.effectiveUpper < x.filtered)) (!x.highFlag && !defrost.holdsHighTimer) x.highDelay
      = (x.afterHigh defrost).highTimer := by
  rw [Timer.follow_eq]
  simp only [decide_eq_true_eq, Bool.and_eq_true, Bool.not_eq_true', DefrostState.holdsHighTimer_eq_false]
  rfl

theorem Room.follow_low (x : Room) :
    x.lowTimer.follow (decide (x.filtered < x.lower)) (!x.lowFlag) x.lowDelay = x.afterLow.lowTimer := by
  rw [Timer.follow_eq]
  simp only [decide_eq_true_eq, Bool.not_eq_true']
  rfl

/-- A flag stays set exactly where its alarm is not returned. -/
theorem flag_stays {flag : Bool} {p q : Prop} [Decidable p] [Decidable q] (h : p ↔ ¬ q) :
    ((flag = true ∧ q) → (flag && decide p) = false ∧ ∀ mark : Bool, (mark && !(flag && decide q)) = false)
    ∧ (¬ (flag = true ∧ q) → (flag && decide p) = flag ∧ ∀ mark : Bool, (mark && !(flag && decide q)) = mark) := by
  simp only [h]
  by_cases hq : q <;> cases flag <;> simp [hq]

theorem Room.afterHigh_returned {x : Room} (h : x.returnsHigh) (defrost : DefrostState) :
    x.afterHigh defrost
      = { x with highTimer := (x.afterHigh defrost).highTimer, highFlag := false, highUnposted := false } := by
  obtain ⟨hflag, hmark⟩ := (flag_stays not_le.symm).1 h
  simp only [Room.afterHigh, hflag, hmark]

theorem Room.afterHigh_kept {x : Room} (h : ¬ x.returnsHigh) (defrost : DefrostState) :
    x.afterHigh defrost = { x with highTimer := (x.afterHigh defrost).highTimer } := by
  obtain ⟨hflag, hmark⟩ := (flag_stays not_le.symm).2 h
  simp only [Room.afterHigh, hflag, hmark]

theorem Room.afterLow_returned {x : Room} (h : x.returnsLow) :
    x.afterLow = { x with lowTimer := x.afterLow.lowTimer, lowFlag := false, lowUnposted := false } := by
  obtain ⟨hflag, hmark⟩ := (flag_stays not_le.symm).1 h
  simp only [Room.afterLow, hflag, hmark]

theorem Room.afterLow_kept {x : Room} (h : ¬ x.returnsLow) : x.afterLow = { x with lowTimer := x.afterLow.lowTimer } := by
  obtain ⟨hflag, hmark⟩ := (flag_stays not_le.symm).2 h
  simp only [Room.afterLow, hflag, hmark]

/-- ROOM_HIGH's timing and return as one update of the room, with the table returned where it is (R27, R28, R29). -/
theorem evaluateHigh_eq (r : Fin 8) (s : State) :
    ((s.room r).returnsHigh → evaluateHigh r s = (s.setRoom r ((s.room r).afterHigh (s.defrost r).state)).setAlarms
        (s.alarms.return .roomHigh (.room r)))
    ∧ (¬ (s.room r).returnsHigh → evaluateHigh r s = s.setRoom r ((s.room r).afterHigh (s.defrost r).state)) := by
  have hcond : ((s.room r).highFlag && decide ((s.room r).filtered ≤ (s.room r).effectiveUpper - Config.alarmHysteresis)) = true
      ↔ (s.room r).returnsHigh := by
    rw [Bool.and_eq_true, decide_eq_true_eq]
    rfl
  simp only [evaluateHigh, Room.follow_high]
  refine ⟨fun h => ?_, fun h => ?_⟩
  · rw [if_pos (hcond.mpr h)]
    simp only [State.modifyRoom, State.returnCondition_eq, State.room_setRoom_self, State.setRoom_setRoom]
    exact congrArg (fun x => (s.setRoom r x).setAlarms _) (Room.afterHigh_returned h _).symm
  · rw [if_neg (hcond.not.mpr h)]
    exact congrArg (s.setRoom r) (Room.afterHigh_kept h _).symm

/-- ROOM_LOW's timing and return as one update of the room, with the table returned where it is (R30). -/
theorem evaluateLow_eq (r : Fin 8) (s : State) :
    ((s.room r).returnsLow → evaluateLow r s = (s.setRoom r (s.room r).afterLow).setAlarms
        (s.alarms.return .roomLow (.room r)))
    ∧ (¬ (s.room r).returnsLow → evaluateLow r s = s.setRoom r (s.room r).afterLow) := by
  have hcond : ((s.room r).lowFlag && decide ((s.room r).lower + Config.alarmHysteresis ≤ (s.room r).filtered)) = true
      ↔ (s.room r).returnsLow := by
    rw [Bool.and_eq_true, decide_eq_true_eq]
    rfl
  simp only [evaluateLow, Room.follow_low]
  refine ⟨fun h => ?_, fun h => ?_⟩
  · rw [if_pos (hcond.mpr h)]
    simp only [State.modifyRoom, State.returnCondition_eq, State.room_setRoom_self, State.setRoom_setRoom]
    exact congrArg (fun x => (s.setRoom r x).setAlarms _) (Room.afterLow_returned h).symm
  · rw [if_neg (hcond.not.mpr h)]
    exact congrArg (s.setRoom r) (Room.afterLow_kept h).symm

/-- The table after a room's evaluation: ROOM_HIGH and then ROOM_LOW, each returned where its room's record says so. -/
def State.evaluatedAlarms (s : State) (r : Fin 8) : AlarmTable :=
  let x := s.room r
  let high := if x.highFlag = true ∧ x.filtered ≤ x.effectiveUpper - 8 then s.alarms.return .roomHigh (.room r) else s.alarms
  if x.lowFlag = true ∧ x.lower + 8 ≤ x.filtered then high.return .roomLow (.room r) else high

theorem evaluateHigh_record (r : Fin 8) (s : State) : ∃ attn, evaluateHigh r s
    = { s.setRoom r ((s.room r).afterHigh (s.defrost r).state) with
        alarms := if (s.room r).highFlag = true ∧ (s.room r).filtered ≤ (s.room r).effectiveUpper - 8
          then s.alarms.return .roomHigh (.room r) else s.alarms
        attn := attn } := by
  by_cases h : (s.room r).highFlag = true ∧ (s.room r).filtered ≤ (s.room r).effectiveUpper - 8
  · rw [(evaluateHigh_eq r s).1 h, if_pos h]
    exact ⟨_, rfl⟩
  · rw [(evaluateHigh_eq r s).2 h, if_neg h]
    exact ⟨s.attn, rfl⟩

theorem evaluateLow_record (r : Fin 8) (s : State) : ∃ attn, evaluateLow r s
    = { s.setRoom r (s.room r).afterLow with
        alarms := if (s.room r).lowFlag = true ∧ (s.room r).lower + 8 ≤ (s.room r).filtered
          then s.alarms.return .roomLow (.room r) else s.alarms
        attn := attn } := by
  by_cases h : (s.room r).lowFlag = true ∧ (s.room r).lower + 8 ≤ (s.room r).filtered
  · rw [(evaluateLow_eq r s).1 h, if_pos h]
    exact ⟨_, rfl⟩
  · rw [(evaluateLow_eq r s).2 h, if_neg h]
    exact ⟨s.attn, rfl⟩

/-- A room's evaluation in RUN, once it has voted, as one update of the room and the table (R26 to R30). -/
theorem evaluateRoom_eq {r : Fin 8} {s : State} (hmode : s.mode = .run) (hvote : (s.room r).firstVote = true) :
    evaluateRoom r s
      = { s.setRoom r ((s.room r).afterHigh (s.defrost r).state).afterLow with
          alarms := s.evaluatedAlarms r, attn := (evaluateRoom r s).attn } := by
  obtain ⟨attn, hhigh⟩ := evaluateHigh_record r s
  obtain ⟨attn', hlow⟩ := evaluateLow_record r (evaluateHigh r s)
  have hroom : (evaluateHigh r s).room r = (s.room r).afterHigh (s.defrost r).state := by
    rw [hhigh]
    exact State.room_setRoom_self s r _
  have hall : evaluateRoom r s = { s.setRoom r ((s.room r).afterHigh (s.defrost r).state).afterLow with
      alarms := s.evaluatedAlarms r, attn := attn' } := by
    rw [evaluateRoom, if_pos ⟨hmode, hvote⟩, hlow, hroom, hhigh]
    simp only [State.setRoom, Vector.set_set]
    rfl
  rw [hall]

/-- A room that has not voted, and every room in SETUP, is not evaluated (R19, R26). -/
theorem evaluateRoom_idle {r : Fin 8} {s : State} (h : s.mode = .setup ∨ (s.room r).firstVote = false) :
    evaluateRoom r s = s := by
  refine if_neg fun ⟨hmode, hvote⟩ => ?_
  obtain h | h := h
  · rw [h] at hmode
    cases hmode
  · rw [h] at hvote
    cases hvote

theorem evaluateHigh_attentionKept (r : Fin 8) {s : State} (h : s.attentionKept) : (evaluateHigh r s).attentionKept := by
  by_cases hret : (s.room r).returnsHigh
  · rw [(evaluateHigh_eq r s).1 hret]
    rfl
  · rw [(evaluateHigh_eq r s).2 hret]
    exact h

theorem evaluateLow_attentionKept (r : Fin 8) {s : State} (h : s.attentionKept) : (evaluateLow r s).attentionKept := by
  by_cases hret : (s.room r).returnsLow
  · rw [(evaluateLow_eq r s).1 hret]
    rfl
  · rw [(evaluateLow_eq r s).2 hret]
    exact h

theorem evaluateRoom_attentionKept (r : Fin 8) {s : State} (h : s.attentionKept) : (evaluateRoom r s).attentionKept := by
  unfold evaluateRoom
  split
  · exact evaluateLow_attentionKept r (evaluateHigh_attentionKept r h)
  · exact h

/-! ### The recovery test (R85) -/

theorem resumeHigh_eq (r : Fin 8) (s : State) :
    resumeHigh r s = s.setRoom r
      { s.room r with
        highTimer :=
          if (s.room r).effectiveUpper < (s.room r).filtered ∧ (s.room r).highFlag = false ∧ (s.room r).firstVote = true
          then .start (s.room r).highDelay else .stopped } := by
  simp only [resumeHigh, State.modifyRoom, Bool.not_eq_true']

theorem testRecovery_eq (r : Fin 8) (s : State) :
    testRecovery r s
      = (if (s.defrost r).state = .recovery ∧ (s.room r).filtered ≤ (s.room r).effectiveUpper then
          (s.setDefrost r
            { s.defrost r with
              state := .idle, phaseTimer := .stopped, cycleCount := (s.defrost r).cycleCount + 1 }).setRoom r
            { s.room r with highTimer := .stopped }
        else s) := by
  unfold testRecovery
  split
  · next h =>
    have hlow : ¬ ((s.room r).effectiveUpper < (s.room r).filtered ∧ (s.room r).highFlag = false
        ∧ (s.room r).firstVote = true) := fun hhigh => absurd h.2 (not_le.mpr hhigh.1)
    rw [resumeHigh_eq]
    exact congrArg (fun timer => (s.setDefrost r (s.defrost r).recovered).setRoom r { s.room r with highTimer := timer })
      (if_neg hlow)
  · rfl

/-! ### The tests of the frost index (R69, R70, R90) -/

theorem DefrostState.coilWarm_eq_true (x : DefrostState) : x.coilWarm = true ↔ x = .heating ∨ x = .drip := by
  cases x <;> simp [DefrostState.coilWarm]

theorem DefrostState.coilWarm_eq_false (x : DefrostState) : x.coilWarm = false ↔ ¬ (x = .heating ∨ x = .drip) := by
  rw [← DefrostState.coilWarm_eq_true, Bool.not_eq_true]

theorem raiseFrostDue_eq (r : Fin 8) (s : State) :
    let raised := s.alarms.raise s.clock false .frostDue (.room r) none (detailNat (s.defrost r).frostIndex)
    raiseFrostDue r s = (s.setDefrost r
      { s.defrost r with dueFlag := true, dueUnposted := (s.defrost r).dueUnposted || !raised.2 }).setAlarms raised.1 := by
  intro raised
  rw [raiseFrostDue, raiseCondition_defrost]
  simp only [State.modifyDefrost, State.defrost_setDefrost_self, State.setDefrost_setDefrost, State.setDefrost_alarms,
    State.setDefrost_clock]
  cases raised.2 <;> simp [raised]

theorem raiseForced_eq (r : Fin 8) (s : State) :
    let raised := s.alarms.raise s.clock false .defrostForced (.room r) none (detailNat (s.defrost r).frostIndex)
    raiseForced r s = (s.setDefrost r
      { s.defrost r with forcedFlag := true, forcedUnposted := (s.defrost r).forcedUnposted || !raised.2 }).setAlarms
        raised.1 := by
  intro raised
  rw [raiseForced, raiseCondition_defrost]
  simp only [State.modifyDefrost, State.defrost_setDefrost_self, State.setDefrost_setDefrost, State.setDefrost_alarms,
    State.setDefrost_clock]
  cases raised.2 <;> simp [raised]

theorem testFrostDue_eq (r : Fin 8) (s : State) :
    let x := s.defrost r
    let due := s.alarms.raise s.clock false .frostDue (.room r) none (detailNat x.frostIndex)
    testFrostDue r s
      = (if ¬ (x.state = .heating ∨ x.state = .drip) ∧ x.threshold ≤ x.frostIndex ∧ x.dueFlag = false then
          (s.setDefrost r { x with dueFlag := true, dueUnposted := x.dueUnposted || !due.2 }).setAlarms due.1
        else s) := by
  intro x due
  rw [testFrostDue]
  simp only [Bool.not_eq_true', DefrostState.coilWarm_eq_false, raiseFrostDue_eq]
  rfl

theorem Defrost.becomesForced_eq_true (x : Defrost) : x.becomesForced = true
    ↔ ¬ (x.state = .heating ∨ x.state = .drip) ∧ x.hardLimit ≤ x.frostIndex ∧ x.forcedMark = false := by
  simp only [Defrost.becomesForced, Bool.and_eq_true, decide_eq_true_eq, Bool.not_eq_true', DefrostState.coilWarm_eq_false,
    and_assoc]

theorem testForced_eq (r : Fin 8) (s : State) :
    let x := s.defrost r
    let forced := s.alarms.raise s.clock false .defrostForced (.room r) none (detailNat x.frostIndex)
    testForced r s
      = (if ¬ (x.state = .heating ∨ x.state = .drip) ∧ x.hardLimit ≤ x.frostIndex ∧ x.forcedMark = false then
          (s.setDefrost r
            { x with
              forcedMark := true, forcedFlag := true, forcedUnposted := x.forcedUnposted || !forced.2 }).setAlarms forced.1
        else s) := by
  intro x forced
  rw [testForced]
  simp only [Defrost.becomesForced_eq_true, raiseForced_eq, State.modifyDefrost, State.defrost_setDefrost_self,
    State.setDefrost_setDefrost]
  rfl

/-! ### The requests (R24, R25, R67) -/

theorem Room.withEffective_eq (x : Room) :
    x.withEffective = { x with effectiveUpper := (x.ceiling.map (min x.upper)).getD x.upper } := by
  unfold Room.withEffective
  cases x.ceiling <;> rfl

theorem setRoomLimits_eq (r : Fin 8) (up lo hd ld k : Word16) (s : State) :
    let u : Temperature := max (-960) (min up.toInt 960)
    let l : Temperature := min (max (-960) (min lo.toInt 960)) u
    setRoomLimits (BitVec.ofNat 8 r) up lo hd ld k s
      = ⟨testRecovery r (evaluateRoom r (s.setRoom r
          { s.room r with
            upper := u, lower := l, highDelay := min hd.toNat 3600, lowDelay := min ld.toNat 3600
            weight := max 1 (min k.toNat 256)
            effectiveUpper := ((s.room r).ceiling.map (min u)).getD u })),
          if up.toInt < -960 ∨ 960 < up.toInt ∨ l ≠ lo.toInt ∨ 3600 < hd.toNat ∨ 3600 < ld.toNat ∨ k = 0 ∨ 256 < k.toNat
          then .clamped else .ok, []⟩ := by
  intro u l
  rw [setRoomLimits, onRoom_ofNat]
  refine (doneClamped_eq (P := up.toInt < -960 ∨ 960 < up.toInt ∨ l ≠ lo.toInt ∨ 3600 < hd.toNat ∨ 3600 < ld.toNat ∨ k = 0
    ∨ 256 < k.toNat) ?_ _).trans ?_
  · have hlow : min (clampTemp lo.toInt) (clampTemp up.toInt) = l := rfl
    simp only [Bool.or_eq_true, bne_iff_ne, hlow, forceNat_ne, show (1 : Nat) ≤ 256 by decide, Nat.zero_le, clampTemp_ne,
      word_eq_zero_iff, Nat.not_lt_zero, false_or, or_assoc]
  · rw [forceNat_zero, forceNat_zero]
    simp only [Room.withEffective_eq]
    rfl

theorem setProductCeiling_set_eq (r : Fin 8) (c : Word16) (s : State) :
    let ceiling : Temperature := max (-960) (min c.toInt 960)
    setProductCeiling (BitVec.ofNat 8 r) 1 c s
      = ⟨testRecovery r (evaluateRoom r (s.setRoom r
          { s.room r with ceiling := some ceiling, effectiveUpper := min (s.room r).upper ceiling })),
          if c.toInt < -960 ∨ 960 < c.toInt then .clamped else .ok, []⟩ := by
  intro ceiling
  rw [setProductCeiling, onRoom_ofNat]
  refine (doneClamped_eq (P := c.toInt < -960 ∨ 960 < c.toInt) ?_ _).trans rfl
  rw [bne_iff_ne, clampTemp_ne]

theorem setProductCeiling_clear_eq (r : Fin 8) (c : Word16) (s : State) :
    setProductCeiling (BitVec.ofNat 8 r) 0 c s
      = ⟨testRecovery r (evaluateRoom r (s.setRoom r
          { s.room r with ceiling := none, effectiveUpper := (s.room r).upper })), .ok, []⟩ := by
  rw [setProductCeiling, onRoom_ofNat]
  rfl

theorem setProductCeiling_refused {room present : Byte} (h : 8 ≤ room.toNat ∨ 2 ≤ present.toNat) (c : Word16) (s : State) :
    setProductCeiling room present c s = refuse .badArgument s := by
  unfold setProductCeiling onRoom
  split
  · next hr =>
    obtain h | h := h
    · rw [index?_of_le h] at hr; cases hr
    · rw [flag?_of_le h]
  · rfl

/-- The frost parameters stored (R67). -/
def State.frostStored (s : State) (r : Fin 8) (rate : Byte) (th hl : Word16) : State :=
  s.setDefrost r
    { s.defrost r with baseRate := rate.toNat, threshold := max 1 th.toNat, hardLimit := max hl.toNat (max 1 th.toNat) }

theorem setFrostParameters_eq (r : Fin 8) (rate : Byte) (th hl : Word16) (s : State) :
    let u := s.frostStored r rate th hl
    let tested := testForced r (testFrostDue r u)
    setFrostParameters (BitVec.ofNat 8 r) rate th hl s
      = ⟨if s.mode = .run then (if (u.defrost r).becomesForced = true then evaluateQueue tested else tested) else u,
          if th = 0 ∨ hl.toNat < max 1 th.toNat then .clamped else .ok, []⟩ := by
  intro u tested
  have hth : forceNat 1 65535 th.toNat = max 1 th.toNat := by have := th.isLt; unfold forceNat; omega
  have hhl : max (forceNat 1 65535 hl.toNat) (max 1 th.toNat) = max hl.toNat (max 1 th.toNat) := by
    have := hl.isLt
    unfold forceNat
    omega
  rw [setFrostParameters, onRoom_ofNat, hth]
  dsimp only
  rw [hhl]
  refine (doneClamped_eq (P := th = 0 ∨ hl.toNat < max 1 th.toNat) ?_ _).trans rfl
  simp only [Bool.or_eq_true, bne_iff_ne, word_eq_zero_iff]
  omega

/-- Settles O56: each request is taken in either mode and answered by the equation of its operation; what the evaluation and the
three tests do is the equation of each. -/
theorem limitChangesAreEvaluatedAtOnce : Obligations.LimitChangesAreEvaluatedAtOnce := by
  have taken : ∀ {p : Port} {s : State} {r : Request} {row : RequestRow} (tag : Byte), s.ready p →
      requestRow r.code = some row → (row.role = none ∨ row.role = some p) → row.setup = .taken → row.run = .taken →
      ∀ {a : Answer}, perform p r s = a → requestArrives p tag r s = serve p (r.frame tag) a := by
    intro p s r row tag hready hrow hrole hsetup hrun a ha
    rw [requestArrives_performs hready tag hrow hrole (s.takes_always p hsetup hrun), ha]
  refine ⟨fun tag r s => ⟨fun h up lo hd ld k => ?_, fun h c => ⟨?_, ?_⟩, fun h room rate up lo hd ld k th hl hroom => ⟨?_, ?_⟩,
    fun h room present c hbad => ?_, fun h rate th hl => ?_⟩, fun r s => ⟨evaluateRoom_idle, fun hmode hvote =>
    ⟨evaluateRoom_attentionKept r, evaluateRoom_eq hmode hvote⟩, testRecovery_eq r s, fun _ =>
    ⟨testFrostDue_eq r s, testForced_eq r s⟩⟩⟩
  · exact congrArg _ (taken (r := .setRoomLimits _ up lo hd ld k) tag h rfl (.inr rfl) rfl rfl
      (setRoomLimits_eq r up lo hd ld k s))
  · exact congrArg _ (taken (r := .setProductCeiling _ 1 c) tag h rfl (.inr rfl) rfl rfl (setProductCeiling_set_eq r c s))
  · exact congrArg _ (taken (r := .setProductCeiling _ 0 c) tag h rfl (.inr rfl) rfl rfl (setProductCeiling_clear_eq r c s))
  · exact congrArg _ (taken (r := .setRoomLimits room up lo hd ld k) tag h rfl (.inr rfl) rfl rfl (onRoom_of_le hroom s _))
  · exact congrArg _ (taken (r := .setFrostParameters room rate th hl) tag h rfl (.inr rfl) rfl rfl (onRoom_of_le hroom s _))
  · exact congrArg _ (taken (r := .setProductCeiling room present c) tag h rfl (.inr rfl) rfl rfl
      (setProductCeiling_refused hbad c s))
  · refine ⟨_, congrArg _ (taken (r := .setFrostParameters _ rate th hl) tag h rfl (.inr rfl) rfl rfl
      (setFrostParameters_eq r rate th hl s)), fun hmode => ?_, fun hmode => ⟨?_, ?_⟩⟩
    · exact if_neg (by rw [hmode]; decide)
    · exact if_pos hmode
    · rw [State.defrost_setDefrost_self, Defrost.becomesForced_eq_true, not_or, and_assoc]

end Sys2Proof.Machine
end

section
/-! PROOFS. The expiries of the Defrost Unit (R74, R80, R81, R84, R86) and the held permits given (R52). -/

namespace Sys2Proof.Machine

set_option Elab.async false

/-! ### A turn for each door -/

/-- The fields a turn of the Door Unit can change. -/
def doorFields : List Field := [.doors, .alarms, .attn]

/-- In every state that differs from `s` in doors and table alone, a door's turn leaves the other doors, and gives its door's
record and the table the values `x` and `a` make of the two before. -/
def DoorTurn (f : Fin 24 → State → State) (x : Fin 24 → Door → AlarmTable → Door)
    (a : Fin 24 → Door → AlarmTable → AlarmTable) (s : State) : Prop :=
  ∀ d t, s.frame doorFields t → (f d t).door d = x d (t.door d) t.alarms ∧ (f d t).alarms = a d (t.door d) t.alarms
    ∧ (∀ e, e ≠ d → (f d t).door e = t.door e) ∧ t.frame doorFields (f d t)

/-- The table after the turns of some doors, from the records the doors had before all of them. -/
def alarmsAfter (a : Fin 24 → Door → AlarmTable → AlarmTable) (t : State) (l : List (Fin 24)) : AlarmTable :=
  l.foldl (fun b d => a d (t.door d) b) t.alarms

theorem DoorTurn.foldl {f : Fin 24 → State → State} {x : Fin 24 → Door → AlarmTable → Door}
    {a : Fin 24 → Door → AlarmTable → AlarmTable} {s : State} (h : DoorTurn f x a s) {l : List (Fin 24)} (hl : l.Nodup)
    {t : State} (ht : s.frame doorFields t) :
    let u := l.foldl (fun s d => f d s) t
    s.frame doorFields u ∧ u.alarms = alarmsAfter a t l ∧ (∀ d, d ∉ l → u.door d = t.door d)
      ∧ ∀ l1 d l2, l = l1 ++ d :: l2 → u.door d = x d (t.door d) (alarmsAfter a t l1) := by
  induction l generalizing t with
  | nil => exact ⟨ht, rfl, fun _ _ => rfl, fun l1 d l2 hsplit => by simp at hsplit⟩
  | cons e l ih =>
    obtain ⟨he, hl⟩ := List.nodup_cons.mp hl
    obtain ⟨hown, halarms, hother, hframe⟩ := h e t ht
    obtain ⟨hu, hual, hrest, hdoor⟩ := ih hl (State.frame_trans ht hframe)
    have hafter : ∀ k : List (Fin 24), e ∉ k → alarmsAfter a (f e t) k = alarmsAfter a t (e :: k) := by
      intro k hk
      refine (List.foldl_ext _ _ _ fun b d hd => ?_).trans (congrArg (k.foldl _) halarms)
      rw [hother d (fun hde => hk (hde ▸ hd))]
    refine ⟨hu, hual.trans (hafter l he), fun d hd => ?_, fun l1 d l2 hsplit => ?_⟩
    · obtain ⟨hne, hd⟩ := not_or.mp fun hor => hd (List.mem_cons.mpr hor)
      rw [List.foldl_cons, hrest d hd, hother d hne]
    · obtain ⟨rfl, hcons⟩ | ⟨k, rfl, rfl⟩ := List.cons_eq_append_iff.mp hsplit
      · obtain ⟨rfl, rfl⟩ := List.cons.inj hcons
        rw [List.foldl_cons, hrest d he, hown]
        rfl
      · have hek : e ∉ k := fun hmem => he (List.mem_append_left _ hmem)
        have hde : d ≠ e := fun hde => he (hde ▸ List.mem_append_right _ List.mem_cons_self)
        rw [List.foldl_cons, hdoor k d l2 rfl, hother d hde, hafter k hek]

/-- The indices before one, in ascending order, and those after it. -/
theorem finRange_split {n : Nat} (d : Fin n) :
    ∃ l, List.finRange n = (List.finRange n).filter (fun i => decide (i < d)) ++ d :: l := by
  obtain ⟨l1, l2, hl⟩ := List.append_of_mem (List.mem_finRange d)
  have hlt := List.pairwise_lt_finRange n
  rw [hl, List.pairwise_append, List.pairwise_cons] at hlt
  obtain ⟨-, ⟨hafter, -⟩, hbefore⟩ := hlt
  have h1 : l1.filter (fun i => decide (i < d)) = l1 :=
    List.filter_eq_self.mpr fun i hi => decide_eq_true (hbefore i hi d List.mem_cons_self)
  have h2 : (d :: l2).filter (fun i => decide (i < d)) = [] := by
    refine List.filter_eq_nil_iff.mpr fun i hi => ?_
    obtain rfl | hi := List.mem_cons.mp hi
    · simp
    · simpa using le_of_lt (hafter i hi)
  refine ⟨l2, ?_⟩
  rw [hl, List.filter_append, h1, h2, List.append_nil]

/-- What a turn for each door, in ascending order, does to doors and table. -/
theorem DoorTurn.all {f : Fin 24 → State → State} {x : Fin 24 → Door → AlarmTable → Door}
    {a : Fin 24 → Door → AlarmTable → AlarmTable} {s : State} (h : DoorTurn f x a s) :
    s.frame doorFields (forEach 24 f s) ∧ (forEach 24 f s).alarms = alarmsAfter a s (List.finRange 24)
      ∧ ∀ d, (forEach 24 f s).door d
        = x d (s.door d) (alarmsAfter a s ((List.finRange 24).filter fun i => decide (i < d))) := by
  obtain ⟨hframe, halarms, -, hdoor⟩ := h.foldl (List.nodup_finRange 24) (State.frame_refl _ s)
  refine ⟨hframe, halarms, fun d => ?_⟩
  obtain ⟨l, hl⟩ := finRange_split d
  exact hdoor _ d l hl

/-! ### The held permits given (R52) -/

/-- A permit is held at an enabled door of the room (R51, R52). -/
def Door.holdsFor (r : Fin 8) (x : Door) : Bool := decide (x.enabled = true ∧ x.dockRoom = r ∧ x.permit = .pending)

/-- The table after one held permit's notice (R52). -/
def permitNotice (now : Word32) (a : AlarmTable) (d : Fin 24) : AlarmTable :=
  (a.raise now false .openPermitReleased (.door d) none none).1

theorem givePermit_eq (r : Fin 8) (d : Fin 24) (s : State) :
    givePermit r d s = if (s.door d).holdsFor r = true
      then (s.setDoor d { s.door d with permit := .given }).setAlarms (permitNotice s.clock s.alarms d) else s := by
  simp only [givePermit, Door.holdsFor, decide_eq_true_eq]
  rfl

theorem givePermit_turn (r : Fin 8) (s : State) : DoorTurn (givePermit r)
    (fun _ y _ => if y.holdsFor r = true then Door.driven { y with permit := .given } s.lines else y)
    (fun d y a => if y.holdsFor r = true then permitNotice s.clock a d else a) s := by
  intro d t ht
  have hframe : t.frame doorFields (givePermit r d t) := givePermit_frame r d t
  have hclock := State.frame_clock ht (by decide)
  have hlines := State.frame_lines ht (by decide)
  rw [givePermit_eq] at hframe ⊢
  by_cases h : (t.door d).holdsFor r = true
  · simp only [if_pos h] at hframe ⊢
    refine ⟨?_, ?_, fun e he => ?_, hframe⟩
    · rw [State.setAlarms_door, State.door_setDoor_self, hlines]
    · rw [State.setAlarms_alarms, hclock]
    · rw [State.setAlarms_door, State.door_setDoor_ne _ _ he]
  · simpa only [if_neg h, implies_true, true_and] using hframe

/-- The doors at which a permit is held for a room. -/
def State.heldDoors (s : State) (r : Fin 8) : List (Fin 24) := (List.finRange 24).filter fun d => (s.door d).holdsFor r

/-- The held permits given: each door of the room that holds one, and its notice, in ascending door order (R52). -/
theorem givePermits_eq (r : Fin 8) (s : State) :
    let t := givePermits r s
    (∀ d, t.door d = if d ∈ s.heldDoors r then Door.driven { s.door d with permit := .given } s.lines else s.door d)
      ∧ t.alarms = (s.heldDoors r).foldl (permitNotice s.clock) s.alarms
      ∧ t = { s with doors := t.doors, alarms := t.alarms, attn := t.attn } := by
  obtain ⟨hframe, halarms, hdoor⟩ := (givePermit_turn r s).all
  refine ⟨fun d => ?_, halarms.trans (List.foldl_filter ..).symm, State.eq_merge hframe⟩
  simp only [State.heldDoors, List.mem_filter, List.mem_finRange, true_and]
  exact hdoor d

theorem givePermits_attentionKept (r : Fin 8) {s : State} (h : s.attentionKept) : (givePermits r s).attentionKept := by
  refine forEach_induct (P := State.attentionKept) (fun d t ht => ?_) h
  rw [givePermit_eq]
  split
  · rfl
  · exact ht

/-- PR comes on with a permit given: a door that holds a permit is SEALED (R46, R52). -/
theorem givePermits_pr (r : Fin 8) {s : State} (h : s.doorsKept) {d : Fin 24} (hd : d ∈ s.heldDoors r) :
    ((givePermits r s).door d).pr = true := by
  obtain ⟨-, -, hpending⟩ := of_decide_eq_true (List.mem_filter.mp hd).2
  obtain ⟨⟨hsealed, -⟩, -⟩ := h d
  have hstate : (s.door d).state = .sealed := hsealed (by rw [hpending]; decide)
  rw [(givePermits_eq r s).1 d, if_pos hd]
  simp [Door.driven, hstate]

/-! ### The expiries (R74, R80, R81, R84, R86) -/

theorem expireGrantHold_of_due {r : Fin 8} {s : State} (hstate : (s.defrost r).state = .granted)
    (hdue : (s.defrost r).phaseTimer = .running 0) :
    expireGrantHold r s = evaluateQueue (givePermits r
      (({ s with remainingCapacity := s.remainingCapacity + (s.defrost r).heaterLoad }.setDefrost r
        { s.defrost r with state := .idle, phaseTimer := .stopped, forcedCycle := false }).setAlarms
          (s.alarms.raise s.clock false .grantLapsed (.room r) none none).1)) := by
  rw [expireGrantHold_eq, if_pos ⟨hstate, (Timer.due_iff _).mpr hdue⟩, lapsed, State.post_eq, State.returnLoad,
    State.defrost_setDefrost_self]
  rfl

theorem raiseOverrun_eq (r : Fin 8) (s : State) :
    let raised := s.alarms.raise s.clock false .defrostOverrun (.room r) none none
    raiseOverrun r s = (s.setDefrost r
      { s.defrost r with overrunFlag := true, overrunUnposted := (s.defrost r).overrunUnposted || !raised.2 }).setAlarms
        raised.1 := by
  intro raised
  rw [raiseOverrun, raiseCondition_defrost]
  simp only [State.modifyDefrost, State.defrost_setDefrost_self, State.setDefrost_setDefrost, State.setDefrost_alarms,
    State.setDefrost_clock]
  cases raised.2 <;> simp [raised]

theorem expireHeating_of_due {r : Fin 8} {s : State} (hstate : (s.defrost r).state = .heating)
    (hdue : (s.defrost r).phaseTimer = .running 0) :
    let raised := s.alarms.raise s.clock false .defrostOverrun (.room r) none none
    expireHeating r s = (s.setDefrost r
      { s.defrost r with
        phaseTimer := .stopped, overrunFlag := true
        overrunUnposted := (s.defrost r).overrunUnposted || !raised.2 }).setAlarms raised.1 := by
  intro raised
  refine (if_pos ⟨hstate, (Timer.due_iff _).mpr hdue⟩).trans ?_
  rw [raiseOverrun_eq, State.defrost_setDefrost_self, State.setDefrost_setDefrost]
  rfl

theorem expireDrip_of_due {r : Fin 8} {s : State} (hstate : (s.defrost r).state = .drip)
    (hdue : (s.defrost r).phaseTimer = .running 0) :
    expireDrip r s = givePermits r (s.setDefrost r
      { s.defrost r with
        state := .recovery, forcedCycle := false, phaseTimer := .start (s.defrost r).recoveryLimit }) :=
  if_pos ⟨hstate, (Timer.due_iff _).mpr hdue⟩

theorem expireRecovery_of_due {r : Fin 8} {s : State} (hstate : (s.defrost r).state = .recovery)
    (hdue : (s.defrost r).phaseTimer = .running 0) :
    expireRecovery r s = ((s.setDefrost r
      { s.defrost r with
        state := .idle, phaseTimer := .stopped, cycleCount := (s.defrost r).cycleCount + 1 }).setAlarms
          (s.alarms.raise s.clock false .recoveryLate (.room r) none
            (some (BitVec.ofInt 16 (s.room r).filtered))).1).setRoom r
      { s.room r with
        highTimer :=
          if (s.room r).effectiveUpper < (s.room r).filtered ∧ (s.room r).highFlag = false ∧ (s.room r).firstVote = true
          then .start (s.room r).highDelay else .stopped } := by
  refine (if_pos ⟨hstate, (Timer.due_iff _).mpr hdue⟩).trans ?_
  rw [resumeHigh_eq, State.post_eq]
  rfl

/-- Settles O42: each expiry where it is due is the branch of its operation that takes it, and the permits are given door by
door. -/
theorem defrostTimerExpiries : Obligations.DefrostTimerExpiries := by
  intro r s
  refine ⟨fun h hdue => ?_, fun h hdue => ?_, fun h hdue => ?_, fun h hdue => ?_, fun hdue => ?_, ?_⟩
  · exact congrArg Host.Outcome.next (expireGrantHold_of_due h hdue)
  · exact congrArg Host.Outcome.next (expireHeating_of_due h hdue)
  · exact congrArg Host.Outcome.next (expireDrip_of_due h hdue)
  · exact congrArg Host.Outcome.next (expireRecovery_of_due h hdue)
  · exact congrArg Host.Outcome.next (if_pos hdue)
  · obtain ⟨hdoor, halarms, hframe⟩ := givePermits_eq r s
    exact ⟨hdoor, fun h d hd => givePermits_pr r h hd, halarms, givePermits_attentionKept r, hframe⟩

end Sys2Proof.Machine
end

section
/-! PROOFS. Snapshots latched and read in parts (R34, R35), and READ DOOR (R40, R62, R63). -/

namespace Sys2Proof.Machine

set_option Elab.async false

/-! ### Snapshots (R34, R35) -/

theorem latchRooms_fresh {p : Port} {s : State}
    (h : (s.port p).snapshot = none ∨ ∃ x, (s.port p).snapshot = some x ∧ x.readLow = true ∧ x.readHigh = true) :
    latchRooms p s = ⟨s.setPort p { s.port p with snapshot := some s.takeSnapshot }, .ok, []⟩ := by
  obtain h | ⟨x, h, hlow, hhigh⟩ := h
  · simp only [latchRooms, h]
    rfl
  · have hread : x.isRead = true := by simp [Snapshot.isRead, hlow, hhigh]
    simp only [latchRooms, h, hread, if_true]
    rfl

theorem latchRooms_kept {p : Port} {s : State} {x : Snapshot} (h : (s.port p).snapshot = some x)
    (hunread : x.readLow = false ∨ x.readHigh = false) : latchRooms p s = refuse .kept s := by
  have hread : ¬ x.isRead = true := by
    rw [Snapshot.isRead, Bool.and_eq_true]
    rintro ⟨hlow, hhigh⟩
    simp [hlow, hhigh] at hunread
  simp only [latchRooms, h, if_neg hread]

theorem State.takeSnapshot_rooms (s : State) (r : Fin 8) : s.takeSnapshot.rooms[r] = s.snapshotEntry r := by
  fin_cases r <;> rfl

/-- A vector of eight as a list. -/
theorem toList_eight {α : Type} (v : Vector α 8) : v.toList = [v[0], v[1], v[2], v[3], v[4], v[5], v[6], v[7]] := by
  refine List.ext_getElem (by simp) fun i hi _ => ?_
  have hi : i < 8 := by simpa using hi
  interval_cases i <;> rfl

theorem Snapshot.partBytes_low (x : Snapshot) :
    x.partBytes false = x.rooms[0].bytes ++ x.rooms[1].bytes ++ x.rooms[2].bytes ++ x.rooms[3].bytes := by
  simp only [Snapshot.partBytes, toList_eight]
  simp

theorem Snapshot.partBytes_high (x : Snapshot) :
    x.partBytes true = x.rooms[4].bytes ++ x.rooms[5].bytes ++ x.rooms[6].bytes ++ x.rooms[7].bytes := by
  simp only [Snapshot.partBytes, toList_eight]
  simp

theorem readRoomSnapshot_low {p : Port} {s : State} {x : Snapshot} (h : (s.port p).snapshot = some x) :
    readRoomSnapshot p 0 s = ⟨s.setPort p { s.port p with snapshot := some { x with readLow := true } }, .ok,
      value8 0 ++ value8 (if x.readHigh = true then 2 else 1) ++ bytes32 x.clock ++ x.rooms[0].bytes ++ x.rooms[1].bytes
        ++ x.rooms[2].bytes ++ x.rooms[3].bytes⟩ := by
  have hflag : flag? 0 = some false := rfl
  have hbytes := Snapshot.partBytes_low { x with readLow := true }
  simp only [readRoomSnapshot, hflag, h, Bool.false_eq_true, if_false, hbytes, Snapshot.isRead, Bool.true_and,
    List.append_assoc]
  rfl

theorem readRoomSnapshot_high {p : Port} {s : State} {x : Snapshot} (h : (s.port p).snapshot = some x) :
    readRoomSnapshot p 1 s = ⟨s.setPort p { s.port p with snapshot := some { x with readHigh := true } }, .ok,
      value8 1 ++ value8 (if x.readLow = true then 2 else 1) ++ bytes32 x.clock ++ x.rooms[4].bytes ++ x.rooms[5].bytes
        ++ x.rooms[6].bytes ++ x.rooms[7].bytes⟩ := by
  have hflag : flag? 1 = some true := rfl
  have hbytes := Snapshot.partBytes_high { x with readHigh := true }
  simp only [readRoomSnapshot, hflag, h, if_true, hbytes, Snapshot.isRead, Bool.and_true, List.append_assoc]
  rfl

theorem readRoomSnapshot_refused {part : Byte} (h : 2 ≤ part.toNat) (p : Port) (s : State) :
    readRoomSnapshot p part s = refuse .badArgument s := by
  simp only [readRoomSnapshot, flag?_of_le h]

theorem flag?_isSome {b : Byte} (h : b.toNat < 2) : ∃ v, flag? b = some v := by
  by_cases h0 : b = 0
  · exact ⟨false, if_pos h0⟩
  · have h1 : b = 1 := by
      rw [← BitVec.toNat_inj] at h0 ⊢
      simp at h0 ⊢
      omega
    exact ⟨true, by subst h1; rfl⟩

theorem readRoomSnapshot_none {p : Port} {s : State} (h : (s.port p).snapshot = none) {part : Byte} (hpart : part.toNat < 2) :
    readRoomSnapshot p part s = refuse .none s := by
  obtain ⟨v, hv⟩ := flag?_isSome hpart
  simp only [readRoomSnapshot, hv, h]

/-! ### READ DOOR (R40, R62, R63) -/

theorem valueTimer_eq (t : Timer) : valueTimer t = match t with
    | .stopped => [0, 0, 0]
    | .running n => [1] ++ value16 n := by
  cases t <;> rfl

theorem valueOptional_temp (x : Option Temperature) : valueOptional 2 (x.map valueTemp) = match x with
    | some temp => [1] ++ valueTemp temp
    | none => [0, 0, 0] := by
  cases x <;> rfl

/-- The penalty of a door's state, as R62 gives it. -/
theorem Door.penalty_eq (x : Door) :
    x.penalty = if x.state = .working then x.workPenalty else if x.state = .breach then x.breachPenalty else 0 := by
  unfold Door.penalty
  cases x.state <;> rfl

/-- The values of READ DOOR, as R63 lists them. -/
theorem doorValues_eq (d : Fin 24) (s : State) : doorValues d s =
    let x := s.door d
    let timer := fun (t : Timer) => match t with
      | .stopped => [0, 0, 0]
      | .running n => [1] ++ value16 n
    valueFlag x.enabled ++ value8 x.dockRoom ++ value8 x.state.place ++ value8 x.permit.place
      ++ valueFlag x.override ++ valueFlag x.closeMark ++ value8 x.faultCause.place
      ++ valueFlag x.tp.level ++ valueFlag x.pc.level ++ valueFlag x.sm.level ++ valueFlag x.sb ++ valueFlag x.pr
      ++ valueFlag x.tp.becameActive ++ valueFlag x.tp.becameInactive ++ valueFlag x.pc.becameActive
      ++ valueFlag x.pc.becameInactive ++ valueFlag x.sm.becameActive ++ valueFlag x.sm.becameInactive
      ++ timer x.sealTimer ++ timer x.breachTimer ++ timer x.releaseTimer
      ++ (match x.trailerTemp with
        | some temp => [1] ++ valueTemp temp
        | none => [0, 0, 0])
      ++ valueTemp (max (-960) (min ((s.room x.dockRoom).filtered
        + if x.state = .working then x.workPenalty else if x.state = .breach then x.breachPenalty else 0) 960))
      ++ valueFlag x.breachFlag ++ valueFlag x.faultFlag := by
  have hlane : s.laneTemp d = max (-960) (min ((s.room (s.door d).dockRoom).filtered
      + if (s.door d).state = .working then (s.door d).workPenalty
        else if (s.door d).state = .breach then (s.door d).breachPenalty else 0) 960) := by
    rw [State.laneTemp, Door.penalty_eq, clampTemp_eq]
  unfold doorValues
  rw [hlane]
  dsimp only
  rw [valueOptional_temp, valueTimer_eq, valueTimer_eq, valueTimer_eq]

theorem readDoor_eq (d : Fin 24) (s : State) : readDoor (BitVec.ofNat 8 d) s
    = ⟨s.setDoor d
        { s.door d with
          tp := { (s.door d).tp with becameActive := false, becameInactive := false }
          pc := { (s.door d).pc with becameActive := false, becameInactive := false }
          sm := { (s.door d).sm with becameActive := false, becameInactive := false } }, .ok, doorValues d s⟩ := by
  rw [readDoor, onDoor_ofNat]
  rfl

/-- Settles O49: each request is taken in either mode; the latch and the parts by whether a snapshot is held and read, READ DOOR by
the values of its record. -/
theorem latchesAndClearingReads : Obligations.LatchesAndClearingReads := by
  intro p tag s hready
  have taken : ∀ {r : Request} {row : RequestRow}, requestRow r.code = some row → row.role = none →
      row.setup = .taken → row.run = .taken →
      ∀ {a : Answer}, perform p r s = a → requestArrives p tag r s = serve p (r.frame tag) a := by
    intro r row hrow hrole hsetup hrun a ha
    rw [requestArrives_performs hready tag hrow (.inl hrole) (s.takes_always p hsetup hrun), ha]
  have hrooms : ∀ r : Fin 8, s.takeSnapshot.rooms[r] = ⟨(s.room r).filtered, (s.room r).reading, (s.room r).validCount,
      (s.room r).effectiveUpper, (s.defrost r).state⟩ := s.takeSnapshot_rooms
  refine ⟨fun h => ?_, rfl, rfl, rfl, hrooms, fun x h hunread => ?_, fun x h => ⟨?_, ?_⟩, fun part h => ?_,
    fun h part hpart => ?_, fun d => ?_, fun door h => ?_⟩
  · exact congrArg _ (taken (r := .latchRooms) rfl rfl rfl rfl (latchRooms_fresh h))
  · exact congrArg _ (taken (r := .latchRooms) rfl rfl rfl rfl (latchRooms_kept h hunread))
  · exact congrArg _ (taken (r := .readRoomSnapshot 0) rfl rfl rfl rfl (readRoomSnapshot_low h))
  · exact congrArg _ (taken (r := .readRoomSnapshot 1) rfl rfl rfl rfl (readRoomSnapshot_high h))
  · exact congrArg _ (taken (r := .readRoomSnapshot part) rfl rfl rfl rfl (readRoomSnapshot_refused h p s))
  · exact congrArg _ (taken (r := .readRoomSnapshot part) rfl rfl rfl rfl (readRoomSnapshot_none h hpart))
  · have h := readDoor_eq d s
    rw [doorValues_eq] at h
    exact congrArg _ (taken (r := .readDoor _) rfl rfl rfl rfl h)
  · exact congrArg _ (taken (r := .readDoor door) rfl rfl rfl rfl (onDoor_of_le h s _))

end Sys2Proof.Machine
end

section
/-! PROOFS. What raises and returns leave of another pair's entries, and what a return does to its own (R144 to R148). -/

namespace Sys2Proof.Machine

set_option Elab.async false

/-! ### Returns (R146, R147) -/

/-- The freeing test of an entry other than entry 0 frees it or leaves it as it is (R147). -/
theorem AlarmTable.testFree_own (t : AlarmTable) {i : Fin 48} (hi : i ≠ 0) :
    (t.testFree i).entries[i] = none ∨ (t.testFree i).entries[i] = t.entries[i] := by
  unfold AlarmTable.testFree
  split
  · split
    · left
      simp only [(t.free i).returnTableFull_entries.1 i hi, AlarmTable.free_entries, if_true]
    · exact .inr rfl
  · exact .inr rfl

/-- The table with an entry's condition RETURNED (R146). -/
def AlarmTable.markReturned (t : AlarmTable) (i : Fin 48) (e : AlarmEntry) : AlarmTable :=
  { t with entries := t.entries.set i (some { e with condition := .returned }) }

theorem AlarmTable.markReturned_entries (t : AlarmTable) (i j : Fin 48) (e : AlarmEntry) :
    (t.markReturned i e).entries[j] = if i = j then some { e with condition := .returned } else t.entries[j] :=
  getElem_set_fin _ i j _

/-- A return finds the active entry of its pair, or changes nothing: the pair's entry that it finds is RETURNED, or there is none. -/
theorem AlarmTable.return_cases (t : AlarmTable) (code : AlarmCode) (subject : Subject) :
    (∃ (i : Fin 48) (e : AlarmEntry), t.entries[i] = some e ∧ e.code = code ∧ e.subject = subject
      ∧ t.return code subject = (t.markReturned i e).testFree i)
    ∨ t.return code subject = t
      ∧ ((∀ (i : Fin 48) (e : AlarmEntry), t.entries[i] = some e → e.code = code → e.subject ≠ subject)
        ∨ ∃ (i : Fin 48) (e : AlarmEntry), t.entries[i] = some e ∧ e.code = code ∧ e.subject = subject
          ∧ e.condition = .returned) := by
  unfold AlarmTable.return
  split
  · next hfind => exact .inr ⟨rfl, .inl (AlarmTable.find_eq_none.mp hfind)⟩
  · next i hfind =>
    obtain ⟨e, he, hcode, hsubject⟩ := AlarmTable.find_eq_some hfind
    rw [he]
    dsimp only
    split
    · exact .inl ⟨i, e, he, hcode, hsubject, rfl⟩
    · next hactive =>
      refine .inr ⟨rfl, .inr ⟨i, e, he, hcode, hsubject, ?_⟩⟩
      cases hc : e.condition
      · simp [hc] at hactive
      · rfl

/-! ### Another pair's entries -/

/-- Between two tables whose entry 0 is TABLE_FULL's alone, the entries of a pair are the same. -/
def AlarmTable.beside (code : AlarmCode) (subject : Subject) (t u : AlarmTable) : Prop :=
  t.zeroKept → u.zeroKept ∧ ∀ (i : Fin 48) (e : AlarmEntry), e.code = code → e.subject = subject →
    (u.entries[i] = some e ↔ t.entries[i] = some e)

section
variable {code code' : AlarmCode} {subject subject' : Subject}

theorem AlarmTable.beside_refl (t : AlarmTable) : AlarmTable.beside code subject t t :=
  fun h => ⟨h, fun _ _ _ _ => Iff.rfl⟩

theorem AlarmTable.beside_trans {t u v : AlarmTable} (h : AlarmTable.beside code subject t u)
    (k : AlarmTable.beside code subject u v) : AlarmTable.beside code subject t v := by
  intro hz
  obtain ⟨hu, hentries⟩ := h hz
  obtain ⟨hv, hentries'⟩ := k hu
  exact ⟨hv, fun i e hc hs => (hentries' i e hc hs).trans (hentries i e hc hs)⟩

/-- A table changed at entry 0 and at one entry that is not of the pair, before and after. -/
theorem AlarmTable.beside_of_entry (hfull : code ≠ .tableFull) {t u : AlarmTable} (hu : u.zeroKept) (i : Fin 48)
    (hother : ∀ j : Fin 48, j ≠ 0 → j ≠ i → u.entries[j] = t.entries[j])
    (hbefore : ∀ e, t.entries[i] = some e → e.code = code → e.subject ≠ subject)
    (hafter : ∀ e, u.entries[i] = some e → e.code = code → e.subject ≠ subject) : AlarmTable.beside code subject t u := by
  refine fun hz => ⟨hu, fun j e hc hs => ?_⟩
  by_cases hj : j = 0
  · subst hj
    exact ⟨fun h => absurd (hc ▸ hu e h) hfull, fun h => absurd (hc ▸ hz e h) hfull⟩
  · by_cases hji : j = i
    · subst hji
      exact ⟨fun h => absurd hs (hafter e h hc), fun h => absurd hs (hbefore e h hc)⟩
    · rw [hother j hj hji]

theorem AlarmTable.raise_beside (hfull : code ≠ .tableFull) (hpair : code' = code → subject' ≠ subject) (t : AlarmTable)
    (now : Word32) (tag : Option Word32) (detail : Option Word16) :
    AlarmTable.beside code subject t (t.raise now false code' subject' tag detail).1 := by
  intro hz
  have hu := AlarmTable.raise_zeroKept hz now false code' subject' tag detail
  obtain ⟨i, e, he, rfl, rfl, hr⟩ | ⟨i, hi, he, -, hr⟩ | ⟨-, -, hr⟩ := t.raise_cases now false code' subject' tag detail
  · rw [hr] at hu ⊢
    refine AlarmTable.beside_of_entry hfull hu i (fun j _ hj => ?_) (fun f hf => ?_) (fun f hf => ?_) hz
    · rw [AlarmTable.reraise_entries, if_neg (Ne.symm hj)]
    · rw [he] at hf
      cases hf
      exact hpair
    · rw [AlarmTable.reraise_entries, if_pos rfl] at hf
      cases hf
      exact hpair
  · rw [hr] at hu ⊢
    have hnew : ∀ f, (t.occupy now i code' subject' tag detail).entries[i] = some f → f.code = code → f.subject ≠ subject := by
      intro f hf
      rw [AlarmTable.occupy_entries, if_pos rfl] at hf
      cases hf
      exact hpair
    have hrest : ∀ j : Fin 48, j ≠ i → (t.occupy now i code' subject' tag detail).entries[j] = t.entries[j] :=
      fun j hj => by rw [AlarmTable.occupy_entries, if_neg (Ne.symm hj)]
    have hempty : ∀ f, t.entries[i] = some f → f.code = code → f.subject ≠ subject := fun f hf => by rw [he] at hf; cases hf
    cases hn : code'.isNotice <;> simp only [hn] at hu ⊢
    · exact AlarmTable.beside_of_entry hfull hu i (fun j _ hj => hrest j hj) hempty hnew hz
    · refine AlarmTable.beside_of_entry hfull hu i (fun j hj0 hj => ?_) hempty (fun f hf => ?_) hz
      · exact ((AlarmTable.testFree_entries _ hi).1 j hj0 hj).trans (hrest j hj)
      · obtain hnone | hsame := (t.occupy now i code' subject' tag detail).testFree_own hi
        · exact absurd (hf.symm.trans hnone) nofun
        · exact hnew f (hsame.symm.trans hf)
  · rw [hr] at hu ⊢
    have hzero : ∀ {v : AlarmTable}, v.zeroKept → ∀ f, v.entries[(0 : Fin 48)] = some f → f.code = code → f.subject ≠ subject :=
      fun hv f hf hc => absurd (hc.symm.trans (hv f hf)) hfull
    exact AlarmTable.beside_of_entry hfull hu 0 (fun j hj _ => (t.raiseTableFull_entries now).1 j hj) (hzero hz) (hzero hu) hz

theorem AlarmTable.return_zeroKept {t : AlarmTable} (h : t.zeroKept) (hfull : code ≠ .tableFull) (subject : Subject) :
    (t.return code subject).zeroKept := by
  obtain ⟨i, e, he, hc, -, hr⟩ | ⟨hr, -⟩ := t.return_cases code subject
  · have hi : i ≠ 0 := fun h0 => hfull (hc ▸ h e (h0 ▸ he))
    intro f hf
    rw [hr] at hf
    obtain ⟨e0, he0, hcode, -⟩ := ((t.markReturned i e).testFree_entries hi).2 f hf
    rw [AlarmTable.markReturned_entries, if_neg hi] at he0
    exact hcode.trans (h e0 he0)
  · rwa [hr]

theorem AlarmTable.return_beside (hfull : code ≠ .tableFull) (hfull' : code' ≠ .tableFull)
    (hpair : code' = code → subject' ≠ subject) (t : AlarmTable) :
    AlarmTable.beside code subject t (t.return code' subject') := by
  intro hz
  have hu := AlarmTable.return_zeroKept hz hfull' subject'
  obtain ⟨i, e, he, rfl, rfl, hr⟩ | ⟨hr, -⟩ := t.return_cases code' subject'
  · rw [hr] at hu ⊢
    have hi : i ≠ 0 := fun h0 => hfull' (hz e (h0 ▸ he))
    refine AlarmTable.beside_of_entry hfull hu i (fun j hj0 hj => ?_) (fun f hf => ?_) (fun f hf => ?_) hz
    · rw [(AlarmTable.testFree_entries _ hi).1 j hj0 hj, AlarmTable.markReturned_entries, if_neg (Ne.symm hj)]
    · rw [he] at hf
      cases hf
      exact hpair
    · obtain hnone | hsame := (t.markReturned i e).testFree_own hi
      · exact absurd (hf.symm.trans hnone) nofun
      · rw [hsame, AlarmTable.markReturned_entries, if_pos rfl] at hf
        cases hf
        exact hpair
  · rw [hr]
    exact AlarmTable.beside_refl t hz

/-! ### A return's own entries -/

/-- A pair of code and subject occupies at most one entry (R144). -/
def AlarmTable.single (code : AlarmCode) (subject : Subject) (t : AlarmTable) : Prop :=
  ∀ (i j : Fin 48) (a b : AlarmEntry), t.entries[i] = some a → t.entries[j] = some b → a.code = code → a.subject = subject →
    b.code = code → b.subject = subject → i = j

theorem AlarmTable.single_of_kept {t : AlarmTable} (h : t.kept) : t.single code subject := by
  obtain ⟨-, -, hpairs, -⟩ := h
  exact fun i j a b ha hb hca hsa hcb hsb => hpairs i j a b ha hb (hca.trans hcb.symm) (hsa.trans hsb.symm)

theorem AlarmTable.single_of_beside {t u : AlarmTable} (h : AlarmTable.beside code subject t u) (hz : t.zeroKept)
    (ht : t.single code subject) : u.single code subject := by
  obtain ⟨-, hentries⟩ := h hz
  exact fun i j a b ha hb hca hsa hcb hsb =>
    ht i j a b ((hentries i a hca hsa).mp ha) ((hentries j b hcb hsb).mp hb) hca hsa hcb hsb

/-- After a return the entries of its pair are RETURNED (R146). -/
theorem AlarmTable.return_returned (hfull : code ≠ .tableFull) {t : AlarmTable} (hz : t.zeroKept) (ht : t.single code subject)
    {j : Fin 48} {f : AlarmEntry} (hf : (t.return code subject).entries[j] = some f) (hc : f.code = code)
    (hs : f.subject = subject) : f.condition = .returned := by
  obtain ⟨i, e, he, hce, hse, hr⟩ | ⟨hr, hnone | ⟨i, e, he, hce, hse, hreturned⟩⟩ := t.return_cases code subject
  · have hi : i ≠ 0 := fun h0 => hfull (hce ▸ hz e (h0 ▸ he))
    have hj0 : j ≠ 0 := by
      rintro rfl
      exact hfull (hc ▸ AlarmTable.return_zeroKept hz hfull subject f hf)
    rw [hr] at hf
    by_cases hji : j = i
    · subst hji
      obtain h | h := (t.markReturned j e).testFree_own hi
      · exact absurd (hf.symm.trans h) nofun
      · rw [h, AlarmTable.markReturned_entries, if_pos rfl] at hf
        cases hf
        rfl
    · rw [(AlarmTable.testFree_entries _ hi).1 j hj0 hji, AlarmTable.markReturned_entries, if_neg (Ne.symm hji)] at hf
      exact absurd (ht j i f e hf he hc hs hce hse) hji
  · rw [hr] at hf
    exact absurd hs (hnone j f hf hc)
  · rw [hr] at hf
    obtain rfl := ht j i f e hf he hc hs hce hse
    rw [he] at hf
    cases hf
    exact hreturned

end

end Sys2Proof.Machine
end

section
/-! PROOFS. The round-complete event at the Room Unit (R19 to R23, R31, R32). -/

namespace Sys2Proof.Machine

set_option Elab.async false

/-! ### ROOM_PROBES_LOST (R31, R32) -/

theorem raiseProbesLost_eq (r : Fin 8) (s : State) :
    let raised := s.alarms.raise s.clock false .roomProbesLost (.room r) none none
    raiseProbesLost r s = (s.setRoom r
      { s.room r with lostFlag := true, lostUnposted := (s.room r).lostUnposted || !raised.2 }).setAlarms raised.1 := by
  intro raised
  rw [raiseProbesLost, raiseCondition_room]
  simp only [State.modifyRoom, State.room_setRoom_self, State.setRoom_setRoom, State.setRoom_alarms, State.setRoom_clock]
  cases raised.2 <;> simp [raised]

/-- The four turns of the last step of a round-complete event: a raise, a return, and two that change nothing (R31). -/
theorem evaluateLost_eq (r : Fin 8) (s : State) :
    let x := s.room r
    let raised := s.alarms.raise s.clock false .roomProbesLost (.room r) none none
    (x.validCount = 0 → x.lostFlag = false → (x.firstVote = true ∨ s.mode = .run) → evaluateLost r s
      = (s.setRoom r { x with lostFlag := true, lostUnposted := x.lostUnposted || !raised.2 }).setAlarms raised.1)
    ∧ (0 < x.validCount → x.lostFlag = true → evaluateLost r s
      = (s.setRoom r { x with lostFlag := false, lostUnposted := false }).setAlarms
          (s.alarms.return .roomProbesLost (.room r)))
    ∧ (x.validCount = 0 → (x.lostFlag = true ∨ x.firstVote = false ∧ s.mode = .setup) → evaluateLost r s = s)
    ∧ (0 < x.validCount → x.lostFlag = false → evaluateLost r s = s) := by
  intro x raised
  have hraise : (!x.lostFlag && (x.firstVote || s.mode == .run)) = true
      ↔ x.lostFlag = false ∧ (x.firstVote = true ∨ s.mode = .run) := by
    simp only [Bool.and_eq_true, Bool.not_eq_true', Bool.or_eq_true, beq_iff_eq]
  have hnone : x.validCount = 0 → evaluateLost r s
      = if (!x.lostFlag && (x.firstVote || s.mode == .run)) = true then raiseProbesLost r s else s := fun h => if_pos h
  have hsome : 0 < x.validCount → evaluateLost r s
      = if x.lostFlag = true then (s.setRoom r { x with lostFlag := false, lostUnposted := false }).returnCondition
          .roomProbesLost (.room r) else s := fun h => if_neg (Nat.ne_of_gt h)
  refine ⟨fun hcount hflag hdue => ?_, fun hcount hflag => ?_, fun hcount hidle => ?_, fun hcount hflag => ?_⟩
  · rw [hnone hcount, if_pos (hraise.mpr ⟨hflag, hdue⟩), raiseProbesLost_eq]
  · rw [hsome hcount, if_pos hflag, State.returnCondition_eq]
    rfl
  · rw [hnone hcount, if_neg]
    rw [hraise]
    rintro ⟨hflag, hdue⟩
    obtain h | ⟨hfirst, hmode⟩ := hidle
    · rw [hflag] at h
      cases h
    · rw [hfirst, hmode] at hdue
      obtain h | h := hdue <;> cases h
  · rw [hsome hcount, if_neg (by rw [hflag]; decide)]

/-- What the last step may do to a room's flag and mark, and to the table: the flag is set exactly where `lost` holds; a flag
newly set has its entry or its mark; a flag cleared clears the mark and leaves no active entry. -/
structure LostOutcome (r : Fin 8) (x : Room) (lost : Prop) (before after : AlarmTable) (flag mark : Bool) : Prop where
  flag_iff : flag = true ↔ lost
  raised : x.lostFlag = false → flag = true → mark = true ∨ ∃ (i : Fin 48) (e : AlarmEntry), after.entries[i] = some e
    ∧ e.code = .roomProbesLost ∧ e.subject = .room r ∧ e.condition = .active
  returned : x.lostFlag = true → flag = false → mark = false
    ∧ (before.zeroKept → before.single .roomProbesLost (.room r) → ∀ (i : Fin 48) (e : AlarmEntry),
      after.entries[i] = some e → e.code = .roomProbesLost → e.subject = .room r → e.condition = .returned)
  kept : flag = x.lostFlag → mark = x.lostUnposted
  zero : before.zeroKept → after.zeroKept

/-- A turn that changes nothing has that outcome. -/
theorem LostOutcome.same (r : Fin 8) (x : Room) {lost : Prop} (h : x.lostFlag = true ↔ lost) (a : AlarmTable) :
    LostOutcome r x lost a a x.lostFlag x.lostUnposted where
  flag_iff := h
  raised hclear hset := by rw [hclear] at hset; cases hset
  returned hset hclear := by rw [hset] at hclear; cases hclear
  kept _ := rfl
  zero := id

theorem evaluateLost_outcome (r : Fin 8) (s : State) : ∃ flag mark,
    (evaluateLost r s).room r = { s.room r with lostFlag := flag, lostUnposted := mark }
      ∧ LostOutcome r (s.room r) ((s.room r).validCount = 0
          ∧ ((s.room r).lostFlag = true ∨ (s.room r).firstVote = true ∨ s.mode = .run))
        s.alarms (evaluateLost r s).alarms flag mark := by
  obtain ⟨hraise, hreturn, hheld, hclear⟩ := evaluateLost_eq r s
  cases hflag : (s.room r).lostFlag <;> obtain hcount | hcount := Nat.eq_zero_or_pos (s.room r).validCount
  case false.inl =>
    by_cases hdue : (s.room r).firstVote = true ∨ s.mode = .run
    · rw [hraise hcount hflag hdue]
      refine ⟨true, _, State.room_setRoom_self _ r _, by simp [hcount, hdue], fun _ _ => ?_, nofun, fun h => ?_, fun h => ?_⟩
      · cases hentered : (s.alarms.raise s.clock false .roomProbesLost (.room r) none none).2
        · simp
        · obtain ⟨i, e, -, he, hc, hs, -, -, -, hactive⟩ := AlarmTable.raise_shows (low := 0) rfl (.inl rfl) hentered
          exact .inr ⟨i, e, he, hc, hs, hactive⟩
      · rw [hflag] at h
        cases h
      · exact AlarmTable.raise_zeroKept h _ _ _ _ _ _
    · have hidle : (s.room r).firstVote = false ∧ s.mode = .setup := by
        obtain ⟨hfirst, hmode⟩ := not_or.mp hdue
        cases hm : s.mode
        · exact ⟨Bool.eq_false_iff.mpr hfirst, rfl⟩
        · exact absurd hm hmode
      rw [hheld hcount (.inr hidle)]
      exact ⟨_, _, rfl, LostOutcome.same r _ (by simp [hflag, hdue]) _⟩
  case false.inr =>
    rw [hclear hcount hflag]
    exact ⟨_, _, rfl, LostOutcome.same r _ (by simp [hflag, Nat.ne_of_gt hcount]) _⟩
  case true.inl =>
    rw [hheld hcount (.inl hflag)]
    exact ⟨_, _, rfl, LostOutcome.same r _ (by simp [hflag, hcount]) _⟩
  case true.inr =>
    rw [hreturn hcount hflag]
    refine ⟨false, false, State.room_setRoom_self _ r _, by simp [Nat.ne_of_gt hcount], nofun, fun _ _ => ⟨rfl, ?_⟩,
      fun h => ?_, fun h => ?_⟩
    · exact fun hz hsingle i e he hc hs => AlarmTable.return_returned (by decide) hz hsingle he hc hs
    · rw [hflag] at h
      cases h
    · exact AlarmTable.return_zeroKept h (by decide) _

/-! ### What the other turns of the event leave of a room -/

/-- A room's record without its temperature alarms: what the vote and ROOM_PROBES_LOST are about. -/
def Room.voteCore (x : Room) : Room :=
  { x with
    highTimer := .stopped, lowTimer := .stopped, highFlag := false, lowFlag := false
    highUnposted := false, lowUnposted := false }

theorem Room.voted_voteCore (x : Room) (temps : List Temperature) : (x.voted temps).voteCore = x.voteCore.voted temps := by
  cases h : vote temps with
  | none => rw [Room.voted_none h, Room.voted_none h]; rfl
  | some v => rw [Room.voted_some h, Room.voted_some h]; rfl

/-- The fields a round-complete event can change. -/
def roundFields : List Field := [.rooms, .defrosts, .alarms, .attn]

/-- Between two states only rooms, defrosts and the table differ, a room differs in its temperature alarms alone, and the entries
of its ROOM_PROBES_LOST are the same. -/
structure State.BesideVote (r : Fin 8) (s t : State) : Prop where
  frame : s.frame roundFields t
  core : (t.room r).voteCore = (s.room r).voteCore
  alarms : AlarmTable.beside .roomProbesLost (.room r) s.alarms t.alarms

theorem State.BesideVote.refl (r : Fin 8) (s : State) : s.BesideVote r s := ⟨rfl, rfl, AlarmTable.beside_refl _⟩

theorem State.BesideVote.trans {r : Fin 8} {s t u : State} (h : s.BesideVote r t) (k : t.BesideVote r u) : s.BesideVote r u :=
  ⟨State.frame_trans h.frame k.frame, k.core.trans h.core, AlarmTable.beside_trans h.alarms k.alarms⟩

theorem State.besideVote_setRoom_ne {r i : Fin 8} (h : i ≠ r) (s : State) (x : Room) : s.BesideVote r (s.setRoom i x) :=
  ⟨frame_setRoom (by decide) s i x, by rw [State.room_setRoom_ne _ _ (Ne.symm h)], AlarmTable.beside_refl _⟩

theorem State.besideVote_setRoom {i : Fin 8} (r : Fin 8) (s : State) {x : Room} (h : x.voteCore = (s.room i).voteCore) :
    s.BesideVote r (s.setRoom i x) := by
  by_cases hi : i = r
  · subst hi
    exact ⟨frame_setRoom (by decide) s i x, by rw [State.room_setRoom_self, h], AlarmTable.beside_refl _⟩
  · exact State.besideVote_setRoom_ne hi s x

theorem State.besideVote_setDefrost (r i : Fin 8) (s : State) (x : Defrost) : s.BesideVote r (s.setDefrost i x) :=
  ⟨frame_setDefrost (by decide) s i x, rfl, AlarmTable.beside_refl _⟩

theorem State.besideVote_raise (r : Fin 8) (s : State) {code : AlarmCode} {subject : Subject}
    (h : code = .roomProbesLost → subject ≠ .room r) (detail : Option Word16) :
    s.BesideVote r (s.setAlarms (s.alarms.raise s.clock false code subject none detail).1) :=
  ⟨frame_setAlarms (by decide) (by decide) s _, rfl, AlarmTable.raise_beside (by decide) h _ _ _ _⟩

theorem State.besideVote_return (r : Fin 8) (s : State) {code : AlarmCode} {subject : Subject} (hfull : code ≠ .tableFull)
    (h : code = .roomProbesLost → subject ≠ .room r) : s.BesideVote r (s.setAlarms (s.alarms.return code subject)) :=
  ⟨frame_setAlarms (by decide) (by decide) s _, rfl, AlarmTable.return_beside (by decide) hfull h _⟩

theorem evaluateHigh_besideVote (r i : Fin 8) (s : State) : s.BesideVote r (evaluateHigh i s) := by
  have hroom : s.BesideVote r (s.setRoom i ((s.room i).afterHigh (s.defrost i).state)) := s.besideVote_setRoom r rfl
  by_cases h : (s.room i).returnsHigh
  · rw [(evaluateHigh_eq i s).1 h]
    exact hroom.trans (State.besideVote_return r _ (by decide) nofun)
  · rwa [(evaluateHigh_eq i s).2 h]

theorem evaluateLow_besideVote (r i : Fin 8) (s : State) : s.BesideVote r (evaluateLow i s) := by
  have hroom : s.BesideVote r (s.setRoom i (s.room i).afterLow) := s.besideVote_setRoom r rfl
  by_cases h : (s.room i).returnsLow
  · rw [(evaluateLow_eq i s).1 h]
    exact hroom.trans (State.besideVote_return r _ (by decide) nofun)
  · rwa [(evaluateLow_eq i s).2 h]

theorem evaluateRoom_besideVote (r i : Fin 8) (s : State) : s.BesideVote r (evaluateRoom i s) := by
  unfold evaluateRoom
  split
  · exact (evaluateHigh_besideVote r i s).trans (evaluateLow_besideVote r i _)
  · exact .refl r s

theorem evaluateLost_besideVote {r i : Fin 8} (h : i ≠ r) (s : State) : s.BesideVote r (evaluateLost i s) := by
  have hpair : AlarmCode.roomProbesLost = .roomProbesLost → Subject.room i ≠ .room r := fun _ heq => h (Subject.room.inj heq)
  unfold evaluateLost
  dsimp only
  split
  · split
    · rw [raiseProbesLost_eq]
      exact (s.besideVote_setRoom_ne h _).trans (State.besideVote_raise r _ hpair none)
    · exact .refl r s
  · split
    · exact (s.besideVote_setRoom_ne h _).trans (State.besideVote_return r _ (by decide) hpair)
    · exact .refl r s

theorem roundRoom_besideVote {r i : Fin 8} (h : i ≠ r) (s : State) : s.BesideVote r (roundRoom i s) :=
  ((s.besideVote_setRoom_ne h _).trans (evaluateRoom_besideVote r i _)).trans (evaluateLost_besideVote h _)

theorem testTerminate_besideVote (r i : Fin 8) (s : State) : s.BesideVote r (testTerminate i s) := by
  unfold testTerminate
  dsimp only
  split
  · exact .refl r s
  · split
    · exact (s.besideVote_setDefrost r i _).trans (State.besideVote_raise r _ (code := .terminateReached) nofun _)
    · exact .refl r s

theorem testRecovery_besideVote (r i : Fin 8) (s : State) : s.BesideVote r (testRecovery i s) := by
  rw [testRecovery_eq]
  split
  · exact (s.besideVote_setDefrost r i _).trans (State.besideVote_setRoom r _ rfl)
  · exact .refl r s

theorem roundDefrost_besideVote (r : Fin 8) (s : State) : s.BesideVote r (roundDefrost s) := by
  unfold roundDefrost
  split
  · exact forEach_rel (State.BesideVote r) (.refl r) State.BesideVote.trans
      (fun i s => (testTerminate_besideVote r i s).trans (testRecovery_besideVote r i _)) s
  · exact .refl r s

/-! ### A room's turn in the event (R19) -/

/-- A room's turn among the eight. -/
theorem roundRooms_turn (r : Fin 8) (s : State) : ∃ s1, s.BesideVote r s1 ∧ (roundRoom r s1).BesideVote r (roundRooms s) :=
  forEach_at r (State.BesideVote r) (.refl r) State.BesideVote.trans (fun _ s hi => roundRoom_besideVote hi s) s

/-- The event, from the state in which the rooms' expiries have been taken (R11, log entry 30). -/
def afterRound (first : Bool) (s : State) : State := if first then roundRooms (roundDefrost s) else roundDefrost (roundRooms s)

theorem completeRound_eq {s : State} (h : s.round = .ended) (first : Bool) :
    completeRound first s = afterRound first (settleRooms { s with round := .idle }) := by
  simp only [completeRound, h]
  rfl

theorem afterRound_turn (first : Bool) (r : Fin 8) (s : State) :
    ∃ s1, s.BesideVote r s1 ∧ (roundRoom r s1).BesideVote r (afterRound first s) := by
  unfold afterRound
  split
  case isFalse =>
    obtain ⟨s1, hbefore, hafter⟩ := roundRooms_turn r s
    exact ⟨s1, hbefore, hafter.trans (roundDefrost_besideVote r _)⟩
  case isTrue =>
    obtain ⟨s1, hbefore, hafter⟩ := roundRooms_turn r (roundDefrost s)
    exact ⟨s1, (roundDefrost_besideVote r s).trans hbefore, hafter⟩

theorem State.probeTemps_congr {s t : State} (h : t.channels = s.channels) (role : ChannelRole) (r : Fin 8) :
    t.probeTemps role r = s.probeTemps role r := by
  unfold State.probeTemps State.channel
  rw [h]

/-- The outcome of a turn, told of the state before earlier turns and of the table after later ones. -/
theorem LostOutcome.beside {r : Fin 8} {x : Room} {lost : Prop} {a before after b : AlarmTable} {flag mark : Bool}
    (h : LostOutcome r x lost before after flag mark) (hbefore : AlarmTable.beside .roomProbesLost (.room r) a before)
    (hafter : AlarmTable.beside .roomProbesLost (.room r) after b) :
    (flag = true ↔ lost)
    ∧ (x.lostFlag = false → flag = true → a.zeroKept → mark = true ∨ ∃ (i : Fin 48) (e : AlarmEntry), b.entries[i] = some e
      ∧ e.code = .roomProbesLost ∧ e.subject = .room r ∧ e.condition = .active)
    ∧ (x.lostFlag = true → flag = false → mark = false
      ∧ (a.zeroKept → a.single .roomProbesLost (.room r) → ∀ (i : Fin 48) (e : AlarmEntry),
        b.entries[i] = some e → e.code = .roomProbesLost → e.subject = .room r → e.condition = .returned))
    ∧ (flag = x.lostFlag → mark = x.lostUnposted) := by
  refine ⟨h.flag_iff, fun hclear hset hz => ?_, fun hset hclear => ⟨(h.returned hset hclear).1, ?_⟩, h.kept⟩
  · obtain ⟨-, hentries⟩ := hafter (h.zero (hbefore hz).1)
    obtain hmark | ⟨i, e, he, hc, hs, hactive⟩ := h.raised hclear hset
    · exact .inl hmark
    · exact .inr ⟨i, e, (hentries i e hc hs).mpr he, hc, hs, hactive⟩
  · intro hz hsingle i e he hc hs
    obtain ⟨hz', -⟩ := hbefore hz
    obtain ⟨-, hentries⟩ := hafter (h.zero hz')
    exact (h.returned hset hclear).2 hz' (AlarmTable.single_of_beside hbefore hz hsingle) i e ((hentries i e hc hs).mp he) hc hs

/-- A room after the event: its record voted, but for its temperature alarms, and ROOM_PROBES_LOST's flag and mark with their
outcome. -/
theorem afterRound_room (first : Bool) (r : Fin 8) (s : State) :
    let temps := s.probeTemps .room r
    let x := (s.room r).voteCore.voted temps
    let t := afterRound first s
    ∃ flag mark, (t.room r).voteCore = { x with lostFlag := flag, lostUnposted := mark }
      ∧ (flag = true ↔ x.validCount = 0 ∧ (x.lostFlag = true ∨ x.firstVote = true ∨ s.mode = .run))
      ∧ (x.lostFlag = false → flag = true → s.alarms.zeroKept → mark = true ∨ ∃ (i : Fin 48) (e : AlarmEntry),
          t.alarms.entries[i] = some e ∧ e.code = .roomProbesLost ∧ e.subject = .room r ∧ e.condition = .active)
      ∧ (x.lostFlag = true → flag = false → mark = false
          ∧ (s.alarms.zeroKept → s.alarms.single .roomProbesLost (.room r) → ∀ (i : Fin 48) (e : AlarmEntry),
            t.alarms.entries[i] = some e → e.code = .roomProbesLost → e.subject = .room r → e.condition = .returned))
      ∧ (flag = x.lostFlag → mark = x.lostUnposted) := by
  intro temps x t
  obtain ⟨s1, hbefore, hafter⟩ := afterRound_turn first r s
  let u := s1.setRoom r ((s1.room r).voted (s1.probeTemps .room r))
  let v := evaluateRoom r u
  have hv : u.BesideVote r v := evaluateRoom_besideVote r r u
  obtain ⟨flag, mark, hroom, houtcome⟩ := evaluateLost_outcome r v
  have hcore : (v.room r).voteCore = x := by
    rw [hv.core, State.room_setRoom_self, Room.voted_voteCore, hbefore.core,
      State.probeTemps_congr (State.frame_channels hbefore.frame (by decide))]
  have hmode : v.mode = s.mode := (State.frame_mode hv.frame (by decide)).trans (State.frame_mode hbefore.frame (by decide))
  refine ⟨flag, mark, ?_, ?_⟩
  · rw [hafter.core]
    exact (congrArg Room.voteCore hroom).trans (congrArg (fun y : Room => { y with lostFlag := flag, lostUnposted := mark }) hcore)
  · rw [← hcore, ← hmode]
    exact houtcome.beside (AlarmTable.beside_trans hbefore.alarms hv.alarms) hafter.alarms

/-! ### The records after the event -/

section
variable {x w : Room} {temps : List Temperature} {flag mark : Bool}

/-- The values of a room's vote, where its record after the event is its record voted, but for its alarms (R20 to R23). -/
theorem Room.vote_of_voteCore (h : w.voteCore = { x.voteCore.voted temps with lostFlag := flag, lostUnposted := mark }) :
    w.validCount = temps.length
      ∧ (vote temps = none → w.reading = x.reading ∧ w.filtered = x.filtered ∧ w.firstVote = x.firstVote)
      ∧ ∀ v, vote temps = some v → w.reading = v ∧ w.firstVote = true
        ∧ w.filtered = if x.firstVote = true then x.filtered + smoothStep v x.filtered x.weight else v := by
  have hcount := congrArg Room.validCount h
  refine ⟨hcount.trans (x.voteCore.voted_validCount temps), fun hv => ?_, fun v hv => ?_⟩
  · rw [Room.voted_none hv] at h
    have field := fun {α : Type} (f : Room → α) => congrArg f h
    exact ⟨field Room.reading, field Room.filtered, field Room.firstVote⟩
  · rw [Room.voted_some hv] at h
    have field := fun {α : Type} (f : Room → α) => congrArg f h
    exact ⟨field Room.reading, field Room.firstVote, field Room.filtered⟩

/-- The vote leaves limits, delays, weight and kind. -/
theorem Room.limits_of_voteCore (h : w.voteCore = { x.voteCore.voted temps with lostFlag := flag, lostUnposted := mark }) :
    w.upper = x.upper ∧ w.lower = x.lower ∧ w.ceiling = x.ceiling ∧ w.effectiveUpper = x.effectiveUpper
      ∧ w.highDelay = x.highDelay ∧ w.lowDelay = x.lowDelay ∧ w.weight = x.weight ∧ w.kind = x.kind := by
  cases hv : vote temps with
  | none =>
    rw [Room.voted_none hv] at h
    have field := fun {α : Type} (f : Room → α) => congrArg f h
    exact ⟨field Room.upper, field Room.lower, field Room.ceiling, field Room.effectiveUpper, field Room.highDelay,
      field Room.lowDelay, field Room.weight, field Room.kind⟩
  | some v =>
    rw [Room.voted_some hv] at h
    have field := fun {α : Type} (f : Room → α) => congrArg f h
    exact ⟨field Room.upper, field Room.lower, field Room.ceiling, field Room.effectiveUpper, field Room.highDelay,
      field Room.lowDelay, field Room.weight, field Room.kind⟩

end

theorem Room.voted_lost (x : Room) (temps : List Temperature) :
    (x.voted temps).lostFlag = x.lostFlag ∧ (x.voted temps).lostUnposted = x.lostUnposted := by
  cases hv : vote temps with
  | none => rw [Room.voted_none hv]; exact ⟨rfl, rfl⟩
  | some v => rw [Room.voted_some hv]; exact ⟨rfl, rfl⟩

/-- A room loses its probes where none is valid and it was lost, or has voted, or the part is in RUN (R31). -/
theorem Room.lost_iff (x : Room) (temps : List Temperature) (run : Prop) :
    ((x.voted temps).validCount = 0 ∧ ((x.voted temps).lostFlag = true ∨ (x.voted temps).firstVote = true ∨ run))
      ↔ temps = [] ∧ (x.lostFlag = true ∨ x.firstVote = true ∨ run) := by
  rw [Room.voted_validCount, List.length_eq_zero_iff]
  refine and_congr_right fun htemps => ?_
  subst htemps
  rw [Room.voted_none rfl]

theorem afterRound_round {s : State} (h : s.round = .idle) (first : Bool) : (afterRound first s).round = .idle := by
  obtain ⟨s1, hbefore, hafter⟩ := afterRound_turn first 0 s
  rw [State.frame_round hafter.frame (by decide), State.frame_round (roundRoom_frame 0 s1) (by decide),
    State.frame_round hbefore.frame (by decide), h]

/-- Settles O39: a room's turn is singled out of the event, its vote read from its record, and ROOM_PROBES_LOST from the four
turns of its last step. -/
theorem roundCompleteVotesEveryRoom : Obligations.RoundCompleteVotesEveryRoom := by
  refine ⟨fun first before hended => ?_, fun first s hended => ?_, evaluateLost_eq⟩
  · have hexec : exec (.roundComplete first) before = .next (afterRound first (settleRooms { before with round := .idle })) :=
      congrArg Host.Outcome.next (completeRound_eq hended first)
    have hsettled : (settleRooms { before with round := .idle }).round = .idle :=
      State.frame_round (settleRooms_frame _) (by decide)
    generalize settleRooms { before with round := .idle } = s at hexec hsettled ⊢
    refine ⟨afterRound first s, hexec, afterRound_round hsettled first, fun r => ?_⟩
    intro temps
    obtain ⟨flag, mark, hcore, hlost, hraised, hreturned, hkept⟩ := afterRound_room first r s
    rw [s.probeTemps_room r] at hcore hlost hraised hreturned hkept
    generalize afterRound first s = t at *
    obtain ⟨hcount, hnone, hsome⟩ := Room.vote_of_voteCore hcore
    obtain ⟨hupper, hlower, hceiling, heffective, hhigh, hlow, hweight, hkind⟩ := Room.limits_of_voteCore hcore
    have hflag := congrArg Room.lostFlag hcore
    have hmark := congrArg Room.lostUnposted hcore
    change (t.room r).lostFlag = flag at hflag
    change (t.room r).lostUnposted = mark at hmark
    obtain ⟨hlostFlag, hlostMark⟩ := (s.room r).voteCore.voted_lost temps
    rw [hflag, hmark]
    refine ⟨hcount, hnone, hsome, hupper, hlower, hceiling, heffective, hhigh, hlow, hweight, hkind,
      hlost.trans (Room.lost_iff _ _ _), fun hclear hset hkeep => ?_, fun hset hclear => ?_, fun hsame => ?_⟩
    · exact hraised (hlostFlag.trans hclear) hset (AlarmTable.zeroKept_of_kept hkeep)
    · obtain ⟨hmark, hentries⟩ := hreturned (hlostFlag.trans hset) hclear
      exact ⟨hmark, fun hkeep => hentries (AlarmTable.zeroKept_of_kept hkeep) (AlarmTable.single_of_kept hkeep)⟩
    · exact (hkept (hsame.trans hlostFlag.symm)).trans hlostMark
  · exact congrArg Host.Outcome.next (completeRound_eq hended first)

end Sys2Proof.Machine
end

section
/-! PROOFS. SETUP COMPLETE: the four checks (R175), the doors' derivation (R45), and the reply (R174). -/

namespace Sys2Proof.Machine

set_option Elab.async false

/-! ### The four checks (R175) -/

section
variable {n : Nat} {fails : Fin n → Bool} {passes : Fin n → Prop}

/-- A check finds no index exactly where every index passes. -/
theorem check_passes (h : ∀ i, fails i = false ↔ passes i) : lowest n fails = none ↔ ∀ i, passes i :=
  lowest_eq_none.trans (forall_congr' h)

/-- A check finds the lowest index that fails. -/
theorem check_fails (h : ∀ i, fails i = false ↔ passes i) {i : Fin n} (hi : ¬ passes i) (hbelow : ∀ j, j < i → passes j) :
    lowest n fails = some i :=
  lowest_eq_some.mpr ⟨Bool.not_eq_false _ ▸ (h i).not.mpr hi, fun j hj => (h j).mpr (hbelow j hj)⟩

end

/-- Check 1 passes at a door: where it is enabled, its dock room is of kind DOCK. -/
def State.doorPlaced (s : State) (d : Fin 24) : Prop := (s.door d).enabled = true → (s.room (s.door d).dockRoom).kind = .dock

/-- Check 2 passes at a room: a channel with role ROOM stands in it. -/
def State.roomProbed (s : State) (r : Fin 8) : Prop := ∃ c : Fin 32, (s.channel c).role = .room ∧ (s.channel c).room = r

/-- Check 3 passes at a room: its heater load fits in the heater capacity. -/
def State.roomCarried (s : State) (r : Fin 8) : Prop := (s.defrost r).heaterLoad ≤ s.heaterCapacity

/-- Check 4 passes at a class: its warn level is within its budget. -/
def State.classOrdered (s : State) (c : Fin 8) : Prop := (s.productClass c).warn ≤ (s.productClass c).budget

section
variable {s : State}

theorem State.doorMisplaced_eq_false (d : Fin 24) : s.doorMisplaced d = false ↔ s.doorPlaced d := by
  simp [State.doorMisplaced, State.doorPlaced]

theorem State.roomUnprobed_eq_false (r : Fin 8) : s.roomUnprobed r = false ↔ s.roomProbed r := by
  rw [State.roomUnprobed, ← Option.not_isSome, Bool.not_eq_false', lowest_isSome]
  simp only [Bool.and_eq_true, beq_iff_eq]
  rfl

theorem State.roomOverloaded_eq_false (r : Fin 8) : s.roomOverloaded r = false ↔ s.roomCarried r := by
  simp [State.roomOverloaded, State.roomCarried]

theorem State.classInverted_eq_false (c : Fin 8) : s.classInverted c = false ↔ s.classOrdered c := by
  simp [State.classInverted, State.classOrdered]

/-- The validation passes exactly where every check passes at every index. -/
theorem State.validate_eq_none : s.validate = none
    ↔ (∀ d, s.doorPlaced d) ∧ (∀ r, s.roomProbed r) ∧ (∀ r, s.roomCarried r) ∧ ∀ c, s.classOrdered c := by
  rw [← check_passes s.doorMisplaced_eq_false, ← check_passes s.roomUnprobed_eq_false,
    ← check_passes s.roomOverloaded_eq_false, ← check_passes s.classInverted_eq_false]
  unfold State.validate
  split <;> simp_all

theorem State.validate_door {d : Fin 24} (hd : ¬ s.doorPlaced d) (hbelow : ∀ i, i < d → s.doorPlaced i) :
    s.validate = some (1, d.val) := by
  simp only [State.validate, check_fails s.doorMisplaced_eq_false hd hbelow]

theorem State.validate_probe (doors : ∀ d, s.doorPlaced d) {r : Fin 8} (hr : ¬ s.roomProbed r)
    (hbelow : ∀ i, i < r → s.roomProbed i) : s.validate = some (2, r.val) := by
  simp only [State.validate, (check_passes s.doorMisplaced_eq_false).mpr doors,
    check_fails s.roomUnprobed_eq_false hr hbelow]

theorem State.validate_load (doors : ∀ d, s.doorPlaced d) (probes : ∀ r, s.roomProbed r) {r : Fin 8}
    (hr : ¬ s.roomCarried r) (hbelow : ∀ i, i < r → s.roomCarried i) : s.validate = some (3, r.val) := by
  simp only [State.validate, (check_passes s.doorMisplaced_eq_false).mpr doors,
    (check_passes s.roomUnprobed_eq_false).mpr probes, check_fails s.roomOverloaded_eq_false hr hbelow]

theorem State.validate_budget (doors : ∀ d, s.doorPlaced d) (probes : ∀ r, s.roomProbed r) (loads : ∀ r, s.roomCarried r)
    {c : Fin 8} (hc : ¬ s.classOrdered c) (hbelow : ∀ i, i < c → s.classOrdered i) : s.validate = some (4, c.val) := by
  simp only [State.validate, (check_passes s.doorMisplaced_eq_false).mpr doors,
    (check_passes s.roomUnprobed_eq_false).mpr probes, (check_passes s.roomOverloaded_eq_false).mpr loads,
    check_fails s.classInverted_eq_false hc hbelow]

end

/-! ### A door's derived state (R45) -/

theorem State.trailerHeld_eq_true (s : State) (d : Fin 24) :
    s.trailerHeld d = true ↔
      (∃ q : Fin 256, (s.pallet q).live = true ∧ (s.pallet q).location = .at (.trailer d))
      ∨ ∃ m : Fin 32, (s.move m).live = true
        ∧ ((s.move m).origin = some (.trailer d) ∨ (s.move m).destination = some (.trailer d)) := by
  simp only [State.trailerHeld, Bool.or_eq_true, lowest_isSome, Pallet.atTrailer, Move.namesTrailer, Bool.and_eq_true, beq_iff_eq]

theorem State.trailerHeld_congr {s t : State} (hpallets : t.pallets = s.pallets) (hmoves : t.moves = s.moves) (d : Fin 24) :
    t.trailerHeld d = s.trailerHeld d := by
  simp only [State.trailerHeld, State.pallet, State.move, hpallets, hmoves]

/-- The six steps of the derivation, in order (R45). -/
theorem Door.derive_stateAndCause (x : Door) (held : Bool) :
    (x.derive held).stateAndCause
      = if x.tp.level = false ∧ held = true then (.fault, .trailerLost)
        else if x.pc.level = false then (.breach, .none)
        else if x.tp.level = false ∧ x.sm.level = true then (.fault, .sealWithoutTrailer)
        else if x.tp.level = false then (.vacant, .none)
        else if x.sm.level = true then (.sealed, .none)
        else if held = true then (.sealing, .none) else (.docked, .none) := by
  simp only [Door.derive, apply_ite Derived.stateAndCause, Bool.and_eq_true, Bool.not_eq_true']
  rfl

/-! ### The request (R174) -/

/-- The state in which a port's flag has been set. -/
def State.completing (p : Port) (s : State) : State := s.setPort p { s.port p with setupComplete := true }

/-- All three flags are set exactly where those of the other two ports were. -/
theorem State.completing_all (p : Port) (s : State) :
    (((s.completing p).port .dock).setupComplete && ((s.completing p).port .plant).setupComplete
      && ((s.completing p).port .movement).setupComplete) = true ↔ ∀ q, q ≠ p → (s.port q).setupComplete = true := by
  rw [Bool.and_eq_true, Bool.and_eq_true, State.completing]
  constructor
  · rintro ⟨⟨hdock, hplant⟩, hmovement⟩ q hq
    have hport := State.port_setPort_ne s { s.port p with setupComplete := true } hq
    rw [← hport]
    cases q <;> assumption
  · intro h
    have hset : ∀ q, ((s.setPort p { s.port p with setupComplete := true }).port q).setupComplete = true := by
      intro q
      by_cases hq : q = p
      · rw [hq, State.port_setPort_self]
      · rw [State.port_setPort_ne _ _ hq, h q hq]
    exact ⟨⟨hset _, hset _⟩, hset _⟩

/-- A row taken in SETUP is taken in SETUP (R163). -/
theorem State.takes_setup {s : State} (p : Port) {row : RequestRow} (hmode : s.mode = .setup) (hrow : row.setup = .taken) :
    s.takes p row = true := by
  rw [State.takes, hmode, hrow]
  rfl

theorem setupComplete_waits {p : Port} {s : State} (h : ¬ ∀ q, q ≠ p → (s.port q).setupComplete = true) :
    setupComplete p s = ⟨s.completing p, .ok, value8 0 ++ (s.completing p).setupFlags ++ [0, 0]⟩ :=
  if_neg ((s.completing_all p).not.mpr h)

theorem setupComplete_rejects {p : Port} {s : State} (h : ∀ q, q ≠ p → (s.port q).setupComplete = true) {check index : Nat}
    (hfails : s.validate = some (check, index)) :
    setupComplete p s = ⟨((s.completing p).clearSetupFlags).setAlarms (s.alarms.raise s.clock false .setupRejected .none none
      (some (BitVec.ofNat 16 check))).1, .ok, [2, 0, 0, 0] ++ value8 check ++ value8 index⟩ := by
  have hvalidate : (s.setPort p { s.port p with setupComplete := true }).validate = some (check, index) := hfails
  refine (if_pos ((s.completing_all p).mpr h)).trans ?_
  simp only [hvalidate]
  rfl

theorem State.setupFlags_all {s : State} (h : ∀ q, (s.port q).setupComplete = true) : s.setupFlags = [1, 1, 1] := by
  simp only [State.setupFlags, h]
  rfl

theorem setupComplete_enters {p : Port} {s : State} (h : ∀ q, q ≠ p → (s.port q).setupComplete = true)
    (hpasses : s.validate = none) :
    setupComplete p s = ⟨enterRun (s.completing p), .ok, [1, 1, 1, 1, 0, 0]⟩ := by
  have hall := (s.completing_all p).mpr h
  have hflags : (enterRun (s.completing p)).setupFlags = [1, 1, 1] := by
    refine State.setupFlags_all fun q => ?_
    rw [State.port, State.frame_ports (enterRun_frame _) (by decide)]
    simp only [Bool.and_eq_true] at hall
    obtain ⟨⟨hdock, hplant⟩, hmovement⟩ := hall
    cases q <;> assumption
  have hvalidate : (s.setPort p { s.port p with setupComplete := true }).validate = none := hpasses
  refine (if_pos hall).trans ?_
  simp only [hvalidate]
  exact congrArg (fun flags => (⟨_, .ok, value8 1 ++ flags ++ value8 0 ++ value8 0⟩ : Answer)) hflags

end Sys2Proof.Machine
end

section
/-! PROOFS. SETUP COMPLETE: the entry into RUN, its six steps (R176), with the doors' derivation (R65) and the rooms' evaluation (R37). -/

namespace Sys2Proof.Machine

set_option Elab.async false

/-! ### The doors' derived states entered (R45, R65) -/

/-- DOOR_FAULT raised at a door, its cause as detail (R57). -/
def faultRaise (now : Word32) (a : AlarmTable) (d : Fin 24) (cause : FaultCause) : AlarmTable × Bool :=
  a.raise now false .doorFault (.door d) none (some (BitVec.ofNat 16 cause.place))

/-- A door's record in a derived state; `entered` tells whether the raise for a cause found a place. -/
def Door.inDerived (x : Door) (entered : FaultCause → Bool) : Derived → Door
  | .fault cause =>
    { x.enter .fault with faultCause := cause, faultFlag := true, faultUnposted := x.faultUnposted || !entered cause }
  | .breach => { x.enter .breach with breachTimer := .start x.breachGrace }
  | .vacant => { x.enter .vacant with trailerTemp := none }
  | .sealed => x.enter .sealed
  | .sealing => { x.enter .sealing with sealTimer := .start x.sealLimit }
  | .docked => x.enter .docked

/-- The cause of a derived FAULT. -/
def Derived.cause? : Derived → Option FaultCause
  | .fault cause => some cause
  | .breach | .vacant | .sealed | .sealing | .docked => none

/-- The table after a door's derived state is entered: a FAULT raises DOOR_FAULT. -/
def causeRaised (now : Word32) (a : AlarmTable) (d : Fin 24) : Option FaultCause → AlarmTable
  | some cause => (faultRaise now a d cause).1
  | none => a

/-- A condition raised whose unposted mark stands in a door's record. -/
theorem raiseCondition_door (s : State) (d : Fin 24) (code : AlarmCode) (subject : Subject) (tag : Option Word32)
    (detail : Option Word16) (x : Door) (f : Door → Door) :
    (s.setDoor d x).raiseCondition code subject tag detail (fun t => t.modifyDoor d f)
      = (s.setDoor d (if (s.alarms.raise s.clock false code subject tag detail).2 = true then x
          else f (x.driven s.lines))).setAlarms (s.alarms.raise s.clock false code subject tag detail).1 := by
  rw [State.raiseCondition_eq]
  simp only [State.setDoor_alarms, State.setDoor_clock, State.modifyDoor, State.setAlarms_door, State.door_setDoor_self,
    State.setDoor_setAlarms, State.setDoor_setDoor]
  by_cases h : (s.alarms.raise s.clock false code subject tag detail).2 = true
  · simp only [if_pos h]
  · simp only [if_neg h]

theorem State.setDoor_congr {s : State} {d : Fin 24} {x y : Door} (h : x.driven s.lines = y.driven s.lines) :
    s.setDoor d x = s.setDoor d y := congrArg (fun z => { s with doors := s.doors.set d z }) h

theorem enterFault_eq (cause : FaultCause) (d : Fin 24) (s : State) :
    enterFault cause d s
      = (s.setDoor d ((s.door d).inDerived (fun cause => (faultRaise s.clock s.alarms d cause).2) (.fault cause))).setAlarms
          (faultRaise s.clock s.alarms d cause).1 := by
  refine (raiseCondition_door s d _ _ _ _ _ _).trans (congrArg (fun u : State => u.setAlarms _) (State.setDoor_congr ?_))
  simp only [Door.inDerived]
  change (if (faultRaise s.clock s.alarms d cause).2 = true then _ else _ : Door).driven s.lines = _
  cases (faultRaise s.clock s.alarms d cause).2
  · rw [Bool.not_false, Bool.or_true]
    rfl
  · rw [Bool.not_true, Bool.or_false]
    rfl

/-- The derived state of a door entered, as one update of its record and the table (R45). -/
theorem deriveDoor_eq (d : Fin 24) (s : State) : ∃ attn, deriveDoor d s
    = { s.setDoor d ((s.door d).inDerived (fun cause => (faultRaise s.clock s.alarms d cause).2)
          ((s.door d).derive (s.trailerHeld d))) with
        alarms := causeRaised s.clock s.alarms d ((s.door d).derive (s.trailerHeld d)).cause?
        attn := attn } := by
  unfold deriveDoor
  cases (s.door d).derive (s.trailerHeld d) with
  | fault cause => exact ⟨_, enterFault_eq cause d s⟩
  | breach => exact ⟨s.attn, rfl⟩
  | vacant => exact ⟨s.attn, rfl⟩
  | sealed => exact ⟨s.attn, rfl⟩
  | sealing => exact ⟨s.attn, rfl⟩
  | docked => exact ⟨s.attn, rfl⟩

/-- The cause with which a door, of a record `x`, derives FAULT, its trailer held as in a state `s` (R45, R65). -/
def State.causeAt (s : State) (d : Fin 24) (x : Door) : Option FaultCause :=
  if x.enabled = true then (x.derive (s.trailerHeld d)).cause? else none

/-- A door's turn of the derivation: its record driven in the derived state where it is enabled, and DOOR_FAULT raised. -/
theorem deriveDoors_turn (s : State) : DoorTurn (fun d s => if (s.door d).enabled then deriveDoor d s else s)
    (fun d x a => if x.enabled = true then
        (x.inDerived (fun cause => (faultRaise s.clock a d cause).2) (x.derive (s.trailerHeld d))).driven s.lines
      else x)
    (fun d x a => causeRaised s.clock a d (s.causeAt d x)) s := by
  intro d t ht
  have hclock := State.frame_clock ht (by decide)
  have hlines := State.frame_lines ht (by decide)
  have hheld : t.trailerHeld d = s.trailerHeld d :=
    State.trailerHeld_congr (State.frame_pallets ht (by decide)) (State.frame_moves ht (by decide)) d
  by_cases h : (t.door d).enabled = true
  · obtain ⟨attn, heq⟩ := deriveDoor_eq d t
    have hframe : t.frame doorFields (deriveDoor d t) := deriveDoor_frame d t
    rw [hclock, hheld] at heq
    simp only [State.causeAt, if_pos h]
    refine ⟨?_, ?_, fun e he => ?_, hframe⟩
    · rw [heq, ← hlines]
      exact State.door_setDoor_self t d _
    · rw [heq]
    · rw [heq]
      exact State.door_setDoor_ne t _ he
  · simp only [State.causeAt, if_neg h]
    exact ⟨trivial, rfl, fun _ _ => trivial, State.frame_refl _ t⟩

/-- The table after the derivations of some doors. -/
def State.raisedBy (s : State) (doors : List (Fin 24)) : AlarmTable :=
  doors.foldl (fun a d => causeRaised s.clock a d (s.causeAt d (s.door d))) s.alarms

/-- A door's record after the derivations of all doors: the raise of its cause comes after those of the doors before it. -/
def State.derivedDoor (s : State) (d : Fin 24) : Door :=
  if (s.door d).enabled = true then
    ((s.door d).inDerived
      (fun cause => (faultRaise s.clock (s.raisedBy ((List.finRange 24).filter fun i => decide (i < d))) d cause).2)
      ((s.door d).derive (s.trailerHeld d))).driven s.lines
  else s.door d

/-- The derivation of every enabled door, in ascending door order (R65). -/
theorem deriveDoors_eq (s : State) : let w := deriveDoors s
    w = { s with doors := w.doors, alarms := s.raisedBy (List.finRange 24), attn := w.attn }
      ∧ ∀ d, w.door d = s.derivedDoor d := by
  obtain ⟨hframe, halarms, hdoor⟩ := (deriveDoors_turn s).all
  have hraised : s.raisedBy (List.finRange 24) = (deriveDoors s).alarms := halarms.symm
  exact ⟨hraised ▸ State.eq_merge hframe, hdoor⟩

theorem Door.inDerived_stateAndCause (x : Door) (entered : FaultCause → Bool) (y : Derived) :
    ((x.inDerived entered y).state, (x.inDerived entered y).faultCause) = y.stateAndCause := by
  cases y <;> rfl

theorem State.derivedDoor_stateAndCause {s : State} {d : Fin 24} (h : (s.door d).enabled = true) :
    ((s.derivedDoor d).state, (s.derivedDoor d).faultCause) = ((s.door d).derive (s.trailerHeld d)).stateAndCause := by
  simp only [State.derivedDoor, if_pos h]
  exact Door.inDerived_stateAndCause _ _ _

/-! ### The rooms' evaluation (R37) -/

theorem evaluateRoom_ne {r i : Fin 8} (h : i ≠ r) (s : State) : (evaluateRoom i s).room r = s.room r := by
  by_cases hevaluates : s.mode = .run ∧ (s.room i).firstVote = true
  · obtain ⟨hmode, hvote⟩ := hevaluates
    rw [evaluateRoom_eq hmode hvote]
    exact State.room_setRoom_ne s _ (Ne.symm h)
  · rw [evaluateRoom, if_neg hevaluates]

/-- Two states with the same mode, the same defrost records and the same record of a room. -/
def State.sameAt (r : Fin 8) (s t : State) : Prop := t.mode = s.mode ∧ t.defrosts = s.defrosts ∧ t.room r = s.room r

/-- A room after the evaluation of every room: as its own evaluation leaves it. -/
theorem evaluateRooms_room (r : Fin 8) {s : State} (hmode : s.mode = .run) :
    ((s.room r).firstVote = false → (forEach 8 evaluateRoom s).room r = s.room r)
    ∧ ((s.room r).firstVote = true →
      (forEach 8 evaluateRoom s).room r = ((s.room r).afterHigh (s.defrost r).state).afterLow) := by
  obtain ⟨t, ⟨hmode', hdefrosts, hroom⟩, -, -, hafter⟩ := forEach_at (f := evaluateRoom) r (State.sameAt r)
    (fun _ => ⟨rfl, rfl, rfl⟩)
    (fun ⟨hm, hd, hr⟩ ⟨hm', hd', hr'⟩ => ⟨hm'.trans hm, hd'.trans hd, hr'.trans hr⟩)
    (fun i s hi => ⟨State.frame_mode (evaluateRoom_frame i s) (by decide),
      State.frame_defrosts (evaluateRoom_frame i s) (by decide), evaluateRoom_ne hi s⟩) s
  rw [hafter, ← hroom]
  refine ⟨fun hvote => by rw [evaluateRoom_idle (.inr hvote)], fun hvote => ?_⟩
  rw [evaluateRoom_eq (hmode'.trans hmode) hvote, State.defrost, State.defrost, hdefrosts]
  exact State.room_setRoom_self t r _

/-- The evaluation of an IDLE room whose temperature alarms are clear: its timers start where F is out of range. -/
theorem Room.evaluated_clear {x : Room} (hhigh : x.highTimer = .stopped) (hlow : x.lowTimer = .stopped)
    (hhighFlag : x.highFlag = false) (hlowFlag : x.lowFlag = false) :
    (x.afterHigh .idle).afterLow
      = { x with
          highTimer := if x.effectiveUpper < x.filtered then .start x.highDelay else .stopped
          lowTimer := if x.filtered < x.lower then .start x.lowDelay else .stopped } := by
  have hreturns : ¬ x.returnsHigh := fun ⟨h, _⟩ => by rw [hhighFlag] at h; cases h
  have hreturns' : ¬ (x.afterHigh .idle).returnsLow := fun ⟨h, _⟩ => by
    rw [Room.afterHigh_kept hreturns, hlowFlag] at h
    cases h
  rw [Room.afterLow_kept hreturns', Room.afterHigh_kept hreturns]
  simp [Room.afterHigh, Room.afterLow, hhigh, hlow, hhighFlag, hlowFlag]

/-! ### The entry into RUN (R176) -/

/-- The first three steps: RUN and phase 0, every room IDLE without frost, the full heater capacity and an empty queue. -/
def State.entering (s : State) : State :=
  { s with
    mode := .run
    phase := 0
    defrosts := mapTable Defrost.entered s.defrosts
    remainingCapacity := s.heaterCapacity
    defrostQueue := [] }

theorem State.entering_defrost (s : State) (r : Fin 8) : s.entering.defrost r = (s.defrost r).entered :=
  mapTable_entry Defrost.entered s.defrosts r

theorem enterRun_eq (s : State) : let v := forEach 8 evaluateRoom (deriveDoors s.entering)
    enterRun s = v.setAlarms (v.alarms.raise s.clock false .operationStarted .none none none).1 := by
  intro v
  have hderived : (deriveDoors s.entering).clock = s.entering.clock :=
    State.frame_clock (deriveDoors_frame s.entering) (by decide)
  have hclock : v.clock = s.clock := (State.frame_clock (frame_forEach evaluateRoom_frame _) (by decide)).trans hderived
  have hposted : enterRun s = v.post .operationStarted .none none := by
    unfold enterRun
    rfl
  rw [hposted, State.post_eq, hclock]

theorem derived_enterRun_frame (s : State) : (deriveDoors s.entering).frame [.rooms, .alarms, .attn] (enterRun s) := by
  rw [enterRun_eq]
  exact State.frame_trans (frame_forEach evaluateRoom_frame _) (frame_setAlarms (by decide) (by decide) _ _)

theorem entering_enterRun_frame (s : State) : s.entering.frame [.rooms, .doors, .alarms, .attn] (enterRun s) :=
  State.frame_trans (State.frame_mono (deriveDoors_frame _) (by decide))
    (State.frame_mono (derived_enterRun_frame s) (by decide))

theorem enterRun_door (s : State) (d : Fin 24) : (enterRun s).door d = s.entering.derivedDoor d := by
  rw [← (deriveDoors_eq s.entering).2 d, State.door, State.frame_doors (derived_enterRun_frame s) (by decide)]
  rfl

theorem enterRun_defrost (s : State) (r : Fin 8) : (enterRun s).defrost r = (s.defrost r).entered := by
  rw [← s.entering_defrost, State.defrost, State.frame_defrosts (entering_enterRun_frame s) (by decide)]
  rfl

theorem enterRun_room (s : State) (r : Fin 8) :
    ((s.room r).firstVote = false → (enterRun s).room r = s.room r)
    ∧ ((s.room r).firstVote = true → (enterRun s).room r = ((s.room r).afterHigh .idle).afterLow) := by
  have hframe := deriveDoors_frame s.entering
  have hroom : (deriveDoors s.entering).room r = s.room r := by
    rw [State.room, State.frame_rooms hframe (by decide)]
    rfl
  have hidle : ((deriveDoors s.entering).defrost r).state = .idle := by
    rw [State.defrost, State.frame_defrosts hframe (by decide)]
    exact congrArg Defrost.state (s.entering_defrost r)
  have hrooms := evaluateRooms_room r (s := deriveDoors s.entering) (State.frame_mode hframe (by decide))
  rw [hroom, hidle] at hrooms
  have hposted := enterRun_eq s
  generalize forEach 8 evaluateRoom (deriveDoors s.entering) = v at hrooms hposted
  rw [hposted]
  exact hrooms

/-! ### The flag's own port is not read by the entry -/

theorem State.entering_raisedBy (p : Port) (s : State) (doors : List (Fin 24)) :
    (s.completing p).entering.raisedBy doors = s.raisedBy doors := rfl

theorem State.entering_derivedDoor (p : Port) (s : State) (d : Fin 24) :
    (s.completing p).entering.derivedDoor d = s.derivedDoor d := rfl

/-- The doors' part of the entry: the state before the rooms' evaluation. -/
theorem deriveDoors_entering (p : Port) (s : State) : let w := deriveDoors (s.completing p).entering
    w = { s.completing p with
        mode := .run, phase := 0, remainingCapacity := s.heaterCapacity, defrostQueue := [], defrosts := w.defrosts
        doors := w.doors, alarms := s.raisedBy (List.finRange 24), attn := w.attn }
      ∧ (∀ r, w.defrost r = (s.defrost r).entered) ∧ ∀ d, w.door d = s.derivedDoor d := by
  obtain ⟨hrecord, hdoor⟩ := deriveDoors_eq (s.completing p).entering
  have hdefrosts : (deriveDoors (s.completing p).entering).defrosts = (s.completing p).entering.defrosts :=
    State.frame_defrosts (deriveDoors_frame _) (by decide)
  refine ⟨hrecord.trans ?_, fun r => ?_, hdoor⟩
  · rw [hdefrosts, State.entering_raisedBy]
    rfl
  · rw [State.defrost, hdefrosts]
    exact (s.completing p).entering_defrost r

/-- Settles O51: the reply by the flags and the checks, the entry by its doors' derivations and its rooms' evaluations. -/
theorem setupCompleteValidates : Obligations.SetupCompleteValidates := by
  intro p tag s hready hmode
  have taken : ∀ {a : Answer}, setupComplete p s = a →
      exec (.setupComplete p tag) s = .next (serve p (Request.setupComplete.frame tag) a) := by
    intro a ha
    exact congrArg Host.Outcome.next ((requestArrives_performs hready tag (r := .setupComplete) rfl (.inl rfl)
      (State.takes_setup p hmode rfl)).trans (congrArg (serve p _) ha))
  refine ⟨fun h => taken (setupComplete_waits h), fun h check index hfails => taken (setupComplete_rejects h hfails),
    fun h hpasses => ⟨taken (setupComplete_enters h hpasses), ?_⟩, ?_, fun d => ⟨s.trailerHeld_eq_true d, fun held => ?_⟩⟩
  · have hframe := entering_enterRun_frame (s.completing p)
    refine ⟨State.frame_mode hframe (by decide), State.frame_phase hframe (by decide),
      (State.frame_clock hframe (by decide)).trans rfl, State.frame_remainingCapacity hframe (by decide),
      State.frame_defrostQueue hframe (by decide), fun r => ?_, ?_, (State.frame_pallets hframe (by decide)).trans rfl,
      (State.frame_moves hframe (by decide)).trans rfl, (State.frame_journal hframe (by decide)).trans rfl, fun d hd => ?_⟩
    · rw [enterRun_defrost]
      exact ⟨rfl, rfl⟩
    · obtain ⟨hrecord, hdefrost, hdoor⟩ := deriveDoors_entering p s
      refine ⟨deriveDoors (s.completing p).entering, hrecord, hdefrost, hdoor, enterRun_eq (s.completing p), fun r =>
        ⟨(enterRun_room (s.completing p) r).1, fun hvote hhigh hlow hhighFlag hlowFlag => ?_⟩⟩
      exact ((enterRun_room (s.completing p) r).2 hvote).trans (Room.evaluated_clear hhigh hlow hhighFlag hlowFlag)
    · rw [enterRun_door]
      exact State.derivedDoor_stateAndCause hd
  · exact ⟨State.validate_eq_none, fun d => State.validate_door, fun doors r => State.validate_probe doors,
      fun doors probes r => State.validate_load doors probes,
      fun doors probes loads c => State.validate_budget doors probes loads⟩
  · exact (s.door d).derive_stateAndCause held

end Sys2Proof.Machine
end

section
/-! PROOFS. The Door Unit on a sample strobe (R38) and on the expiries of its timers (R49, R54, R55, R57). -/

namespace Sys2Proof.Machine

set_option Elab.async false

/-! ### The sample strobe (R38) -/

/-- A strobe's turn at each door, read from the levels and lines of the state before it. -/
theorem sampleStrobe_door (tp pc sm : BitVec 24) (s : State) (d : Fin 24) :
    (sampleStrobe tp pc sm s).door d = ((s.door d).sample s.lines tp[d] pc[d] sm[d]).driven s.lines := by
  obtain ⟨s1, ⟨hlines, hdoor⟩, -, hafter⟩ := forEach_at d
    (f := fun d s => s.modifyDoor d fun x => x.sample s.lines tp[d] pc[d] sm[d])
    (fun s t : State => t.lines = s.lines ∧ t.door d = s.door d) (fun _ => ⟨rfl, rfl⟩)
    (fun ⟨hl, hd⟩ ⟨hl', hd'⟩ => ⟨hl'.trans hl, hd'.trans hd⟩)
    (fun e s he => ⟨rfl, State.door_setDoor_ne s _ (Ne.symm he)⟩) s
  rw [sampleStrobe, hafter, State.modifyDoor, State.door_setDoor_self, hlines, hdoor]

/-- Sampling leaves the outputs. -/
theorem Door.sample_driven (x : Door) (lines : LineSettings) (tp pc sm : Bool) :
    (x.sample lines tp pc sm).driven lines = (x.driven lines).sample lines tp pc sm := rfl

/-- Settles O28: each door's turn reads its own record alone. -/
theorem strobeSamplesEveryInput : Obligations.StrobeSamplesEveryInput := by
  intro tp pc sm s houtputs
  refine ⟨_, rfl, State.eq_merge (sampleStrobe_frame tp pc sm s), fun d => ?_⟩
  rw [sampleStrobe_door, Door.sample_driven, ← houtputs d]
  rfl

/-! ### Timer expiries (R49, R54, R55, R57) -/

theorem expireSeal_of_due {d : Fin 24} {s : State} (hstate : (s.door d).state = .sealing)
    (hdue : (s.door d).sealTimer = .running 0) :
    expireSeal d s = (s.post .sealTimeout (.door d) none).setDoor d
      (if s.trailerHeld d = true then { s.door d with sealTimer := .start (s.door d).sealLimit }
        else (s.door d).enter .docked) := by
  rw [expireSeal, if_pos ⟨hstate, (Timer.due_iff _).mpr hdue⟩]
  cases s.trailerHeld d <;> rfl

theorem expireBreach_of_due {d : Fin 24} {s : State} (hstate : (s.door d).state = .breach)
    (hdue : (s.door d).breachTimer = .running 0) :
    expireBreach d s = (s.setDoor d
      { s.door d with
        breachTimer := .stopped, breachFlag := true
        breachUnposted := (s.door d).breachUnposted
          || !(s.alarms.raise s.clock false .doorBreach (.door d) none none).2 }).setAlarms
        (s.alarms.raise s.clock false .doorBreach (.door d) none none).1 := by
  rw [expireBreach, if_pos ⟨hstate, (Timer.due_iff _).mpr hdue⟩]
  refine (raiseCondition_door s d _ _ _ _ _ _).trans (congrArg (fun u : State => u.setAlarms _) (State.setDoor_congr ?_))
  cases (s.alarms.raise s.clock false .doorBreach (.door d) none none).2
  · rw [Bool.not_false, Bool.or_true]
    rfl
  · rw [Bool.not_true, Bool.or_false]
    rfl

theorem expireRelease_of_due {d : Fin 24} {s : State} (hstate : (s.door d).state = .releasing)
    (hdue : (s.door d).releaseTimer = .running 0) :
    expireRelease d s = if (s.door d).sm.level = true then enterFault .sealStuck d s
      else if (s.door d).tp.level = true then enterDocked d s else enterVacant d s :=
  if_pos ⟨hstate, (Timer.due_iff _).mpr hdue⟩

/-- Settles O31: each expiry by its own equation, and the entry into FAULT by its record and raise. -/
theorem doorTimerExpiries : Obligations.DoorTimerExpiries := by
  refine ⟨fun d s => ⟨fun hstate hdue => ?_, fun hstate hdue => ?_, fun hstate hdue => ?_⟩, fun cause d s => ?_⟩
  · exact congrArg _ (expireSeal_of_due hstate hdue)
  · exact congrArg _ (expireBreach_of_due hstate hdue)
  · have hrelease := expireRelease_of_due hstate hdue
    refine ⟨fun hsm => ?_, fun hsm htp => ?_, fun hsm htp => ?_⟩
    · rw [if_pos hsm] at hrelease
      exact congrArg _ hrelease
    · rw [hsm, if_neg nofun, if_pos htp] at hrelease
      exact congrArg _ hrelease
    · rw [hsm, if_neg nofun, htp, if_neg nofun] at hrelease
      exact congrArg _ hrelease
  · have henter := enterFault_eq cause d s
    refine ⟨henter, ?_, ?_⟩
    · rw [henter, State.setAlarms_door, State.door_setDoor_self]
      rfl
    · rw [henter, State.setAlarms_door, State.door_setDoor_self]
      exact Bool.or_false _

end Sys2Proof.Machine
end

section
/-! PROOFS. The table after R55 at work: every transition as the entry of the state that the table names (R44 to R57). -/

namespace Sys2Proof.Machine

set_option Elab.async false

/-! ### Entering a state (R41, R49 to R57) -/

/-- A state with its fault cause entered, `origin` the breach origin mark of an entry into BREACH. -/
def enterState (next : DoorState × FaultCause) (origin : Bool) (d : Fin 24) (s : State) : State :=
  match next.1 with
  | .vacant => enterVacant d s
  | .docked => enterDocked d s
  | .sealing => enterSealing d s
  | .sealed => enterSealed d s
  | .working => enterWorking d s
  | .breach => enterBreach origin d s
  | .releasing => enterReleasing d s
  | .fault => enterFault next.2 d s

/-- A derived state is entered as any other (R45). -/
theorem deriveDoor_enters (d : Fin 24) (s : State) :
    deriveDoor d s = enterState ((s.door d).derive (s.trailerHeld d)).stateAndCause false d s := by
  rw [deriveDoor]
  cases (s.door d).derive (s.trailerHeld d) <;> rfl

theorem leaveBreach_door (d : Fin 24) (s : State) : (leaveBreach d s).door d
    = Door.driven { s.door d with breachFlag := false, breachUnposted := false } s.lines :=
  State.door_setDoor_self s d _

theorem leaveBreach_trailerHeld (d : Fin 24) (s : State) : (leaveBreach d s).trailerHeld d = s.trailerHeld d := rfl

theorem Door.derive_leaveBreach (d : Fin 24) (s : State) (held : Bool) :
    ((leaveBreach d s).door d).derive held = (s.door d).derive held := by
  rw [leaveBreach_door]
  rfl

/-- With its panel closed a door derives another state than BREACH (R45). -/
theorem Door.derive_ne_breach {x : Door} (h : x.pc.level = true) (held : Bool) :
    (x.derive held).stateAndCause.1 ≠ .breach := by
  rw [Door.derive_stateAndCause, h]
  split_ifs <;> simp_all

/-- The state a door is in after a debounced change, by the table after R55. -/
def State.nextAt (s : State) (d : Fin 24) (i : DoorInput) (level : Bool) : DoorState × FaultCause :=
  (s.door d).tableAfter (s.trailerHeld d) i level

/-- What the table makes of a debounced change: the door stays, or it enters the state named, out of BREACH by its exit. -/
def tableStep (i : DoorInput) (level : Bool) (d : Fin 24) (s : State) : State :=
  if (s.nextAt d i level).1 = (s.door d).state then s
  else enterState (s.nextAt d i level) (decide ((s.door d).state = .working ∧ i = .sm)) d
    (if (s.door d).state = .breach then leaveBreach d s else s)

section
variable (d : Fin 24) (s : State)

theorem doorTrailerArrives_eq : doorTrailerArrives d s = tableStep .tp true d s := by
  unfold doorTrailerArrives tableStep State.nextAt Door.tableAfter
  cases h : (s.door d).state <;> simp [enterState]

theorem doorTrailerLeaves_eq : doorTrailerLeaves d s = tableStep .tp false d s := by
  unfold doorTrailerLeaves tableStep State.nextAt Door.tableAfter
  cases h : (s.door d).state
  case sealing => cases s.trailerHeld d <;> simp [enterState]
  all_goals simp [enterState]

theorem doorPanelOpens_eq : doorPanelOpens d s = tableStep .pc false d s := by
  unfold doorPanelOpens tableStep State.nextAt Door.tableAfter
  dsimp only
  cases h : (s.door d).state
  case sealed => by_cases hpermit : (s.door d).permit = .given ∨ (s.door d).override = true <;> simp [enterState, hpermit]
  all_goals simp [enterState]

theorem doorSealMade_eq : doorSealMade d s = tableStep .sm true d s := by
  unfold doorSealMade tableStep State.nextAt Door.tableAfter
  dsimp only
  cases h : (s.door d).state
  case breach => by_cases hopen : (s.door d).pc.level = false ∧ (s.door d).tp.level = true <;> simp [enterState, hopen]
  all_goals simp [enterState]

theorem doorSealLost_eq : doorSealLost d s = tableStep .sm false d s := by
  unfold doorSealLost tableStep State.nextAt Door.tableAfter
  cases h : (s.door d).state <;> simp [enterState]

variable {d s} in
theorem doorPanelCloses_eq (hclosed : (s.door d).pc.level = true) : doorPanelCloses d s = tableStep .pc true d s := by
  have hleaves := Door.derive_ne_breach hclosed (s.trailerHeld d)
  unfold doorPanelCloses tableStep State.nextAt Door.tableAfter
  cases h : (s.door d).state
  case breach => simp [deriveDoor_enters, Door.derive_leaveBreach, leaveBreach_trailerHeld, hleaves]
  all_goals simp [enterState]

end

/-- Each transition is the table's step (R47 to R55). -/
theorem doorTransition_eq {i : DoorInput} {level : Bool} {d : Fin 24} {s : State}
    (hlevel : ((s.door d).input i).level = level) : doorTransition i level d s = tableStep i level d s := by
  unfold doorTransition
  split
  · exact doorTrailerArrives_eq d s
  · exact doorTrailerLeaves_eq d s
  · exact doorPanelCloses_eq hlevel
  · exact doorPanelOpens_eq d s
  · exact doorSealMade_eq d s
  · exact doorSealLost_eq d s

/-! ### What an entry writes (R41, R49 to R57, R64) -/

/-- A door's record in a state with its fault cause; `origin` is the breach origin mark of an entry into BREACH, and `entered`
tells whether the raise of an entry into FAULT found a place. -/
def Door.inState (x : Door) (next : DoorState × FaultCause) (origin entered : Bool) : Door :=
  { x with
    state := next.1
    permit := .none
    closeMark := false
    breachOrigin := decide (next.1 = .breach) && origin
    faultCause := if next.1 = .fault then next.2 else .none
    sealTimer := if next.1 = .sealing then .start x.sealLimit else .stopped
    breachTimer := if next.1 = .breach then .start x.breachGrace else .stopped
    releaseTimer := if next.1 = .releasing then .start x.releaseTime else .stopped
    trailerTemp := if next.1 = .vacant ∨ next.1 = .releasing then none else x.trailerTemp
    faultFlag := x.faultFlag || decide (next.1 = .fault)
    faultUnposted := x.faultUnposted || decide (next.1 = .fault) && !entered }

theorem Door.inState_driven (x : Door) (lines : LineSettings) (next : DoorState × FaultCause) (origin entered : Bool) :
    ((x.driven lines).inState next origin entered).driven lines = (x.inState next origin entered).driven lines := rfl

/-- The raise that an entry into FAULT makes, and none for another state: the table, and whether the raise found a place. -/
def stateRaise (now : Word32) (a : AlarmTable) (d : Fin 24) (next : DoorState × FaultCause) : AlarmTable × Bool :=
  if next.1 = .fault then faultRaise now a d next.2 else (a, true)

/-- The state with another table and other attention lines. -/
def State.withTable (s : State) (a : AlarmTable) (attn : PerPort Bool) : State := { s with alarms := a, attn := attn }

section
variable (s : State) (a : AlarmTable) (attn : PerPort Bool)

@[simp] theorem State.withTable_door (d : Fin 24) : (s.withTable a attn).door d = s.door d := rfl

@[simp] theorem State.withTable_lines : (s.withTable a attn).lines = s.lines := rfl

@[simp] theorem State.withTable_clock : (s.withTable a attn).clock = s.clock := rfl

@[simp] theorem State.withTable_alarms : (s.withTable a attn).alarms = a := rfl

@[simp] theorem State.withTable_setDoor (d : Fin 24) (x : Door) :
    (s.withTable a attn).setDoor d x = (s.setDoor d x).withTable a attn := rfl

@[simp] theorem State.withTable_withTable (a' : AlarmTable) (attn' : PerPort Bool) :
    (s.withTable a attn).withTable a' attn' = s.withTable a' attn' := rfl

end

/-- An entry writes the door's record and makes the raise of FAULT. -/
theorem enterState_eq (next : DoorState × FaultCause) (origin : Bool) (d : Fin 24) (s : State) :
    ∃ attn, enterState next origin d s
      = (s.setDoor d ((s.door d).inState next origin (stateRaise s.clock s.alarms d next).2)).withTable
          (stateRaise s.clock s.alarms d next).1 attn := by
  obtain ⟨state, cause⟩ := next
  have plain : ∀ y : Door, y = (s.door d).inState (state, cause) origin true → state ≠ .fault →
      ∃ attn, s.setDoor d y
        = (s.setDoor d ((s.door d).inState (state, cause) origin (stateRaise s.clock s.alarms d (state, cause)).2)).withTable
            (stateRaise s.clock s.alarms d (state, cause)).1 attn := by
    rintro y rfl hfault
    rw [stateRaise, if_neg hfault]
    exact ⟨s.attn, rfl⟩
  cases state with
  | fault =>
    refine ⟨_, (enterFault_eq cause d s).trans (congrArg (fun u : State => u.setAlarms _) (congrArg (s.setDoor d) ?_))⟩
    simp [Door.inDerived, Door.inState, stateRaise, Door.enter]
  | _ => exact plain _ (by simp [Door.inState, Door.enter]) nofun

/-! ### The table's targets (R44, R45) -/

theorem Derived.stateAndCause_fst_ne_releasing (y : Derived) : y.stateAndCause.1 ≠ .releasing := by cases y <;> nofun

theorem Derived.stateAndCause_none {y : Derived} (h : y.stateAndCause.1 ≠ .fault) : y.stateAndCause.2 = .none := by
  cases y with
  | fault => exact absurd rfl h
  | _ => rfl

/-- A change that leaves the state leaves the fault cause (R44). -/
theorem Door.tableAfter_stays {x : Door} {held : Bool} {i : DoorInput} {level : Bool} (hlevel : (x.input i).level = level)
    (h : (x.tableAfter held i level).1 = x.state) : (x.tableAfter held i level).2 = x.faultCause := by
  have hclosed : i = .pc → level = true → (x.derive held).stateAndCause.1 ≠ .breach := by
    rintro rfl rfl
    exact Door.derive_ne_breach hlevel held
  revert h hclosed
  unfold Door.tableAfter
  split <;> simp_all <;> split_ifs <;> simp

/-- A door in FAULT stays there, whatever changes (R57). -/
theorem Door.tableAfter_fault {x : Door} (h : x.state = .fault) (held : Bool) (i : DoorInput) (level : Bool) :
    (x.tableAfter held i level).1 = x.state := by
  unfold Door.tableAfter
  split <;> simp_all

/-- A change of state leads to a state other than RELEASING, and to a cause in FAULT alone. -/
theorem Door.tableAfter_moves {x : Door} {held : Bool} {i : DoorInput} {level : Bool}
    (h : (x.tableAfter held i level).1 ≠ x.state) : (x.tableAfter held i level).1 ≠ .releasing
      ∧ ((x.tableAfter held i level).1 ≠ .fault → (x.tableAfter held i level).2 = .none) := by
  revert h
  unfold Door.tableAfter
  split
  case h_17 => exact fun _ => ⟨(x.derive held).stateAndCause_fst_ne_releasing, Derived.stateAndCause_none⟩
  all_goals simp_all
  all_goals split_ifs <;> simp

/-! ### A debounced change at the state machine (R44, R54, R61, R64) -/

/-- A door's record after a debounced change that leads to a state and cause, `entered` as for `Door.inState`. -/
def Door.afterEvent (x : Door) (i : DoorInput) (level : Bool) (next : DoorState × FaultCause) (entered : Bool) : Door :=
  { x with
    state := next.1
    faultCause := next.2
    permit := if next.1 ≠ x.state then .none else x.permit
    closeMark := if next.1 ≠ x.state then false else x.closeMark
    breachOrigin :=
      if next.1 ≠ x.state then decide (next.1 = .breach ∧ x.state = .working ∧ i = .sm) else x.breachOrigin
    sealTimer :=
      if next.1 ≠ x.state then (if next.1 = .sealing then .start x.sealLimit else .stopped) else x.sealTimer
    breachTimer :=
      if next.1 = .breach then .start x.breachGrace else if next.1 ≠ x.state then .stopped else x.breachTimer
    releaseTimer := if next.1 ≠ x.state then .stopped else x.releaseTimer
    trailerTemp := if i = .tp ∧ level = false ∨ next.1 ≠ x.state ∧ next.1 = .vacant then none else x.trailerTemp
    breachFlag := if x.state = .breach ∧ next.1 ≠ .breach then false else x.breachFlag
    breachUnposted := if x.state = .breach ∧ next.1 ≠ .breach then false else x.breachUnposted
    faultFlag := if x.state ≠ .fault ∧ next.1 = .fault then true else x.faultFlag
    faultUnposted := if x.state ≠ .fault ∧ next.1 = .fault then x.faultUnposted || !entered else x.faultUnposted }

/-- The table once a door has left BREACH, where the change takes it out (R54, R64). -/
def Door.returned (x : Door) (a : AlarmTable) (d : Fin 24) (next : DoorState × FaultCause) : AlarmTable :=
  if x.state = .breach ∧ next.1 ≠ .breach then a.return .doorBreach (.door d) else a

/-- The table once a door has left its state and entered the next, and whether DOOR_FAULT found a place (R57, R64). -/
def Door.raised (x : Door) (now : Word32) (a : AlarmTable) (d : Fin 24) (next : DoorState × FaultCause) : AlarmTable × Bool :=
  if x.state ≠ .fault ∧ next.1 = .fault then faultRaise now (x.returned a d next) d next.2 else (x.returned a d next, true)

/-- The record with the trailer temperature cleared by a loss of TP (R61). -/
def Door.withoutTrailer (x : Door) (i : DoorInput) (level : Bool) : Door :=
  { x with trailerTemp := if i = .tp ∧ level = false then none else x.trailerTemp }

/-- The record out of BREACH, where it was there (R54, R64). -/
def Door.left (x : Door) : Door :=
  { x with
    breachFlag := if x.state = .breach then false else x.breachFlag
    breachUnposted := if x.state = .breach then false else x.breachUnposted }

section
variable {i : DoorInput} {level : Bool} {d : Fin 24} {s : State} {x : Door}

theorem doorEvent_eq : doorEvent i level d (s.setDoor d x)
    = restartGrace x.state d (doorTransition i level d (s.setDoor d (x.withoutTrailer i level))) := by
  have hstate : ((s.setDoor d x).door d).state = x.state := by rw [State.door_setDoor_self]; rfl
  simp only [doorEvent, hstate]
  by_cases h : i = .tp ∧ level = false
  · have hclear : (s.setDoor d x).modifyDoor d (fun x => { x with trailerTemp := none }) = s.setDoor d (x.withoutTrailer i level) := by
      simp only [State.modifyDoor, State.setDoor_setDoor, State.door_setDoor_self, Door.withoutTrailer, if_pos h]
      rfl
    rw [if_pos h, hclear]
  · simp only [if_neg h, Door.withoutTrailer]

theorem left_eq : ∃ attn, (if x.state = .breach then leaveBreach d (s.setDoor d x) else s.setDoor d x)
    = (s.setDoor d x.left).withTable (if x.state = .breach then s.alarms.return .doorBreach (.door d) else s.alarms)
        attn := by
  by_cases h : x.state = .breach
  · simp only [if_pos h, Door.left, leaveBreach, State.modifyDoor, State.setDoor_setDoor, State.door_setDoor_self]
    exact ⟨_, rfl⟩
  · simp only [if_neg h, Door.left]
    exact ⟨_, rfl⟩

/-- A door whose state the table leaves: its grace starts again in BREACH (R44, R54). -/
theorem doorEvent_stays (hlevel : (x.input i).level = level)
    (hstays : (x.tableAfter (s.trailerHeld d) i level).1 = x.state) :
    doorEvent i level d (s.setDoor d x) = s.setDoor d (x.afterEvent i level (x.tableAfter (s.trailerHeld d) i level) true) := by
  have hcause := Door.tableAfter_stays hlevel hstays
  have hdoor := State.door_setDoor_self s d (x.withoutTrailer i level)
  have hkept : tableStep i level d (s.setDoor d (x.withoutTrailer i level)) = s.setDoor d (x.withoutTrailer i level) := by
    refine if_pos ?_
    rw [State.nextAt, hdoor]
    exact hstays
  rw [doorEvent_eq, doorTransition_eq (by rw [hdoor]; cases i <;> exact hlevel), hkept, restartGrace, hdoor]
  generalize x.tableAfter (s.trailerHeld d) i level = next at hstays hcause
  obtain ⟨state, cause⟩ := next
  obtain rfl : state = x.state := hstays
  obtain rfl : cause = x.faultCause := hcause
  by_cases hbreach : x.state = .breach
  · rw [if_pos ⟨hbreach, hbreach⟩, State.modifyDoor, State.setDoor_setDoor, hdoor]
    refine State.setDoor_congr ?_
    change Door.driven { x.withoutTrailer i level with breachTimer := .start x.breachGrace } s.lines = _
    refine congrArg (fun y : Door => y.driven s.lines) ?_
    simp [Door.withoutTrailer, Door.afterEvent, hbreach]
  · rw [if_neg fun ⟨h, _⟩ => hbreach h]
    refine congrArg (s.setDoor d) ?_
    simp [Door.withoutTrailer, Door.afterEvent, hbreach]

/-- The record that a move leaves: out of BREACH and into the next state. -/
theorem Door.inState_left {next : DoorState × FaultCause} (hmoves : next.1 ≠ x.state) (hfault : x.state ≠ .fault)
    (hrelease : next.1 ≠ .releasing) (hcause : next.1 ≠ .fault → next.2 = .none) (entered : Bool) :
    (x.withoutTrailer i level).left.inState next (decide (x.state = .working ∧ i = .sm)) entered
      = x.afterEvent i level next entered := by
  have hbreach : x.state = .breach → next.1 ≠ .breach := fun h h' => hmoves (h'.trans h.symm)
  simp only [Door.inState, Door.left, Door.withoutTrailer, Door.afterEvent, Door.mk.injEq]
  simp [hmoves, hrelease, hfault]
  grind

theorem stateRaise_left {next : DoorState × FaultCause} (hmoves : next.1 ≠ x.state) (hfault : x.state ≠ .fault) :
    stateRaise s.clock (if x.state = .breach then s.alarms.return .doorBreach (.door d) else s.alarms) d next
      = x.raised s.clock s.alarms d next := by
  have hbreach : x.state = .breach ↔ x.state = .breach ∧ next.1 ≠ .breach :=
    ⟨fun h => ⟨h, fun h' => hmoves (h'.trans h.symm)⟩, And.left⟩
  rw [stateRaise, Door.raised, Door.returned, if_congr hbreach rfl rfl]
  exact if_congr ⟨fun h => ⟨hfault, h⟩, And.right⟩ rfl rfl

/-- A door that the table moves: out of its state, and into the next (R45 to R57). -/
theorem doorEvent_moves (hlevel : (x.input i).level = level) {next : DoorState × FaultCause}
    (hnext : x.tableAfter (s.trailerHeld d) i level = next) (hmoves : next.1 ≠ x.state) :
    ∃ attn, doorEvent i level d (s.setDoor d x)
      = (s.setDoor d (x.afterEvent i level next (x.raised s.clock s.alarms d next).2)).withTable
          (x.raised s.clock s.alarms d next).1 attn := by
  have hdoor := State.door_setDoor_self s d (x.withoutTrailer i level)
  have hat : (s.setDoor d (x.withoutTrailer i level)).nextAt d i level = next := by
    rw [State.nextAt, hdoor, ← hnext]
    rfl
  have hfault : x.state ≠ .fault := fun h => hmoves (hnext ▸ Door.tableAfter_fault h _ i level)
  obtain ⟨hrelease, hcause⟩ := Door.tableAfter_moves (hnext.symm ▸ hmoves)
  rw [hnext] at hrelease hcause
  obtain ⟨attn, hleft⟩ := left_eq (s := s) (d := d) (x := x.withoutTrailer i level)
  have hstate : ((x.withoutTrailer i level).driven s.lines).state = x.state := rfl
  have hstep : tableStep i level d (s.setDoor d (x.withoutTrailer i level)) = enterState next
      (decide (x.state = .working ∧ i = .sm)) d ((s.setDoor d (x.withoutTrailer i level).left).withTable
        (if x.state = .breach then s.alarms.return .doorBreach (.door d) else s.alarms) attn) := by
    rw [tableStep, hat, hdoor, hstate, if_neg hmoves]
    exact congrArg (enterState next _ d) hleft
  obtain ⟨attn', henter⟩ := enterState_eq next (decide (x.state = .working ∧ i = .sm)) d
    ((s.setDoor d (x.withoutTrailer i level).left).withTable
      (if x.state = .breach then s.alarms.return .doorBreach (.door d) else s.alarms) attn)
  simp only [State.withTable_door, State.withTable_setDoor, State.withTable_withTable, State.withTable_clock,
    State.withTable_alarms, State.door_setDoor_self, State.setDoor_setDoor, State.setDoor_clock,
    stateRaise_left hmoves hfault] at henter
  have hrecord : s.setDoor d (((x.withoutTrailer i level).left.driven s.lines).inState next
      (decide (x.state = .working ∧ i = .sm)) (x.raised s.clock s.alarms d next).2)
        = s.setDoor d (x.afterEvent i level next (x.raised s.clock s.alarms d next).2) :=
    State.setDoor_congr ((Door.inState_driven _ _ _ _ _).trans (congrArg (fun y : Door => y.driven s.lines)
      (Door.inState_left (level := level) (i := i) hmoves hfault hrelease hcause _)))
  refine ⟨attn', ?_⟩
  rw [doorEvent_eq, doorTransition_eq (by rw [hdoor]; cases i <;> exact hlevel), hstep, henter, hrecord]
  refine if_neg fun ⟨h, h'⟩ => hmoves ?_
  rw [State.withTable_door, State.door_setDoor_self] at h'
  exact h'.trans h.symm

theorem Door.raised_stays {next : DoorState × FaultCause} (hstays : next.1 = x.state) (now : Word32) (a : AlarmTable) :
    x.raised now a d next = (a, true) := by
  rw [Door.raised, Door.returned, if_neg fun ⟨h, h'⟩ => h (hstays.symm.trans h'), if_neg fun ⟨h, h'⟩ => h' (hstays.trans h)]

/-- A debounced change at the state machine: the record, the table, and nothing else (R44 to R57). -/
theorem doorEvent_outcome (hlevel : (x.input i).level = level) {next : DoorState × FaultCause}
    (hnext : x.tableAfter (s.trailerHeld d) i level = next) :
    ∃ attn, doorEvent i level d (s.setDoor d x)
      = (s.setDoor d (x.afterEvent i level next (x.raised s.clock s.alarms d next).2)).withTable
          (x.raised s.clock s.alarms d next).1 attn := by
  by_cases hstays : next.1 = x.state
  · refine ⟨s.attn, ?_⟩
    rw [doorEvent_stays hlevel (hnext.symm ▸ hstays), hnext, Door.raised_stays hstays]
    rfl
  · exact doorEvent_moves hlevel hnext hstays

end

/-! ### A debounced change taken (R38, R40, R44) -/

theorem Door.input_setInput (x : Door) (i : DoorInput) (l : InputLine) : (x.setInput i l).input i = l := by
  cases i <;> rfl

theorem Door.input_setInput_ne (x : Door) {i j : DoorInput} (h : j ≠ i) (l : InputLine) :
    (x.setInput i l).input j = x.input j := by
  cases i <;> cases j <;> first | rfl | exact absurd rfl h

theorem Door.input_afterEvent (x : Door) (i j : DoorInput) (level : Bool) (next : DoorState × FaultCause) (entered : Bool) :
    (x.afterEvent i level next entered).input j = x.input j := by
  cases j <;> rfl

/-- The record with one input changed (R38, R40). -/
def Door.turned (x : Door) (i : DoorInput) : Door := x.setInput i (x.input i).change

/-- A change taken where the state machine does not run writes the input alone (R44). -/
theorem takeChange_quiet {d : Fin 24} {i : DoorInput} {s : State} (h : s.mode = .setup ∨ (s.door d).enabled = false) :
    takeChange d i s = s.setDoor d ((s.door d).turned i) := by
  refine if_neg ?_
  rintro ⟨hmode, henabled⟩
  obtain h | h := h
  · rw [hmode] at h
    cases h
  · rw [h] at henabled
    cases henabled

/-- A change taken at an enabled door in RUN follows the table after R55. -/
theorem takeChange_runs {d : Fin 24} {i : DoorInput} {s : State} (hmode : s.mode = .run) (henabled : (s.door d).enabled = true)
    {next : DoorState × FaultCause}
    (hnext : ((s.door d).turned i).tableAfter (s.trailerHeld d) i ((s.door d).input i).change.level = next) :
    ∃ attn, takeChange d i s
      = (s.setDoor d (((s.door d).turned i).afterEvent i ((s.door d).input i).change.level next
          (((s.door d).turned i).raised s.clock s.alarms d next).2)).withTable
        (((s.door d).turned i).raised s.clock s.alarms d next).1 attn := by
  have htake : takeChange d i s = doorEvent i ((s.door d).input i).change.level d (s.setDoor d ((s.door d).turned i)) :=
    if_pos ⟨hmode, henabled⟩
  rw [htake]
  exact doorEvent_outcome (congrArg InputLine.level (Door.input_setInput _ i _)) hnext

theorem debouncedChange_of_due {d : Fin 24} {i : DoorInput} {s : State} (h : ((s.door d).input i).changeDue = true) :
    debouncedChange d i s = takeChange d i (settleDoor d s) := if_pos h

/-- Whatever the state machine makes of it, a change taken turns its input, and leaves the other inputs and doors (R38, R40). -/
theorem takeChange_inputs (d : Fin 24) (i : DoorInput) (s : State) :
    (∀ j, ((takeChange d i s).door d).input j = ((s.door d).turned i).input j)
      ∧ ∀ d', d' ≠ d → (takeChange d i s).door d' = s.door d' := by
  have hwrites : ∀ x : Door, (∀ j, x.input j = ((s.door d).turned i).input j) → (∀ j, ((s.setDoor d x).door d).input j
      = ((s.door d).turned i).input j) ∧ ∀ d', d' ≠ d → (s.setDoor d x).door d' = s.door d' := fun x hx =>
    ⟨fun j => by rw [State.door_setDoor_self, Door.input_driven, hx], fun d' hd => State.door_setDoor_ne s x hd⟩
  by_cases h : s.mode = .run ∧ (s.door d).enabled = true
  · obtain ⟨attn, htake⟩ := takeChange_runs (i := i) h.1 h.2 rfl
    rw [htake]
    exact hwrites _ fun j => Door.input_afterEvent _ _ _ _ _ _
  · rw [show takeChange d i s = s.setDoor d ((s.door d).turned i) from if_neg h]
    exact hwrites _ fun _ => rfl

/-- Settles O29: the change is taken in the state in which the door's expiries have been taken. -/
theorem debouncedChangeSetsItsEdge : Obligations.DebouncedChangeSetsItsEdge := by
  intro d i before _ hdue s
  obtain ⟨hinputs, hdoors⟩ := takeChange_inputs d i s
  have hown : ((takeChange d i s).door d).input i = ((s.door d).input i).change :=
    (hinputs i).trans (Door.input_setInput _ i _)
  refine ⟨takeChange d i s, congrArg _ (debouncedChange_of_due hdue), hown, fun j hj => ?_, hdoors,
    State.eq_merge (takeChange_frame d i s), fun hquiet => ?_⟩
  · rw [hinputs, Door.turned, Door.input_setInput_ne _ hj]
  · rw [hown]
    exact takeChange_quiet hquiet

/-- The record that the table's step leaves, as R44 to R61 tell it of the record before the change. -/
theorem Door.turned_afterEvent (x : Door) (i : DoorInput) (next : DoorState × FaultCause) (entered : Bool) :
    (x.turned i).afterEvent i (x.input i).change.level next entered
      = { x.setInput i (x.input i).change with
          state := next.1, faultCause := next.2
          permit := if next.1 ≠ x.state then .none else x.permit
          closeMark := if next.1 ≠ x.state then false else x.closeMark
          breachOrigin := if next.1 ≠ x.state then decide (next.1 = .breach ∧ x.state = .working ∧ i = .sm) else x.breachOrigin
          sealTimer := if next.1 ≠ x.state then (if next.1 = .sealing then .start x.sealLimit else .stopped) else x.sealTimer
          breachTimer :=
            if next.1 = .breach then .start x.breachGrace else if next.1 ≠ x.state then .stopped else x.breachTimer
          releaseTimer := if next.1 ≠ x.state then .stopped else x.releaseTimer
          trailerTemp :=
            if i = .tp ∧ (x.input i).level = true ∨ next.1 ≠ x.state ∧ next.1 = .vacant then none else x.trailerTemp
          breachFlag := if x.state = .breach ∧ next.1 ≠ .breach then false else x.breachFlag
          breachUnposted := if x.state = .breach ∧ next.1 ≠ .breach then false else x.breachUnposted
          faultFlag := if x.state ≠ .fault ∧ next.1 = .fault then true else x.faultFlag
          faultUnposted := if x.state ≠ .fault ∧ next.1 = .fault then x.faultUnposted || !entered else x.faultUnposted } := by
  have hlevel : (x.input i).change.level = false ↔ (x.input i).level = true := by
    rw [InputLine.change, Bool.not_eq_false']
  simp only [Door.afterEvent, hlevel]
  cases i <;> rfl

theorem Door.turned_raised (x : Door) (i : DoorInput) (now : Word32) (a : AlarmTable) (d : Fin 24)
    (next : DoorState × FaultCause) : (x.turned i).raised now a d next = x.raised now a d next := by
  cases i <;> rfl

/-- Settles O30: the change is the table's step from the record whose input has turned. -/
theorem doorFollowsTheTransitionTable : Obligations.DoorFollowsTheTransitionTable := by
  intro d i before hdue hmode henabled s
  have hsteady := settleDoor_steady d before
  have hmode : s.mode = .run := hsteady.mode.trans hmode
  have henabled : (s.door d).enabled = true := (hsteady.door d).1.trans henabled
  refine ⟨takeChange d i s, congrArg _ (debouncedChange_of_due hdue), ?_⟩
  clear_value s
  have hinput : ((takeChange d i s).door d).input i = ((s.door d).input i).change :=
    ((takeChange_inputs d i s).1 i).trans (Door.input_setInput _ i _)
  rw [hinput]
  generalize hnext : ((s.door d).setInput i ((s.door d).input i).change).tableAfter (s.trailerHeld d) i
    ((s.door d).input i).change.level = next
  obtain ⟨attn, htake⟩ := takeChange_runs hmode henabled hnext
  rw [Door.turned_raised, Door.turned_afterEvent] at htake
  rw [htake, State.withTable_door, State.door_setDoor_self, State.withTable_alarms]
  refine ⟨rfl, by cases i <;> rfl, ?_⟩
  have hraised : (s.door d).raised s.clock s.alarms d next
      = if (s.door d).state ≠ .fault ∧ next.1 = .fault then faultRaise s.clock ((s.door d).returned s.alarms d next) d next.2
        else ((s.door d).returned s.alarms d next, true) := rfl
  refine ⟨(congrArg Prod.fst hraised).trans (apply_ite Prod.fst _ _ _), rfl, rfl, rfl, ?_⟩
  by_cases henters : (s.door d).state ≠ .fault ∧ next.1 = .fault
  · rw [if_pos henters] at hraised
    rw [hraised]
    rfl
  · exact (if_neg henters).trans (if_neg henters).symm

end Sys2Proof.Machine
end

section
/-! PROOFS. What keeps a door's outputs (R46) and its record (R41, R44) in order: the record's own part. -/

namespace Sys2Proof.Machine

set_option Elab.async false

/-! ### A quiet record (R44) -/

/-- The part of a quiet record that is not an output: VACANT, no permit, no override, no trailer temperature (R44). -/
def Door.idle (x : Door) : Prop := x.state = .vacant ∧ x.permit = .none ∧ x.override = false ∧ x.trailerTemp = none

theorem Door.idle_of_quiet {x : Door} (h : x.quiet) : x.idle := by
  obtain ⟨hstate, hpermit, hoverride, htemp, -, -⟩ := h
  exact ⟨hstate, hpermit, hoverride, htemp⟩

/-- An idle record drives both outputs off (R46). -/
theorem Door.quiet_driven {x : Door} (h : x.idle) (lines : LineSettings) : (x.driven lines).quiet := by
  obtain ⟨hstate, hpermit, hoverride, htemp⟩ := h
  refine ⟨hstate, hpermit, hoverride, htemp, ?_, ?_⟩
  · simp only [Door.driven, hstate]
  · simp only [Door.driven, hstate, hoverride, Bool.or_false]

theorem Door.agrees_driven {x : Door} (lines : LineSettings) : (x.driven lines).agrees ↔ x.agrees := Iff.rfl

/-! ### Records that agree with their states (R41, R49 to R57, R61) -/

/-- Nothing of BREACH or FAULT stands in the record, and a trailer temperature stands with its trailer alone (R54, R57, R61). -/
def Door.clear (x : Door) : Prop :=
  x.breachFlag = false ∧ x.breachUnposted = false ∧ x.faultFlag = false ∧ x.faultUnposted = false
    ∧ (x.trailerTemp.isSome = true → x.tp.level = true)

/-- A record in FAULT, and no other, has a fault cause (R41). -/
def causeFits (next : DoorState × FaultCause) : Prop := next.1 = .fault → next.2 ≠ .none

/-- Out of BREACH and not in FAULT, nothing of the two stands. -/
theorem Door.left_clear {x : Door} (h : x.agrees) (hfault : x.state ≠ .fault) : x.left.clear := by
  obtain ⟨-, -, -, -, -, -, -, hbreach, hflag, hbreachUnposted, hfaultUnposted, htemp⟩ := h
  have hnoFlag : x.faultFlag = false := Bool.eq_false_iff.mpr fun h => hfault (hflag.mp h)
  have hnoMark : x.faultUnposted = false := Bool.eq_false_iff.mpr fun h => by
    rw [hfaultUnposted h] at hnoFlag
    cases hnoFlag
  refine ⟨?_, ?_, hnoFlag, hnoMark, htemp⟩
  · by_cases hs : x.state = .breach
    · exact if_pos hs
    · exact (if_neg hs).trans (Bool.eq_false_iff.mpr fun h => hs (hbreach h))
  · by_cases hs : x.state = .breach
    · exact if_pos hs
    · exact (if_neg hs).trans (Bool.eq_false_iff.mpr fun h => hs (hbreach (hbreachUnposted h)))

theorem Door.clear_of_agrees {x : Door} (h : x.agrees) (hbreach : x.state ≠ .breach) (hfault : x.state ≠ .fault) : x.clear := by
  have hclear := Door.left_clear h hfault
  simpa only [Door.clear, Door.left, if_neg hbreach] using hclear

/-- Whatever state a clear record enters, it agrees with it. -/
theorem Door.inState_agrees {x : Door} (h : x.clear) {next : DoorState × FaultCause} (hcause : causeFits next)
    (origin entered : Bool) : (x.inState next origin entered).agrees := by
  obtain ⟨hbreach, hbreachUnposted, hfault, hfaultUnposted, htemp⟩ := h
  obtain ⟨state, cause⟩ := next
  cases state with
  | fault =>
    have hcause : cause ≠ .none := hcause rfl
    simpa [Door.agrees, Door.inState, hbreach, hbreachUnposted, hcause] using htemp
  | vacant | releasing => simp [Door.agrees, Door.inState, hbreach, hbreachUnposted, hfault, hfaultUnposted]
  | _ => simpa [Door.agrees, Door.inState, hbreach, hbreachUnposted, hfault, hfaultUnposted] using htemp

theorem Derived.stateAndCause_causeFits {x : Door} {held : Bool} : causeFits (x.derive held).stateAndCause := by
  rw [causeFits, Door.derive_stateAndCause]
  split_ifs <;> simp

/-- The table names a cause for each change into FAULT (R44 to R55). -/
theorem Door.tableAfter_causeFits {x : Door} {held : Bool} {i : DoorInput} {level : Bool}
    (h : (x.tableAfter held i level).1 ≠ x.state) : causeFits (x.tableAfter held i level) := by
  revert h
  unfold Door.tableAfter
  split
  case h_17 => exact fun _ => Derived.stateAndCause_causeFits
  all_goals simp_all [causeFits]
  all_goals split_ifs <;> simp

/-- A change of TP to inactive takes the trailer temperature with it, and any other leaves both as they were (R61). -/
theorem Door.withoutTrailer_agrees {x : Door} (h : x.agrees) (i : DoorInput) :
    ((x.turned i).withoutTrailer i (x.input i).change.level).agrees := by
  obtain ⟨hpermit, hclose, horigin, hcause, hseal, hrelease, hgrace, hbreach, hfault, hbreachUnposted, hfaultUnposted, htemp⟩ := h
  cases i with
  | tp =>
    refine ⟨hpermit, hclose, horigin, hcause, hseal, hrelease, hgrace, hbreach, hfault, hbreachUnposted, hfaultUnposted, ?_⟩
    simp only [Door.withoutTrailer, true_and]
    split
    · exact nofun
    · next hactive => exact fun _ => Bool.not_eq_false _ ▸ hactive
  | pc => exact ⟨hpermit, hclose, horigin, hcause, hseal, hrelease, hgrace, hbreach, hfault, hbreachUnposted, hfaultUnposted, htemp⟩
  | sm => exact ⟨hpermit, hclose, horigin, hcause, hseal, hrelease, hgrace, hbreach, hfault, hbreachUnposted, hfaultUnposted, htemp⟩

/-- Whatever the table makes of a change, the record agrees with its state. -/
theorem Door.afterEvent_agrees {x : Door} (h : x.agrees) (held : Bool) (i : DoorInput) (entered : Bool) :
    ((x.turned i).afterEvent i (x.input i).change.level ((x.turned i).tableAfter held i (x.input i).change.level) entered).agrees := by
  have hturned := Door.withoutTrailer_agrees h i
  have hlevel : ((x.turned i).input i).level = (x.input i).change.level := congrArg InputLine.level (Door.input_setInput x i _)
  by_cases hstays : ((x.turned i).tableAfter held i (x.input i).change.level).1 = (x.turned i).state
  · have hcause := Door.tableAfter_stays hlevel hstays
    generalize (x.turned i).tableAfter held i (x.input i).change.level = next at hstays hcause
    obtain ⟨state, cause⟩ := next
    obtain rfl : state = (x.turned i).state := hstays
    obtain rfl : cause = (x.turned i).faultCause := hcause
    simp only [Door.agrees, Door.withoutTrailer, Door.afterEvent] at hturned ⊢
    grind
  · have hfault : (x.turned i).state ≠ .fault := fun h => hstays (Door.tableAfter_fault h _ i _)
    obtain ⟨hrelease, hnone⟩ := Door.tableAfter_moves hstays
    rw [← Door.inState_left hstays hfault hrelease hnone]
    exact Door.inState_agrees (Door.left_clear hturned hfault) (Door.tableAfter_causeFits hstays) _ _

theorem Door.inDerived_eq (x : Door) (entered : FaultCause → Bool) (y : Derived) :
    x.inDerived entered y = x.inState y.stateAndCause false (entered y.stateAndCause.2) := by
  cases y <;> simp [Door.inDerived, Door.inState, Door.enter, Derived.stateAndCause]

/-- A record cleared for a warm restart has nothing of BREACH and FAULT (R65). -/
theorem Door.restarted_clear {x : Door} (h : x.agrees) : x.restarted.clear := by
  obtain ⟨-, -, -, -, -, -, -, -, -, -, -, htemp⟩ := h
  exact ⟨rfl, rfl, rfl, rfl, htemp⟩

end Sys2Proof.Machine
end

section
/-! PROOFS. What keeps the doors' outputs (R46) and records (R41, R44) in order: writes, frames, expiries, ticks and restarts. -/

namespace Sys2Proof.Machine

set_option Elab.async false

/-! ### The doors kept in order -/

/-- Outputs driven from their records stay so (R46), and records in agreement with their states stay so (R41, R44). -/
structure State.KeepsDoors (s t : State) : Prop where
  outputs : s.outputsKept → t.outputsKept
  records : s.doorsKept → t.doorsKept

/-- A door whose state machine runs (R44). -/
def State.runs (s : State) (d : Fin 24) : Prop := s.mode = .run ∧ (s.door d).enabled = true

section
variable {s t u : State} {d : Fin 24}

theorem State.KeepsDoors.refl (s : State) : s.KeepsDoors s := ⟨id, id⟩

theorem State.KeepsDoors.trans (h : s.KeepsDoors t) (k : t.KeepsDoors u) : s.KeepsDoors u :=
  ⟨k.outputs ∘ h.outputs, k.records ∘ h.records⟩

theorem State.KeepsDoors.ite {p : Prop} [Decidable p] (h : s.KeepsDoors t) (k : s.KeepsDoors u) :
    s.KeepsDoors (if p then t else u) := by
  split
  · exact h
  · exact k

/-- What writes no door, mode or line keeps the doors. -/
theorem State.KeepsDoors.of_same (hdoors : t.doors = s.doors) (hmode : t.mode = s.mode) (hlines : t.lines = s.lines) :
    s.KeepsDoors t := by
  have hdoor : ∀ d, t.door d = s.door d := fun d => by rw [State.door, hdoors]; rfl
  refine ⟨fun h d => ?_, fun h d => ?_⟩
  · rw [hdoor, hlines]
    exact h d
  · rw [hdoor, hmode]
    exact h d

theorem State.KeepsDoors.of_frame {fs : List Field} (h : s.frame fs t)
    (hf : ∀ f ∈ [Field.doors, Field.mode, Field.lines], f ∉ fs) : s.KeepsDoors t :=
  .of_same (State.frame_doors h (hf _ (by decide))) (State.frame_mode h (hf _ (by decide)))
    (State.frame_lines h (hf _ (by decide)))

/-- A door that is not VACANT runs (R44). -/
theorem State.doorsKept.runs (h : s.doorsKept) (hstate : (s.door d).state ≠ .vacant) : s.runs d := by
  have hquiet : ¬ (s.mode = .setup ∨ (s.door d).enabled = false) := fun hs => hstate ((h d).2 hs).1
  refine ⟨?_, Bool.not_eq_false _ ▸ fun h => hquiet (.inr h)⟩
  cases hmode : s.mode with
  | run => rfl
  | setup => exact absurd (.inl hmode) hquiet

theorem State.runs.not_quiet (h : s.runs d) : ¬ (s.mode = .setup ∨ (s.door d).enabled = false) := by
  obtain ⟨hmode, henabled⟩ := h
  rw [hmode, henabled]
  simp

/-! ### One record written -/

/-- A record written agrees with its state, and is idle where its door does not run. -/
theorem State.keepsDoors_setDoor (s : State) (d : Fin 24) {x : Door}
    (hx : s.doorsKept → x.agrees ∧ (s.mode = .setup ∨ x.enabled = false → x.idle)) : s.KeepsDoors (s.setDoor d x) := by
  refine ⟨fun h i => ?_, fun h i => ?_⟩
  · rw [State.door_setDoor]
    split
    · rfl
    · exact h i
  · rw [State.door_setDoor]
    split
    · exact ⟨(hx h).1, fun hs => Door.quiet_driven ((hx h).2 hs) _⟩
    · exact h i

/-- At a door that runs, a record need agree with its state alone. -/
theorem State.keepsDoors_setDoor_runs (s : State) (d : Fin 24) {x : Door} (henabled : x.enabled = (s.door d).enabled)
    (hx : s.doorsKept → s.runs d ∧ x.agrees) : s.KeepsDoors (s.setDoor d x) :=
  s.keepsDoors_setDoor d fun h => ⟨(hx h).2, fun hs => absurd (henabled ▸ hs) (hx h).1.not_quiet⟩

/-- An update that every record in order comes through, whatever its state. -/
theorem State.keepsDoors_modifyDoor (s : State) (d : Fin 24) {f : Door → Door}
    (hagrees : ∀ x : Door, x.agrees → (f x).agrees := by exact fun _ h => h)
    (hidle : ∀ x : Door, x.idle → (f x).idle := by exact fun _ h => h)
    (henabled : ∀ x : Door, (f x).enabled = x.enabled := by exact fun _ => rfl) : s.KeepsDoors (s.modifyDoor d f) :=
  s.keepsDoors_setDoor d fun h => ⟨hagrees _ (h d).1, fun hs => hidle _ (Door.idle_of_quiet ((h d).2 (henabled _ ▸ hs)))⟩

theorem State.keepsDoors_setAlarms (s : State) (a : AlarmTable) : s.KeepsDoors (s.setAlarms a) := .of_same rfl rfl rfl

theorem State.keepsDoors_withTable (s : State) (a : AlarmTable) (attn : PerPort Bool) : s.KeepsDoors (s.withTable a attn) :=
  .of_same rfl rfl rfl

theorem State.KeepsDoors.posted (h : s.KeepsDoors t) (code : AlarmCode) (subject : Subject) (detail : Option Word16) :
    s.KeepsDoors (t.post code subject detail) := h.trans (t.keepsDoors_setAlarms _)

theorem State.KeepsDoors.returned (h : s.KeepsDoors t) (code : AlarmCode) (subject : Subject) :
    s.KeepsDoors (t.returnCondition code subject) := h.trans (t.keepsDoors_setAlarms _)

theorem keepsDoors_forEach {n : Nat} {f : Fin n → State → State} (h : ∀ i (s : State), s.KeepsDoors (f i s)) (s : State) :
    s.KeepsDoors (forEach n f s) :=
  forEach_rel State.KeepsDoors State.KeepsDoors.refl State.KeepsDoors.trans h s

/-- A state entered at a door that runs, from a clear record just written. -/
theorem enterState_setDoor_keepsDoors {next : DoorState × FaultCause} (hcause : causeFits next) (origin : Bool) {y : Door}
    (a : AlarmTable) (attn : PerPort Bool) (henabled : y.enabled = (s.door d).enabled)
    (h : s.doorsKept → s.runs d ∧ y.clear) :
    s.KeepsDoors (enterState next origin d ((s.setDoor d y).withTable a attn)) := by
  obtain ⟨attn', heq⟩ := enterState_eq next origin d ((s.setDoor d y).withTable a attn)
  simp only [State.withTable_door, State.withTable_setDoor, State.withTable_withTable, State.setDoor_setDoor,
    State.door_setDoor_self] at heq
  rw [heq]
  refine (s.keepsDoors_setDoor_runs d ?_ fun hs => ⟨(h hs).1, ?_⟩).trans (State.keepsDoors_withTable _ _ _)
  · exact henabled
  · exact Door.inState_agrees (x := y.driven s.lines) (h hs).2 hcause _ _

/-- A state entered by a clear record at a door that runs. -/
theorem enterState_keepsDoors {next : DoorState × FaultCause} (hcause : causeFits next) (origin : Bool)
    (h : s.doorsKept → s.runs d ∧ (s.door d).clear) : s.KeepsDoors (enterState next origin d s) := by
  obtain ⟨attn, heq⟩ := enterState_eq next origin d s
  rw [heq]
  exact (s.keepsDoors_setDoor_runs d (x := (s.door d).inState next origin _) rfl fun hs =>
    ⟨(h hs).1, Door.inState_agrees (h hs).2 hcause _ _⟩).trans (State.keepsDoors_withTable _ _ _)

/-- A door in a state but VACANT, BREACH and FAULT runs, and its record is clear. -/
theorem State.doorsKept.runs_clear (h : s.doorsKept) (hvacant : (s.door d).state ≠ .vacant) (hbreach : (s.door d).state ≠ .breach)
    (hfault : (s.door d).state ≠ .fault) : s.runs d ∧ (s.door d).clear :=
  ⟨h.runs hvacant, Door.clear_of_agrees (h d).1 hbreach hfault⟩

end

/-! ### Samples, expiries and changes (R38, R44, R49, R54, R55) -/

theorem sampleStrobe_keepsDoors (tp pc sm : BitVec 24) (s : State) : s.KeepsDoors (sampleStrobe tp pc sm s) := by
  refine keepsDoors_forEach (fun d s => s.keepsDoors_modifyDoor d fun x h => ?_) s
  obtain ⟨hpermit, hclose, horigin, hcause, hseal, hrelease, hgrace, hbreach, hfault, hbreachUnposted, hfaultUnposted, htemp⟩ := h
  refine ⟨hpermit, hclose, horigin, hcause, hseal, hrelease, hgrace, hbreach, hfault, hbreachUnposted, hfaultUnposted, ?_⟩
  have hlevel : (x.sample s.lines tp[d] pc[d] sm[d]).tp.level = x.tp.level := by
    simp only [Door.sample, InputLine.sample]
    split_ifs <;> rfl
  rw [hlevel]
  exact htemp

theorem expireSeal_keepsDoors (d : Fin 24) (s : State) : s.KeepsDoors (expireSeal d s) := by
  by_cases hdue : (s.door d).state = .sealing ∧ (s.door d).sealTimer.due = true
  · obtain ⟨hstate, hdue⟩ := hdue
    rw [expireSeal_of_due hstate ((Timer.due_iff _).mp hdue)]
    refine State.KeepsDoors.trans (t := s.post .sealTimeout (.door d) none) ((State.KeepsDoors.refl s).posted _ _ _) ?_
    have hstate : ((s.post .sealTimeout (.door d) none).door d).state = .sealing := hstate
    split
    · refine State.keepsDoors_setDoor_runs _ d (x := { s.door d with sealTimer := .start (s.door d).sealLimit }) rfl fun h =>
        ⟨h.runs (hstate.trans_ne nofun), ?_⟩
      obtain ⟨hpermit, hclose, horigin, hcause, -, hrest⟩ := (h d).1
      exact ⟨hpermit, hclose, horigin, hcause, ⟨fun _ => hstate, nofun⟩, hrest⟩
    · exact enterState_keepsDoors (next := (.docked, .none)) nofun false fun h =>
        h.runs_clear (hstate.trans_ne nofun) (hstate.trans_ne nofun) (hstate.trans_ne nofun)
  · rw [expireSeal, if_neg hdue]
    exact .refl s

theorem expireBreach_keepsDoors (d : Fin 24) (s : State) : s.KeepsDoors (expireBreach d s) := by
  by_cases hdue : (s.door d).state = .breach ∧ (s.door d).breachTimer.due = true
  · obtain ⟨hstate, hdue⟩ := hdue
    rw [expireBreach_of_due hstate ((Timer.due_iff _).mp hdue)]
    refine State.KeepsDoors.trans ?_ (State.keepsDoors_setAlarms _ _)
    refine s.keepsDoors_setDoor_runs d ?_ fun h => ⟨h.runs (hstate.trans_ne nofun), ?_⟩
    · rfl
    obtain ⟨hpermit, hclose, horigin, hcause, hseal, hrelease, -, -, hfault, -, hfaultUnposted, htemp⟩ := (h d).1
    exact ⟨hpermit, hclose, horigin, hcause, hseal, hrelease, fun _ => hstate, fun _ => hstate, hfault, fun _ => rfl,
      hfaultUnposted, htemp⟩
  · rw [expireBreach, if_neg hdue]
    exact .refl s

theorem expireRelease_keepsDoors (d : Fin 24) (s : State) : s.KeepsDoors (expireRelease d s) := by
  by_cases hdue : (s.door d).state = .releasing ∧ (s.door d).releaseTimer.due = true
  · obtain ⟨hstate, hdue⟩ := hdue
    have hentry : ∀ next : DoorState × FaultCause, causeFits next → s.KeepsDoors (enterState next false d s) :=
      fun next hcause => enterState_keepsDoors hcause false fun h =>
        h.runs_clear (hstate.trans_ne nofun) (hstate.trans_ne nofun) (hstate.trans_ne nofun)
    rw [expireRelease_of_due hstate ((Timer.due_iff _).mp hdue)]
    exact .ite (hentry (.fault, .sealStuck) nofun) (.ite (hentry (.docked, .none) nofun) (hentry (.vacant, .none) nofun))
  · rw [expireRelease, if_neg hdue]
    exact .refl s

theorem settleDoor_keepsDoors (d : Fin 24) (s : State) : s.KeepsDoors (settleDoor d s) :=
  ((expireSeal_keepsDoors d s).trans (expireBreach_keepsDoors d _)).trans (expireRelease_keepsDoors d _)

/-- An idle record has no trailer temperature to lose, so a changed input leaves it in order (R44). -/
theorem Door.turned_agrees {x : Door} (h : x.agrees) (hidle : x.idle) (i : DoorInput) : (x.turned i).agrees := by
  obtain ⟨hpermit, hclose, horigin, hcause, hseal, hrelease, hgrace, hbreach, hfault, hbreachUnposted, hfaultUnposted, -⟩ := h
  obtain ⟨-, -, -, htemp⟩ := hidle
  have hempty : x.trailerTemp.isSome = true → ∀ l : Bool, l = true := fun h => by
    rw [htemp] at h
    cases h
  cases i <;> exact ⟨hpermit, hclose, horigin, hcause, hseal, hrelease, hgrace, hbreach, hfault, hbreachUnposted, hfaultUnposted,
    fun h => hempty h _⟩

theorem takeChange_keepsDoors (d : Fin 24) (i : DoorInput) (s : State) : s.KeepsDoors (takeChange d i s) := by
  by_cases hruns : s.runs d
  · obtain ⟨attn, htake⟩ := takeChange_runs (i := i) hruns.1 hruns.2 rfl
    rw [htake]
    refine (s.keepsDoors_setDoor_runs d ?_ fun h => ⟨hruns, ?_⟩).trans (State.keepsDoors_withTable _ _ _)
    · cases i <;> rfl
    · exact Door.afterEvent_agrees (h d).1 _ i _
  · have hquiet : s.mode = .setup ∨ (s.door d).enabled = false := by
      cases hmode : s.mode with
      | setup => exact .inl rfl
      | run => exact .inr (Bool.eq_false_iff.mpr fun h => hruns ⟨hmode, h⟩)
    rw [takeChange_quiet hquiet]
    refine s.keepsDoors_setDoor d fun h => ?_
    have hidle := Door.idle_of_quiet ((h d).2 hquiet)
    exact ⟨Door.turned_agrees (h d).1 hidle i, fun _ => by cases i <;> exact hidle⟩

theorem debouncedChange_keepsDoors (d : Fin 24) (i : DoorInput) (s : State) : s.KeepsDoors (debouncedChange d i s) :=
  .ite ((settleDoor_keepsDoors d s).trans (takeChange_keepsDoors d i _)) (.refl s)

/-! ### Permits given (R52) -/

theorem givePermit_keepsDoors (r : Fin 8) (d : Fin 24) (s : State) : s.KeepsDoors (givePermit r d s) := by
  unfold givePermit
  dsimp only
  split
  · next h =>
    obtain ⟨-, -, hpending⟩ := h
    refine State.KeepsDoors.posted ?_ _ _ _
    refine s.keepsDoors_setDoor_runs d (x := { s.door d with permit := .given }) rfl fun h => ?_
    obtain ⟨hpermit, hrest⟩ := (h d).1
    have hstate : (s.door d).state = .sealed := hpermit (by rw [hpending]; nofun)
    exact ⟨h.runs (hstate.trans_ne nofun), fun _ => hstate, hrest⟩
  · exact .refl s

theorem givePermits_keepsDoors (r : Fin 8) (s : State) : s.KeepsDoors (givePermits r s) :=
  keepsDoors_forEach (givePermit_keepsDoors r) s

/-! ### Expiries and ticks -/

theorem evaluateQueue_keepsDoors (s : State) : s.KeepsDoors (evaluateQueue s) := .of_frame (evaluateQueue_frame s) (by decide)

theorem State.keepsDoors_setDefrost (s : State) (r : Fin 8) (x : Defrost) : s.KeepsDoors (s.setDefrost r x) :=
  .of_same rfl rfl rfl

theorem State.keepsDoors_returnLoad (s : State) (r : Fin 8) : s.KeepsDoors (s.returnLoad r) := .of_same rfl rfl rfl

theorem expireGrantHold_keepsDoors (r : Fin 8) (s : State) : s.KeepsDoors (expireGrantHold r s) := by
  have hidle := (s.keepsDoors_setDefrost r { s.defrost r with state := .idle, phaseTimer := .stopped, forcedCycle := false }).trans
    (State.keepsDoors_returnLoad _ r)
  exact .ite (((hidle.posted _ _ _).trans (givePermits_keepsDoors r _)).trans (evaluateQueue_keepsDoors _)) (.refl s)

theorem expireDrip_keepsDoors (r : Fin 8) (s : State) : s.KeepsDoors (expireDrip r s) :=
  .ite ((s.keepsDoors_setDefrost r _).trans (givePermits_keepsDoors r _)) (.refl s)

theorem settleDefrost_keepsDoors (r : Fin 8) (s : State) : s.KeepsDoors (settleDefrost r s) :=
  ((((expireGrantHold_keepsDoors r s).trans (.of_frame (expireHeating_frame r _) (by decide))).trans
    (expireDrip_keepsDoors r _)).trans (.of_frame (expireRecovery_frame r _) (by decide))).trans
    (.of_frame (expireInhibit_frame r _) (by decide))

/-- The expiries of the ticks before (R3). -/
theorem settleTimers_keepsDoors (s : State) : s.KeepsDoors (settleTimers s) :=
  (((State.KeepsDoors.of_frame (settleRooms_frame s) (by decide)).trans (keepsDoors_forEach settleDoor_keepsDoors _)).trans
    (keepsDoors_forEach settleDefrost_keepsDoors _)).trans
    (keepsDoors_forEach (fun m s => .of_frame (settleMove_frame m s) (by decide)) _)

theorem clearMark_keepsDoors (s : State) (x : RetryMark) : s.KeepsDoors (s.clearMark x) := by
  have hunposted : ∀ (d : Fin 24) (f : Door → Door), (∀ x, f x = { x with breachUnposted := false } ∨ f x = { x with faultUnposted := false }) →
      s.KeepsDoors (s.modifyDoor d f) := fun d f hf => by
    refine s.keepsDoors_modifyDoor d (fun x h => ?_) (fun x h => ?_) fun x => ?_
    · obtain ⟨hpermit, hclose, horigin, hcause, hseal, hrelease, hgrace, hbreach, hfault, hbreachUnposted, hfaultUnposted, htemp⟩ := h
      obtain h | h := hf x
      · rw [h]
        exact ⟨hpermit, hclose, horigin, hcause, hseal, hrelease, hgrace, hbreach, hfault, nofun, hfaultUnposted, htemp⟩
      · rw [h]
        exact ⟨hpermit, hclose, horigin, hcause, hseal, hrelease, hgrace, hbreach, hfault, hbreachUnposted, nofun, htemp⟩
    · obtain h' | h' := hf x <;> rw [h'] <;> exact h
    · obtain h' | h' := hf x <;> rw [h']
  cases x with
  | doorBreach d => exact hunposted d _ fun _ => .inl rfl
  | doorFault d => exact hunposted d _ fun _ => .inr rfl
  | _ => exact .of_same rfl rfl rfl

theorem retryAll_keepsDoors (order : List RetryBlock) (s : State) : s.KeepsDoors (retryAll order s) := by
  have hmark : ∀ (s : State) (x : RetryMark), s.KeepsDoors (retryMark s x) := fun s x => by
    refine .ite ?_ (.refl s)
    rw [State.retryCondition_eq]
    exact .ite ((s.keepsDoors_setAlarms _).trans (clearMark_keepsDoors _ x)) (s.keepsDoors_setAlarms _)
  rw [retryAll_eq]
  generalize retryList order = l
  induction l generalizing s with
  | nil => exact .refl s
  | cons x l ih => exact (hmark s x).trans (ih _)

/-- A timer that counts down does not start or stop. -/
theorem Timer.tick_eq_stopped (t : Timer) : t.tick = .stopped ↔ t = .stopped := by cases t <;> simp [Timer.tick]

theorem Door.tick_agrees {x : Door} (h : x.agrees) : x.tick.agrees := by
  simp only [Door.agrees, Door.tick, ne_eq, Timer.tick_eq_stopped] at h ⊢
  exact h

theorem tickTimers_keepsDoors (s : State) : s.KeepsDoors (tickTimers s) := by
  have hdoor : ∀ d, (tickTimers s).door d = (s.door d).tick := mapTable_entry Door.tick s.doors
  refine ⟨fun h d => ?_, fun h d => ?_⟩
  · rw [hdoor]
    exact congrArg Door.tick (h d)
  · rw [hdoor]
    exact ⟨Door.tick_agrees (h d).1, fun hs => (h d).2 hs⟩

theorem tickSecond_keepsDoors (order : List RetryBlock) (s : State) : s.KeepsDoors (tickSecond order s) := by
  have hclock : ∀ t : State, t.KeepsDoors { t with clock := t.clock + 1 } := fun t => .of_same rfl rfl rfl
  rw [tickSecond_eq]
  exact (((((settleTimers_keepsDoors s).trans (hclock _)).trans (tickTimers_keepsDoors _)).trans
    (.of_frame (advancePhase_frame _) (by decide))).trans (.of_frame (startRound_frame _) (by decide))).trans
    (retryAll_keepsDoors order _)

theorem tickExposure_keepsDoors (first : Bool) (s : State) : s.KeepsDoors (tickExposure first s) := by
  have hdue : s.KeepsDoors { s with exposureDue := false } := .of_same rfl rfl rfl
  have hcharge : ∀ t : State, t.KeepsDoors (chargePallets t) := fun t => .of_frame (chargePallets_frame t) (by decide)
  have hfrost : ∀ t : State, t.KeepsDoors (accumulateAll t) := fun t => .of_frame (accumulateAll_frame t) (by decide)
  exact .ite (.ite ((hdue.trans (hfrost _)).trans (hcharge _)) ((hdue.trans (hcharge _)).trans (hfrost _))) (.refl s)

theorem completeRound_keepsDoors (first : Bool) (s : State) : s.KeepsDoors (completeRound first s) := by
  have hidle : s.KeepsDoors { s with round := .idle } := .of_same rfl rfl rfl
  have hround := hidle.trans (.of_frame (settleRooms_frame _) (by decide))
  have hdefrost : ∀ t : State, t.KeepsDoors (roundDefrost t) := fun t => .of_frame (roundDefrost_frame t) (by decide)
  have hrooms : ∀ t : State, t.KeepsDoors (roundRooms t) := fun t => .of_frame (roundRooms_frame t) (by decide)
  unfold completeRound
  split
  · exact .ite ((hround.trans (hdefrost _)).trans (hrooms _)) ((hround.trans (hrooms _)).trans (hdefrost _))
  · exact .refl s
  · exact .refl s

/-! ### Restarts and the entry into RUN (R65, R176, R177) -/

theorem restartDoor_keepsDoors {d : Fin 24} {s : State} (hmode : s.mode = .run) : s.KeepsDoors (restartDoor d s) := by
  by_cases henabled : (s.door d).enabled = true
  · have hentered : s.KeepsDoors (deriveDoor d (s.modifyDoor d Door.restarted)) := by
      rw [deriveDoor_enters]
      exact enterState_setDoor_keepsDoors (y := (s.door d).restarted) Derived.stateAndCause_causeFits false s.alarms s.attn rfl
        fun h => ⟨⟨hmode, henabled⟩, Door.restarted_clear (h d).1⟩
    rw [restartDoor, if_pos henabled]
    refine .ite (hentered.trans (State.keepsDoors_modifyDoor _ d (fun x h => ?_) fun x h => ?_)) hentered
    · obtain ⟨hpermit, hclose, horigin, hcause, hseal, hrelease, hgrace, hbreach, hfault, hbreachUnposted, hfaultUnposted, -⟩ := h
      exact ⟨hpermit, hclose, horigin, hcause, hseal, hrelease, hgrace, hbreach, hfault, hbreachUnposted, hfaultUnposted, nofun⟩
    · obtain ⟨hstate, hpermit, hoverride, -⟩ := h
      exact ⟨hstate, hpermit, hoverride, rfl⟩
  · rw [restartDoor, if_neg henabled]
    exact .refl s

theorem restartDoors_keepsDoors {s : State} (hmode : s.mode = .run) : s.KeepsDoors (restartDoors s) :=
  (forEach_induct (P := fun t => t.mode = .run ∧ s.KeepsDoors t) (fun d t ⟨hmode, h⟩ =>
    ⟨(State.frame_mode (restartDoor_frame d t) (by decide)).trans hmode, h.trans (restartDoor_keepsDoors hmode)⟩)
    ⟨hmode, .refl s⟩).2

theorem restartPart_keepsDoors {s : State} (hmode : s.mode = .run) : s.KeepsDoors (restartPart s) := by
  have hmoves : s.KeepsDoors (restartMoves s) := .of_frame (restartMoves_frame s) (by decide)
  have hdefrost : ∀ t : State, t.KeepsDoors (restartDefrost t) := fun t => .of_same rfl rfl rfl
  have htable : ∀ t : State, t.KeepsDoors (clearTable t) := fun t => .of_same rfl rfl rfl
  have hrooms : ∀ t : State, t.KeepsDoors (restartRooms t) := keepsDoors_forEach fun r t =>
    (State.KeepsDoors.of_same rfl rfl rfl).trans (.of_frame (evaluateRoom_frame r _) (by decide))
  have hprobes : ∀ t : State, t.KeepsDoors (forEach 32 reraiseProbe t) := keepsDoors_forEach fun c t =>
    .ite (.refl t) (.of_frame (raiseProbeFault_frame c t) (by decide))
  have hjournal : ∀ t : State, t.KeepsDoors (reraiseJournal t) := fun t =>
    .ite (.of_frame (raiseJournalHigh_frame t) (by decide)) (.refl t)
  have hreraised : ∀ t : State, t.KeepsDoors (reraiseConditions t) := fun t =>
    ((((hprobes t).trans (.of_frame (frame_forEach evaluateLost_frame _) (by decide))).trans
      (.of_frame (frame_forEach reraiseDefrost_frame _) (by decide))).trans
      (.of_frame (frame_forEach reraisePallet_frame _) (by decide))).trans (hjournal _)
  have hcleared : s.KeepsDoors ((clearTable (restartDefrost (restartMoves s))).post .warmRestart .none none) :=
    ((hmoves.trans (hdefrost _)).trans (htable _)).posted _ _ _
  have hsteady : ∀ t : State, ((clearTable (restartDefrost t)).post .warmRestart .none none).mode = t.mode := fun _ => rfl
  have hrun := (hsteady _).trans ((State.frame_mode (restartMoves_frame s) (by decide)).trans hmode)
  have hdoors : s.KeepsDoors (restartDoors ((clearTable (restartDefrost (restartMoves s))).post .warmRestart .none none)) :=
    hcleared.trans (restartDoors_keepsDoors hrun)
  unfold restartPart
  exact (hdoors.trans (hrooms _)).trans (hreraised _)

/-- A record in order in SETUP is clear, whatever its door (R44). -/
theorem State.doorsKept.clear_setup {s : State} (h : s.doorsKept) (hmode : s.mode = .setup) (d : Fin 24) : (s.door d).clear := by
  obtain ⟨hstate, -⟩ := (h d).2 (.inl hmode)
  exact Door.clear_of_agrees (h d).1 (hstate.trans_ne nofun) (hstate.trans_ne nofun)

/-- The entry into RUN derives every enabled door from a clear record, and leaves the others quiet (R65, R176). -/
theorem enterRun_keepsDoors {s : State} (hmode : s.mode = .setup) : s.KeepsDoors (enterRun s) := by
  have hlines : (enterRun s).lines = s.lines := State.frame_lines (enterRun_frame s) (by decide)
  refine ⟨fun h d => ?_, fun h d => ?_⟩
  · rw [enterRun_door, hlines, State.derivedDoor]
    split
    · rfl
    · exact h d
  · rw [enterRun_door, State.derivedDoor]
    by_cases henabled : (s.entering.door d).enabled = true
    · rw [if_pos henabled, Door.inDerived_eq]
      refine ⟨Door.inState_agrees (h.clear_setup hmode d) Derived.stateAndCause_causeFits _ _, fun hquiet => ?_⟩
      have hrun : (enterRun s).mode = .run := State.frame_mode (entering_enterRun_frame s) (by decide)
      obtain hsetup | hdisabled := hquiet
      · rw [hrun] at hsetup
        cases hsetup
      · exact absurd (henabled.symm.trans hdisabled) nofun
    · rw [if_neg henabled]
      exact ⟨(h d).1, fun _ => (h d).2 (.inl hmode)⟩

end Sys2Proof.Machine
end

section
/-! PROOFS. Every step keeps the doors' outputs (O14) and records (O18): the requests, the frames, and every command. -/

namespace Sys2Proof.Machine

set_option Elab.async false

/-! ### Answers -/

section
variable {s : State} {b : Byte}

theorem onRoom_keepsDoors {k : Fin 8 → Answer} (h : ∀ r, s.KeepsDoors (k r).state) : s.KeepsDoors (onRoom b s k).state := by
  unfold onRoom
  split
  · exact h _
  · exact .refl s

theorem onDoor_keepsDoors {k : Fin 24 → Answer} (h : ∀ d, s.KeepsDoors (k d).state) : s.KeepsDoors (onDoor b s k).state := by
  unfold onDoor
  split
  · exact h _
  · exact .refl s

theorem done_keepsDoors {t : State} (h : s.KeepsDoors t) : s.KeepsDoors (done t).state := h

theorem doneClamped_keepsDoors {t : State} (h : s.KeepsDoors t) (forced : Bool) : s.KeepsDoors (doneClamped forced t).state := h

theorem reply_keepsDoors {t : State} (h : s.KeepsDoors t) (status : Status) (values : List Byte) :
    s.KeepsDoors (Answer.mk t status values).state := h

theorem answer_ite_keepsDoors {p : Prop} [Decidable p] {a c : Answer} (h : p → s.KeepsDoors a.state) (k : s.KeepsDoors c.state) :
    s.KeepsDoors (if p then a else c).state := by
  split
  · next hp => exact h hp
  · exact k

theorem onEnabledDoor_keepsDoors {k : Fin 24 → Answer} (h : ∀ d, (s.door d).enabled = true → s.KeepsDoors (k d).state) :
    s.KeepsDoors (onEnabledDoor b s k).state :=
  onDoor_keepsDoors fun d => answer_ite_keepsDoors (h d) (.refl s)

end

/-! ### Requests at a door (R42 to R44, R48 to R61) -/

theorem configureDoor_keepsDoors (door enabled room : Byte) (wp bp wf bf : Word16) {s : State} (hmode : s.mode = .setup) :
    s.KeepsDoors (configureDoor door enabled room wp bp wf bf s).state := by
  refine onDoor_keepsDoors fun d => ?_
  split
  · refine s.keepsDoors_setDoor d fun h => ?_
    exact ⟨(h d).1, fun _ => Door.idle_of_quiet ((h d).2 (.inl hmode))⟩
  · exact .refl s

/-- A record with its difference counts cleared, where an input polarity changes (R39). -/
def Door.recounted (inverted : Bool) (x : Door) : Door :=
  if inverted then { x with tp := x.tp.clearCount, pc := x.pc.clearCount, sm := x.sm.clearCount } else x

/-- The difference counts are no part of what keeps a record in order. -/
theorem Door.recounted_spec (inverted : Bool) (x : Door) :
    (x.agrees → (x.recounted inverted).agrees) ∧ (x.idle → (x.recounted inverted).idle)
      ∧ (x.recounted inverted).enabled = x.enabled := by
  cases inverted <;> exact ⟨id, id, rfl⟩

theorem setDoorLines_keepsDoors (tp pc sm sb pr debounce : Byte) (s : State) :
    s.KeepsDoors (setDoorLines tp pc sm sb pr debounce s).state := by
  unfold setDoorLines
  split
  · next tp pc sm sb pr _ _ _ _ _ =>
    obtain ⟨t, ht, hframe, hdoor⟩ := forEach_modifyDoor
      (Door.recounted (tp != s.lines.tp || pc != s.lines.pc || sm != s.lines.sm))
      { s with lines := ⟨tp, pc, sm, sb, pr, forceNat 1 15 debounce.toNat⟩ }
    refine done_keepsDoors (t := forEach 24 _ _) (ht ▸ ⟨fun _ d => ?_, fun h d => ?_⟩)
    · rw [hdoor, hframe]
      rfl
    · obtain ⟨hagrees, hidle, henabled⟩ := Door.recounted_spec
        (tp != s.lines.tp || pc != s.lines.pc || sm != s.lines.sm) (s.door d)
      have hmode : t.mode = s.mode := by rw [hframe]
      rw [hdoor, hmode]
      exact ⟨hagrees (h d).1, fun hs => Door.quiet_driven (hidle (Door.idle_of_quiet ((h d).2 (henabled ▸ hs)))) _⟩
  · exact .refl s

theorem doorArmSeal_keepsDoors (door : Byte) (s : State) : s.KeepsDoors (doorArmSeal door s).state :=
  onEnabledDoor_keepsDoors fun _ _ => answer_ite_keepsDoors (fun hstate =>
    enterState_keepsDoors (next := (.sealing, .none)) nofun false fun h =>
      h.runs_clear (hstate.trans_ne nofun) (hstate.trans_ne nofun) (hstate.trans_ne nofun)) (.refl s)

/-- A permit at a SEALED door. -/
theorem keepsDoors_permit {d : Fin 24} {s : State} (hstate : (s.door d).state = .sealed) (permit : Permit) :
    s.KeepsDoors (s.setDoor d { s.door d with permit := permit }) :=
  s.keepsDoors_setDoor_runs d (x := { s.door d with permit := permit }) rfl fun h => by
    obtain ⟨-, hrest⟩ := (h d).1
    exact ⟨h.runs (hstate.trans_ne nofun), fun _ => hstate, hrest⟩

theorem doorOpenPermit_keepsDoors (door : Byte) (s : State) : s.KeepsDoors (doorOpenPermit door s).state := by
  refine onEnabledDoor_keepsDoors fun d _ => answer_ite_keepsDoors (fun hstate => ?_) (.refl s)
  split
  · exact .refl s
  · exact .refl s
  · exact answer_ite_keepsDoors (fun _ => keepsDoors_permit hstate _) (keepsDoors_permit hstate _)

theorem doorClose_keepsDoors (door : Byte) (s : State) : s.KeepsDoors (doorClose door s).state := by
  refine onEnabledDoor_keepsDoors fun d _ => ?_
  dsimp only
  split
  · next hstate => exact keepsDoors_permit hstate _
  · next hstate =>
    refine s.keepsDoors_setDoor_runs d (x := { s.door d with closeMark := true }) rfl fun h => ?_
    obtain ⟨hpermit, -, hrest⟩ := (h d).1
    exact ⟨h.runs (hstate.trans_ne nofun), hpermit, fun _ => hstate, hrest⟩
  all_goals exact .refl s

theorem doorRelease_keepsDoors (door : Byte) (s : State) : s.KeepsDoors (doorRelease door s).state := by
  refine onEnabledDoor_keepsDoors fun d _ => answer_ite_keepsDoors (fun hstate => answer_ite_keepsDoors (fun _ => .refl s) ?_) (.refl s)
  have hship := shipAboard_frame false d s
  have hdoor : (shipAboard false d s).door d = s.door d := by rw [State.frame_door hship (by decide)]
  refine (State.KeepsDoors.of_frame hship (by decide)).trans (enterState_keepsDoors (next := (.releasing, .none)) nofun false
    fun h => ?_)
  have hnot : ∀ x : DoorState, x ≠ .sealed → x ≠ .sealing → ((shipAboard false d s).door d).state ≠ x := fun x h1 h2 h => by
    rw [hdoor] at h
    obtain hs | hs := hstate
    · exact h1 (h.symm.trans hs)
    · exact h2 (h.symm.trans hs)
  exact h.runs_clear (hnot _ nofun nofun) (hnot _ nofun nofun) (hnot _ nofun nofun)

theorem doorOverride_keepsDoors (door on : Byte) {s : State} (hmode : s.mode = .run) : s.KeepsDoors (doorOverride door on s).state := by
  refine onEnabledDoor_keepsDoors fun d henabled => ?_
  split
  · exact .refl s
  · exact s.keepsDoors_setDoor_runs d rfl fun h => ⟨⟨hmode, henabled⟩, (h d).1⟩

theorem reportTrailerTemperature_keepsDoors (door : Byte) (temperature : Word16) {s : State} (hmode : s.mode = .run) :
    s.KeepsDoors (reportTrailerTemperature door temperature s).state := by
  refine onEnabledDoor_keepsDoors fun d henabled => answer_ite_keepsDoors (fun htp => ?_) (.refl s)
  refine s.keepsDoors_setDoor_runs d rfl fun h => ⟨⟨hmode, henabled⟩, ?_⟩
  obtain ⟨hpermit, hclose, horigin, hcause, hseal, hrelease, hgrace, hbreach, hfault, hbreachUnposted, hfaultUnposted, -⟩ := (h d).1
  exact ⟨hpermit, hclose, horigin, hcause, hseal, hrelease, hgrace, hbreach, hfault, hbreachUnposted, hfaultUnposted, fun _ => htp⟩

theorem clearTrailer_state (d : Fin 24) (s : State) :
    ((s.modifyDoor d fun x => { x with trailerTemp := none }).door d).state = (s.door d).state := by
  rw [State.modifyDoor, State.door_setDoor_self]
  rfl

/-- The moves and pallets of a write-off leave every door's record (R59). -/
theorem writeOff_records_frame (d : Fin 24) (s : State) :
    s.frame endFields (rejectInbound d (shipAboard true d (forEach 32 (writeOffMove d) s))) :=
  State.frame_trans (State.frame_trans (frame_forEach (writeOffMove_frame d) s)
    (State.frame_mono (shipAboard_frame true d _) (by decide))) (State.frame_mono (rejectInbound_frame d _) (by decide))

theorem writeOff_state (d : Fin 24) (s : State) : ((writeOff d s).door d).state = (s.door d).state :=
  (clearTrailer_state d _).trans (congrArg Door.state (State.frame_door (writeOff_records_frame d s) (by decide) d))

theorem writeOff_keepsDoors (d : Fin 24) (s : State) : s.KeepsDoors (writeOff d s) := by
  refine (State.KeepsDoors.of_frame (writeOff_records_frame d s) (by decide)).trans
    (State.keepsDoors_modifyDoor _ d (fun x h => ?_) fun x h => ?_)
  · obtain ⟨hpermit, hclose, horigin, hcause, hseal, hrelease, hgrace, hbreach, hfault, hbreachUnposted, hfaultUnposted, -⟩ := h
    exact ⟨hpermit, hclose, horigin, hcause, hseal, hrelease, hgrace, hbreach, hfault, hbreachUnposted, hfaultUnposted, nofun⟩
  · obtain ⟨hstate, hpermit, hoverride, -⟩ := h
    exact ⟨hstate, hpermit, hoverride, rfl⟩

/-- The record with its fault cleared (R58). -/
def Door.unfaulted (x : Door) : Door := { x with faultCause := .none, faultFlag := false, faultUnposted := false }

/-- In FAULT nothing of BREACH stands, so the record is clear once the fault is. -/
theorem Door.unfaulted_clear {x : Door} (h : x.agrees) (hstate : x.state = .fault) : x.unfaulted.clear := by
  obtain ⟨-, -, -, -, -, -, -, hbreach, -, hunposted, -, htemp⟩ := h
  have hflag : x.breachFlag = false := Bool.eq_false_iff.mpr fun h => absurd (hstate.symm.trans (hbreach h)) nofun
  have hmark : x.breachUnposted = false := Bool.eq_false_iff.mpr fun h => absurd (hflag.symm.trans (hunposted h)) nofun
  exact ⟨hflag, hmark, rfl, rfl, htemp⟩

/-- A fault cleared, and the door derived from its lines (R58). -/
theorem faultCleared_keepsDoors {d : Fin 24} {s : State} (hstate : (s.door d).state = .fault) :
    s.KeepsDoors (deriveDoor d ((s.modifyDoor d Door.unfaulted).returnCondition .doorFault (.door d))) := by
  rw [deriveDoor_enters]
  exact enterState_setDoor_keepsDoors (y := (s.door d).unfaulted) Derived.stateAndCause_causeFits false _ _ rfl fun h =>
    ⟨h.runs (hstate.trans_ne nofun), Door.unfaulted_clear (h d).1 hstate⟩

theorem doorClearFault_keepsDoors (door : Byte) (s : State) : s.KeepsDoors (doorClearFault door s).state := by
  refine onEnabledDoor_keepsDoors fun d _ => answer_ite_keepsDoors (fun hstate => answer_ite_keepsDoors (fun _ => .refl s) ?_) (.refl s)
  have hlost : s.KeepsDoors (if (s.door d).tp.level = true then s else writeOff d s) := .ite (.refl s) (writeOff_keepsDoors d s)
  refine hlost.trans (faultCleared_keepsDoors ?_)
  split
  · exact hstate
  · exact (writeOff_state d s).trans hstate

/-! ### The other requests -/

theorem readRoomSnapshot_keepsDoors (p : Port) (part : Byte) (s : State) : s.KeepsDoors (readRoomSnapshot p part s).state := by
  unfold readRoomSnapshot
  split
  · exact .refl s
  · split
    · exact .refl s
    · exact .of_same rfl rfl rfl

theorem latchRooms_keepsDoors (p : Port) (s : State) : s.KeepsDoors (latchRooms p s).state := by
  unfold latchRooms
  dsimp only
  split
  · exact .of_same rfl rfl rfl
  · exact answer_ite_keepsDoors (fun _ => .of_same rfl rfl rfl) (.refl s)

theorem takeAlarm_keepsDoors (p : Port) (s : State) : s.KeepsDoors (takeAlarm p s).state := by
  unfold takeAlarm
  split
  · exact .refl s
  · exact .of_same rfl rfl rfl

theorem endAlarm_keepsDoors (p : Port) (s : State) : s.KeepsDoors (endAlarm p s).state := by
  unfold endAlarm
  dsimp only
  split
  · exact .refl s
  · exact .of_same rfl rfl rfl

theorem setAlarmRoutes_keepsDoors (p : Port) (code routed : Byte) (s : State) : s.KeepsDoors (setAlarmRoutes p code routed s).state := by
  unfold setAlarmRoutes
  split
  · exact .of_same rfl rfl rfl
  · exact .refl s

theorem State.keepsDoors_setJournal (s : State) (j : Journal) : s.KeepsDoors (s.setJournal j) := .of_same rfl rfl rfl

theorem releaseJournal_keepsDoors (count : Word16) (s : State) : s.KeepsDoors (releaseJournal count s).state :=
  .ite ((s.keepsDoors_setJournal _).trans (.of_frame (testJournalReturn_frame _) (by decide))) (s.keepsDoors_setJournal _)

theorem setJournalThreshold_keepsDoors (threshold : Word16) (s : State) : s.KeepsDoors (setJournalThreshold threshold s).state :=
  .ite (((s.keepsDoors_setJournal _).trans (.of_frame (testJournalRaise_frame _) (by decide))).trans
    (.of_frame (testJournalReturn_frame _) (by decide))) (s.keepsDoors_setJournal _)

theorem setProbeCalibration_keepsDoors (channel : Byte) (gain offset : Word16) (s : State) :
    s.KeepsDoors (setProbeCalibration channel gain offset s).state := by
  unfold setProbeCalibration
  split
  · exact .refl s
  · exact .of_same rfl rfl rfl

theorem limitChanged_keepsDoors (r : Fin 8) (s : State) : s.KeepsDoors (limitChanged r s) :=
  (State.KeepsDoors.of_frame (evaluateRoom_frame r s) (by decide)).trans (.of_frame (testRecovery_frame r _) (by decide))

theorem State.keepsDoors_modifyRoom (s : State) (r : Fin 8) (f : Room → Room) : s.KeepsDoors (s.modifyRoom r f) :=
  .of_same rfl rfl rfl

theorem State.keepsDoors_modifyDefrost (s : State) (r : Fin 8) (f : Defrost → Defrost) : s.KeepsDoors (s.modifyDefrost r f) :=
  .of_same rfl rfl rfl

theorem State.KeepsDoors.roomRecord {s t : State} (h : s.KeepsDoors t) (r : Fin 8) {f : Room → Room} :
    s.KeepsDoors (t.modifyRoom r f) := h.trans (t.keepsDoors_modifyRoom r f)

theorem State.KeepsDoors.defrostRecord {s t : State} (h : s.KeepsDoors t) (r : Fin 8) {f : Defrost → Defrost} :
    s.KeepsDoors (t.modifyDefrost r f) := h.trans (t.keepsDoors_modifyDefrost r f)

theorem setRoomLimits_keepsDoors (room : Byte) (upper lower highDelay lowDelay weight : Word16) (s : State) :
    s.KeepsDoors (setRoomLimits room upper lower highDelay lowDelay weight s).state :=
  onRoom_keepsDoors fun r => (s.keepsDoors_modifyRoom r _).trans (limitChanged_keepsDoors r _)

theorem setProductCeiling_keepsDoors (room present : Byte) (ceiling : Word16) (s : State) :
    s.KeepsDoors (setProductCeiling room present ceiling s).state := by
  refine onRoom_keepsDoors fun r => ?_
  split
  · exact .refl s
  · exact (s.keepsDoors_modifyRoom r _).trans (limitChanged_keepsDoors r _)
  · exact (s.keepsDoors_modifyRoom r _).trans (limitChanged_keepsDoors r _)

theorem setFrostParameters_keepsDoors (room baseRate : Byte) (threshold hardLimit : Word16) (s : State) :
    s.KeepsDoors (setFrostParameters room baseRate threshold hardLimit s).state := by
  refine onRoom_keepsDoors fun r => ?_
  dsimp only
  have hset := s.keepsDoors_modifyDefrost r fun x =>
    { x with
      baseRate := baseRate.toNat, threshold := forceNat 1 65535 threshold.toNat
      hardLimit := max (forceNat 1 65535 hardLimit.toNat) (forceNat 1 65535 threshold.toNat) }
  have htested := (hset.trans (.of_frame (testFrostDue_frame r _) (by decide))).trans (.of_frame (testForced_frame r _) (by decide))
  exact .ite (.ite (htested.trans (evaluateQueue_keepsDoors _)) htested) hset

theorem requestDefrost_keepsDoors (room : Byte) (s : State) : s.KeepsDoors (requestDefrost room s).state := by
  refine onRoom_keepsDoors fun r => ?_
  split
  · refine State.KeepsDoors.trans ?_ (evaluateQueue_keepsDoors _)
    exact .of_same rfl rfl rfl
  all_goals exact .refl s

theorem withdrawDefrost_keepsDoors (room : Byte) (s : State) : s.KeepsDoors (withdrawDefrost room s).state := by
  have hqueued : ∀ r, s.KeepsDoors (evaluateQueue
      { s.modifyDefrost r fun x => { x with state := .idle } with defrostQueue := s.defrostQueue.erase r }) := fun r => by
    refine State.KeepsDoors.trans ?_ (evaluateQueue_keepsDoors _)
    exact .of_same rfl rfl rfl
  have hlapsed : ∀ r, s.KeepsDoors ((s.modifyDefrost r fun x =>
      { x with state := .idle, phaseTimer := .stopped, forcedCycle := false }).returnLoad r) := fun r =>
    (s.keepsDoors_modifyDefrost r _).trans (State.keepsDoors_returnLoad _ r)
  refine onRoom_keepsDoors fun r => ?_
  split
  · exact hqueued r
  · exact hqueued r
  · exact done_keepsDoors (((hlapsed r).trans (givePermits_keepsDoors r _)).trans (evaluateQueue_keepsDoors _))
  all_goals exact .refl s

theorem defrostBegun_keepsDoors (room : Byte) (s : State) : s.KeepsDoors (defrostBegun room s).state := by
  refine onRoom_keepsDoors fun r => ?_
  dsimp only
  refine answer_ite_keepsDoors (fun _ => done_keepsDoors ?_) (.refl s)
  have hheating := s.keepsDoors_setDefrost r { s.defrost r with
    state := .heating, terminateMark := false, phaseTimer := .start (s.defrost r).heatingLimit }
  exact State.KeepsDoors.roomRecord (.ite ((hheating.defrostRecord r).returned _ _) hheating) r

theorem heatingEnded_keepsDoors (room cause : Byte) (s : State) : s.KeepsDoors (heatingEnded room cause s).state := by
  refine onRoom_keepsDoors fun r => ?_
  split
  · exact .refl s
  · next c _ =>
    dsimp only
    refine answer_ite_keepsDoors (fun _ => done_keepsDoors ?_) (.refl s)
    have hload := (s.keepsDoors_setDefrost r { s.defrost r with
      state := .drip, phaseTimer := .stopped, forcedMark := false, lastTermination := c }).trans (State.keepsDoors_returnLoad _ r)
    have hindex := (State.KeepsDoors.ite (p := (s.defrost r).overrunFlag = true) ((hload.defrostRecord r (f := fun x =>
      { x with overrunFlag := false, overrunUnposted := false })).returned .defrostOverrun (.room r)) hload).defrostRecord r
      (f := fun x => { x with frostIndex := 0 })
    exact ((State.KeepsDoors.ite ((hindex.defrostRecord r).returned _ _) hindex).defrostRecord r).trans (evaluateQueue_keepsDoors _)

theorem inhibitDefrost_keepsDoors (room : Byte) (seconds : Word16) (s : State) : s.KeepsDoors (inhibitDefrost room seconds s).state :=
  onRoom_keepsDoors fun r => .ite (.ite ((s.keepsDoors_setDefrost r _).trans (evaluateQueue_keepsDoors _)) (s.keepsDoors_setDefrost r _))
    (s.keepsDoors_setDefrost r _)

theorem configureProbe_keepsDoors (channel role room : Byte) (s : State) : s.KeepsDoors (configureProbe channel role room s).state := by
  unfold configureProbe
  split
  · refine answer_ite_keepsDoors (fun _ => answer_ite_keepsDoors (fun _ => .refl s) ?_) (.refl s)
    exact .of_same rfl rfl rfl
  · exact .refl s

theorem configureRoom_keepsDoors (room kind load : Byte) (s : State) : s.KeepsDoors (configureRoom room kind load s).state := by
  refine onRoom_keepsDoors fun r => ?_
  split
  · exact .refl s
  · exact answer_ite_keepsDoors (fun _ => .of_same rfl rfl rfl) (.refl s)

theorem configureClass_keepsDoors (cls : Byte) (threshold budget warn transit defrost : Word16) (s : State) :
    s.KeepsDoors (configureClass cls threshold budget warn transit defrost s).state := by
  unfold configureClass
  split
  · exact .refl s
  · exact answer_ite_keepsDoors (fun _ => .of_same rfl rfl rfl) (.refl s)

theorem enterPallet_keepsDoors (tag : Word32) (cls door : Byte) (s : State) : s.KeepsDoors (enterPallet tag cls door s).state := by
  unfold enterPallet
  split
  · refine answer_ite_keepsDoors (fun _ => .refl s) (answer_ite_keepsDoors (fun _ => .refl s)
      (answer_ite_keepsDoors (fun _ => .refl s) ?_))
    split
    · exact .refl s
    · exact answer_ite_keepsDoors (fun _ => .of_same rfl rfl rfl) (.refl s)
  · exact .refl s

theorem rejectPallet_keepsDoors (tag : Word32) (s : State) : s.KeepsDoors (rejectPallet tag s).state := by
  refine answer_ite_keepsDoors (fun _ => .refl s) ?_
  split
  · exact .refl s
  · exact answer_ite_keepsDoors (fun _ => .refl s) (.of_frame (freePallet_frame _ _ _ s) (by decide))

theorem requestMoveTo_keepsDoors (q : Fin 256) (origin destination : Place) (s : State) :
    s.KeepsDoors (requestMoveTo q origin destination s).state := by
  refine answer_ite_keepsDoors (fun _ => .refl s) (answer_ite_keepsDoors (fun _ => .refl s)
    (answer_ite_keepsDoors (fun _ => .refl s) (answer_ite_keepsDoors (fun _ => .refl s) ?_)))
  split
  · exact .refl s
  · exact answer_ite_keepsDoors (fun _ => .of_same rfl rfl rfl) (.refl s)

theorem requestMove_keepsDoors (tag : Word32) (destination : Byte) (s : State) : s.KeepsDoors (requestMove tag destination s).state := by
  refine answer_ite_keepsDoors (fun _ => .refl s) ?_
  split
  · exact .refl s
  · refine answer_ite_keepsDoors (fun _ => .refl s) ?_
    split
    · exact answer_ite_keepsDoors (fun _ => .refl s) (requestMoveTo_keepsDoors _ _ _ s)
    all_goals exact .refl s

theorem pick_keepsDoors (handle : Byte) (s : State) : s.KeepsDoors (pick handle s).state := by
  unfold pick
  split
  · exact .refl s
  · refine answer_ite_keepsDoors (fun _ => ?_) (.refl s)
    split <;> exact .of_same rfl rfl rfl

theorem endMove_keepsDoors (kind : RecordKind) (f : EndFlags) (settle : Option (PalletState × Place)) (m : Fin 32) (s : State) :
    s.KeepsDoors (endMove kind f settle m s) := .of_frame (endMove_frame kind f settle m s) (by decide)

theorem put_keepsDoors (handle : Byte) (actual : Option Byte) (s : State) : s.KeepsDoors (put handle actual s).state := by
  unfold put
  split
  · exact .refl s
  · refine answer_ite_keepsDoors (fun _ => ?_) (.refl s)
    split
    · exact .refl s
    · exact endMove_keepsDoors _ _ _ _ s

theorem cancelMove_keepsDoors (handle : Byte) (location : Option Byte) (s : State) : s.KeepsDoors (cancelMove handle location s).state := by
  unfold cancelMove
  split
  · exact .refl s
  · refine answer_ite_keepsDoors (fun _ => endMove_keepsDoors _ _ _ _ s) ?_
    split
    · exact endMove_keepsDoors _ _ _ _ s
    · split
      · exact .refl s
      · exact endMove_keepsDoors _ _ _ _ s

theorem setupComplete_keepsDoors (p : Port) {s : State} (hmode : s.mode = .setup) : s.KeepsDoors (setupComplete p s).state := by
  have hflag : s.KeepsDoors (s.setPort p { s.port p with setupComplete := true }) := .of_same rfl rfl rfl
  have hrun : ∀ t : State, t.mode = .setup → t.KeepsDoors (enterRun t) := fun t => enterRun_keepsDoors
  have hreject : ∀ (t : State) (detail : Option Word16), t.KeepsDoors (t.clearSetupFlags.post .setupRejected .none detail) :=
    fun t detail => .of_same rfl rfl rfl
  have hsetup : (s.setPort p { s.port p with setupComplete := true }).mode = .setup := hmode
  unfold setupComplete
  generalize s.setPort p { s.port p with setupComplete := true } = t at *
  dsimp only
  split
  · split
    · dsimp only
      exact hflag.trans (hrun t hsetup)
    · dsimp only
      exact hflag.trans (hreject t _)
  · exact hflag

/-! ### A request performed -/

/-- The mode that a request which reads or writes the doors by it needs (R163). -/
def modeNeeded : Request → Option Mode
  | .setupComplete | .configureDoor .. => some .setup
  | .warmRestart | .doorOverride .. | .reportTrailerTemperature .. => some .run
  | _ => none

theorem setupOnly_of_needed {r : Request} (h : modeNeeded r = some .setup) : setupOnly r = true := by
  cases r with
  | setupComplete => rfl
  | configureDoor => rfl
  | _ => cases h

theorem perform_keepsDoors (p : Port) {r : Request} {s : State} (h : ∀ m, modeNeeded r = some m → s.mode = m) :
    s.KeepsDoors (perform p r s).state := by
  unfold perform
  cases r with
  | readStatus part => exact (readStatus_state p part s).symm ▸ .refl s
  | readClock => exact .refl s
  | readRoom room => exact onRoom_keepsDoors fun _ => .refl s
  | latchRooms => exact latchRooms_keepsDoors p s
  | readRoomSnapshot part => exact readRoomSnapshot_keepsDoors p part s
  | readDoor door => exact onDoor_keepsDoors fun d => reply_keepsDoors (s.keepsDoors_modifyDoor d) _ _
  | readPallet tag => exact (readPallet_state tag s).symm ▸ .refl s
  | readProbe channel => exact (readProbe_state channel s).symm ▸ .refl s
  | takeAlarm => exact takeAlarm_keepsDoors p s
  | endAlarm => exact endAlarm_keepsDoors p s
  | setAlarmRoutes code routed => exact setAlarmRoutes_keepsDoors p code routed s
  | setAlarmFloor floor => exact .of_same rfl rfl rfl
  | setupComplete => exact setupComplete_keepsDoors p (h .setup rfl)
  | warmRestart => exact done_keepsDoors (restartPart_keepsDoors (h .run rfl))
  | configureDoor => exact configureDoor_keepsDoors _ _ _ _ _ _ _ (h .setup rfl)
  | setDoorLines => exact setDoorLines_keepsDoors _ _ _ _ _ _ s
  | setDoorTimes door sl bg rt => exact onDoor_keepsDoors fun d => doneClamped_keepsDoors (s.keepsDoors_modifyDoor d) _
  | doorArmSeal door => exact doorArmSeal_keepsDoors door s
  | doorOpenPermit door => exact doorOpenPermit_keepsDoors door s
  | doorClose door => exact doorClose_keepsDoors door s
  | doorRelease door => exact doorRelease_keepsDoors door s
  | doorOverride door on => exact doorOverride_keepsDoors door on (h .run rfl)
  | doorClearFault door => exact doorClearFault_keepsDoors door s
  | reportTrailerTemperature door temperature => exact reportTrailerTemperature_keepsDoors door temperature (h .run rfl)
  | configureRoom => exact configureRoom_keepsDoors _ _ _ s
  | configureProbe => exact configureProbe_keepsDoors _ _ _ s
  | setProbeCalibration channel gain offset => exact setProbeCalibration_keepsDoors channel gain offset s
  | setRoomLimits room upper lower hd ld weight => exact setRoomLimits_keepsDoors room upper lower hd ld weight s
  | setFrostParameters room rate threshold limit => exact setFrostParameters_keepsDoors room rate threshold limit s
  | setDefrostTimes room hl dt rl tt gh => exact onRoom_keepsDoors fun r => doneClamped_keepsDoors (s.keepsDoors_modifyDefrost r _) _
  | setHeaterCapacity => exact answer_ite_keepsDoors (fun _ => .of_same rfl rfl rfl) (.refl s)
  | requestDefrost room => exact requestDefrost_keepsDoors room s
  | withdrawDefrost room => exact withdrawDefrost_keepsDoors room s
  | defrostBegun room => exact defrostBegun_keepsDoors room s
  | heatingEnded room cause => exact heatingEnded_keepsDoors room cause s
  | configureClass => exact configureClass_keepsDoors _ _ _ _ _ _ s
  | setExposureTick => exact answer_ite_keepsDoors (fun _ => .of_same rfl rfl rfl) (.refl s)
  | setMoveTimes pl tl => exact .of_same rfl rfl rfl
  | setJournalThreshold threshold => exact setJournalThreshold_keepsDoors threshold s
  | enterPallet tag cls door => exact enterPallet_keepsDoors tag cls door s
  | rejectPallet tag => exact rejectPallet_keepsDoors tag s
  | requestMove tag destination => exact requestMove_keepsDoors tag destination s
  | pick handle => exact pick_keepsDoors handle s
  | put handle actual => exact put_keepsDoors handle actual s
  | cancelMove handle location => exact cancelMove_keepsDoors handle location s
  | readJournal count => exact (readJournal_state count s).symm ▸ .refl s
  | releaseJournal count => exact releaseJournal_keepsDoors count s
  | setProductCeiling room present ceiling => exact setProductCeiling_keepsDoors room present ceiling s
  | inhibitDefrost room seconds => exact inhibitDefrost_keepsDoors room seconds s

/-- A row that SETUP takes parses no request that needs RUN (R163). -/
theorem requestTable_run : ∀ row ∈ requestTable,
    row.setup = .wrongMode ∨ ∀ l, (row.parse l).all (fun r => decide (modeNeeded r ≠ some .run)) = true := by
  simp only [requestTable, List.forall_mem_cons, reduceCtorEq, false_or, true_or, true_and, List.not_mem_nil, false_imp_iff,
    implies_true, and_true]
  and_intros
  all_goals
    intro l
    split <;> rfl

/-- A request that is taken has the mode it needs (R161, R163). -/
theorem State.mode_of_takes {s : State} {p : Port} {code : Byte} {row : RequestRow} (hrow : requestRow code = some row)
    (htakes : s.takes p row = true) {l : List Byte} {r : Request} (hr : row.parse l = some r) {m : Mode}
    (hm : modeNeeded r = some m) : s.mode = m := by
  cases hmode : s.mode with
  | run =>
    have hsetupOnly := setupOnly_of_run hmode hrow htakes hr
    cases m with
    | run => rfl
    | setup => exact absurd ((setupOnly_of_needed hm).symm.trans hsetupOnly) nofun
  | setup =>
    cases m with
    | setup => rfl
    | run =>
      obtain hwrong | hparse := requestTable_run row (requestRow_mem hrow)
      · rw [State.takes, hmode] at htakes
        dsimp only at htakes
        rw [hwrong] at htakes
        cases htakes
      · have hnot := hparse l
        rw [hr] at hnot
        exact absurd hm (of_decide_eq_true hnot)

/-! ### Every command -/

theorem answerFrame_keepsDoors (p : Port) (f : Frame) (s : State) : s.KeepsDoors (answerFrame p f s).state := by
  unfold answerFrame
  split
  · exact .refl s
  · next row hrow =>
    unfold answerRow
    refine answer_ite_keepsDoors (fun _ => ?_) (.refl s)
    split
    · exact .refl s
    · next r hr => exact answer_ite_keepsDoors (fun htakes =>
        perform_keepsDoors p fun m hm => State.mode_of_takes hrow htakes hr hm) (.refl s)

theorem State.keepsDoors_setPort (s : State) (p : Port) (x : PortControl) : s.KeepsDoors (s.setPort p x) := .of_same rfl rfl rfl

theorem takeFrame_keepsDoors (p : Port) (f : Frame) (s : State) : s.KeepsDoors (takeFrame p f s) :=
  ((settleTimers_keepsDoors s).trans (answerFrame_keepsDoors p f _)).trans (State.keepsDoors_setPort _ p _)

theorem frameCompletes_keepsDoors (p : Port) (f : Frame) (s : State) : s.KeepsDoors (frameCompletes p f s) := by
  unfold frameCompletes
  split
  · exact takeFrame_keepsDoors p f s
  · exact s.keepsDoors_setPort p _
  · exact s.keepsDoors_setPort p _

theorem frameArrives_keepsDoors (p : Port) (f : Frame) (s : State) : s.KeepsDoors (frameArrives p f s) :=
  .ite (.refl s) ((s.keepsDoors_setPort p _).trans (frameCompletes_keepsDoors p f _))

theorem unknownArrives_keepsDoors (p : Port) (code tag : Byte) (payload : List Byte) (s : State) :
    s.KeepsDoors (unknownArrives p code tag payload s) := .ite (frameArrives_keepsDoors p _ s) (.refl s)

theorem receiveByte_keepsDoors (p : Port) (b : Byte) (stopMark : Bool) (s : State) :
    s.KeepsDoors (receiveByte p b stopMark s) := by
  unfold receiveByte
  dsimp only
  refine .ite (.refl s) (.ite (s.keepsDoors_setPort p _) ?_)
  split
  · exact s.keepsDoors_setPort p _
  · exact (s.keepsDoors_setPort p _).trans (frameCompletes_keepsDoors p _ _)

theorem endReply_keepsDoors (p : Port) (s : State) : s.KeepsDoors (endReply p s) := by
  unfold endReply
  dsimp only
  split
  · exact .refl s
  · exact s.keepsDoors_setPort p _
  · exact (s.keepsDoors_setPort p _).trans (takeFrame_keepsDoors p _ _)

theorem resetLink_keepsDoors (p : Port) (s : State) : s.KeepsDoors (resetLink p s) :=
  .ite (.refl s) ((s.keepsDoors_setPort p _).trans (State.keepsDoors_setAlarms _ _))

theorem endBreak_keepsDoors (p : Port) (s : State) : s.KeepsDoors (endBreak p s) :=
  .ite (s.keepsDoors_setPort p _) (.refl s)

/-- The cold reset doors are VACANT, with their outputs off (R41, R46). -/
theorem reset_keepsDoors (s : State) : s.KeepsDoors (resetPart s) := by
  have hdoor : ∀ d, (resetPart s).door d = .initial := fun d => Vector.getElem_replicate _
  refine ⟨fun _ d => ?_, fun _ d => ?_⟩
  · rw [hdoor]
    rfl
  · rw [hdoor]
    unfold Door.agrees Door.quiet
    exact ⟨by decide, fun _ => by decide⟩

theorem exec_keepsDoors {c : Instr} {s t : State} (h : exec c s = .next t) : s.KeepsDoors t := by
  cases c
  case coldReset => cases h; exact reset_keepsDoors s
  case secondTick order => cases h; exact tickSecond_keepsDoors order s
  case sampleStrobe tp pc sm => cases h; exact sampleStrobe_keepsDoors tp pc sm s
  case debouncedChange d i => cases h; exact debouncedChange_keepsDoors d i s
  case exposureTick first => cases h; exact tickExposure_keepsDoors first s
  case converterTransactionComplete bits => cases h; exact .of_frame (completeTransaction_frame bits s) (by decide)
  case converterReplyLimitExpiry => cases h; exact .of_frame (expireReplyLimit_frame s) (by decide)
  case roundComplete first => cases h; exact completeRound_keepsDoors first s
  case highTimerExpiry r => cases h; exact .of_frame (expireHigh_frame r s) (by decide)
  case lowTimerExpiry r => cases h; exact .of_frame (expireLow_frame r s) (by decide)
  case sealTimerExpiry d => cases h; exact expireSeal_keepsDoors d s
  case breachGraceExpiry d => cases h; exact expireBreach_keepsDoors d s
  case releaseTimerExpiry d => cases h; exact expireRelease_keepsDoors d s
  case grantHoldExpiry r => cases h; exact expireGrantHold_keepsDoors r s
  case heatingLimitExpiry r => cases h; exact .of_frame (expireHeating_frame r s) (by decide)
  case dripTimeExpiry r => cases h; exact expireDrip_keepsDoors r s
  case recoveryLimitExpiry r => cases h; exact .of_frame (expireRecovery_frame r s) (by decide)
  case inhibitExpiry r => cases h; exact .of_frame (expireInhibit_frame r s) (by decide)
  case lapseTimerExpiry m => cases h; exact .of_frame (expireLapse_frame m s) (by decide)
  case transitTimerExpiry m => cases h; exact .of_frame (expireTransit_frame m s) (by decide)
  case byteReceived p b stopMark => cases h; exact receiveByte_keepsDoors p b stopMark s
  case unknownRequest p code tag payload => cases h; exact unknownArrives_keepsDoors p code tag payload s
  case frameGapTimeout p => cases h; exact s.keepsDoors_setPort p _
  case replySent p => cases h; exact endReply_keepsDoors p s
  case linkReset p => cases h; exact resetLink_keepsDoors p s
  case rxReturnToMark p => cases h; exact endBreak_keepsDoors p s
  all_goals
    cases h
    exact frameArrives_keepsDoors _ _ s

/-- A step runs the first command that waits, or stays. -/
theorem step_keepsDoors {s t : State} (h : step s = .next t) : s.KeepsDoors t := by
  unfold step at h
  split at h
  · cases h
    exact .refl s
  · next c rest _ => exact State.KeepsDoors.trans (t := { s with pending := rest }) (.of_same rfl rfl rfl) (exec_keepsDoors h)

/-- A record whose outputs are driven has each pin at its line's active level exactly while the output is on (R46). -/
theorem Door.driven_outputs {x : Door} {lines : LineSettings} (h : x = x.driven lines) :
    x.sb = (match x.state with
        | .sealing | .sealed | .working => true
        | .breach => x.breachOrigin
        | .vacant | .docked | .releasing | .fault => false)
      ∧ x.pr = (x.override || match x.state with
        | .sealed => decide (x.permit = .given)
        | .working => !x.closeMark
        | .vacant | .docked | .sealing | .breach | .releasing | .fault => false)
      ∧ (x.sbPin = lines.sb ↔ x.sb = true) ∧ (x.prPin = lines.pr ↔ x.pr = true) := by
  have hpin : ∀ output level : Bool, (output == level) = level ↔ output = true := by decide
  refine ⟨congrArg Door.sb h, congrArg Door.pr h, ?_, ?_⟩
  · rw [h]
    exact hpin _ _
  · rw [h]
    exact hpin _ _

/-- Settles O18: every command keeps the records in order. -/
theorem stepKeepsDoorRecords : Obligations.StepKeepsDoorRecords := fun _ _ h hstep => (step_keepsDoors hstep).records h

/-- Settles O14: every command keeps the outputs driven, and a quiet record has both off. -/
theorem stepKeepsDoorOutputs : Obligations.StepKeepsDoorOutputs := by
  intro s t h hstep
  have hkept := step_keepsDoors hstep
  refine ⟨hkept.outputs h, fun d => Door.driven_outputs (hkept.outputs h d), fun hrecords d hquiet => ?_⟩
  obtain ⟨-, -, -, -, hsb, hpr⟩ := (hkept.records hrecords d).2 hquiet
  exact ⟨hsb, hpr⟩

end Sys2Proof.Machine
end

section
/-! PROOFS. A run of records written one after the other: the Journal and the table it leaves (R119, R134, R135, R139, R146). -/

namespace Sys2Proof.Machine

set_option Elab.async false

/-! ### The conditions that end with a trailer or a pallet (R58, R97) -/

/-- The codes of the conditions that a write-off or a release returns. -/
def endsHere (code : AlarmCode) : Prop := code = .exposureWarning ∨ code = .exposureExceeded ∨ code = .doorFault

theorem endsHere.ne_tableFull {code : AlarmCode} (h : endsHere code) : code ≠ .tableFull := by
  obtain rfl | rfl | rfl := h <;> nofun

/-- Between two tables no condition that ends comes to stand: its entry was there, and stays RETURNED where it was. -/
def AlarmTable.settles (t u : AlarmTable) : Prop :=
  t.zeroKept → u.zeroKept ∧ ∀ (j : Fin 48) (f : AlarmEntry), u.entries[j] = some f → endsHere f.code →
    ∃ e, t.entries[j] = some e ∧ e.code = f.code ∧ e.subject = f.subject ∧ (e.condition = .returned → f.condition = .returned)

/-- The entries of a pair are RETURNED. -/
def AlarmTable.stilled (code : AlarmCode) (subject : Subject) (t : AlarmTable) : Prop :=
  ∀ (i : Fin 48) (e : AlarmEntry), t.entries[i] = some e → e.code = code → e.subject = subject → e.condition = .returned

section
variable {t u v : AlarmTable} {code : AlarmCode} {subject : Subject}

theorem AlarmTable.settles_refl (t : AlarmTable) : t.settles t := fun h => ⟨h, fun _ f hf _ => ⟨f, hf, rfl, rfl, id⟩⟩

theorem AlarmTable.settles_trans (h : t.settles u) (k : u.settles v) : t.settles v := by
  intro hz
  obtain ⟨hu, hentries⟩ := h hz
  obtain ⟨hv, hentries'⟩ := k hu
  refine ⟨hv, fun j g hg hends => ?_⟩
  obtain ⟨f, hf, hcode, hsubject, hreturned⟩ := hentries' j g hg hends
  obtain ⟨e, he, hcode', hsubject', hreturned'⟩ := hentries j f hf (hcode ▸ hends)
  exact ⟨e, he, hcode'.trans hcode, hsubject'.trans hsubject, hreturned ∘ hreturned'⟩

/-- What leaves the entries of every such condition settles. -/
theorem AlarmTable.settles_of_beside (h : ∀ code subject, endsHere code → AlarmTable.beside code subject t u) : t.settles u :=
  fun hz => ⟨(h .doorFault .none (.inr (.inr rfl)) hz).1, fun j f hf hends =>
    ⟨f, ((h f.code f.subject hends hz).2 j f rfl rfl).mp hf, rfl, rfl, id⟩⟩

/-- A raise of another condition settles. -/
theorem AlarmTable.raise_settles (t : AlarmTable) (now : Word32) (hcode : ¬ endsHere code) (tag : Option Word32)
    (detail : Option Word16) : t.settles (t.raise now false code subject tag detail).1 :=
  AlarmTable.settles_of_beside fun _ _ hends => AlarmTable.raise_beside hends.ne_tableFull (fun h => absurd (h ▸ hends) hcode)
    t now tag detail

/-- A return settles, whatever its pair. -/
theorem AlarmTable.return_settles (t : AlarmTable) (hfull : code ≠ .tableFull) (subject : Subject) :
    t.settles (t.return code subject) := by
  intro hz
  have hu := AlarmTable.return_zeroKept hz hfull subject
  refine ⟨hu, fun j f hf hends => ?_⟩
  have hj0 : j ≠ 0 := by
    rintro rfl
    exact hends.ne_tableFull (hu f hf)
  obtain ⟨i, e, he, hc, hs, hr⟩ | ⟨hr, -⟩ := t.return_cases code subject
  · have hi : i ≠ 0 := fun h0 => hfull (hc ▸ hz e (h0 ▸ he))
    rw [hr] at hf
    by_cases hji : j = i
    · subst hji
      obtain h | h := (t.markReturned j e).testFree_own hi
      · exact absurd (hf.symm.trans h) nofun
      · rw [h, AlarmTable.markReturned_entries, if_pos rfl] at hf
        cases hf
        exact ⟨e, he, rfl, rfl, fun _ => rfl⟩
    · rw [(AlarmTable.testFree_entries _ hi).1 j hj0 hji, AlarmTable.markReturned_entries, if_neg (Ne.symm hji)] at hf
      exact ⟨f, hf, rfl, rfl, id⟩
  · rw [hr] at hf
    exact ⟨f, hf, rfl, rfl, id⟩

theorem AlarmTable.settles_single (h : t.settles u) (hz : t.zeroKept) (hends : endsHere code) (ht : t.single code subject) :
    u.single code subject := by
  obtain ⟨-, hentries⟩ := h hz
  intro i j a b ha hb hca hsa hcb hsb
  obtain ⟨a', ha', hca', hsa', -⟩ := hentries i a ha (hca.symm ▸ hends)
  obtain ⟨b', hb', hcb', hsb', -⟩ := hentries j b hb (hcb.symm ▸ hends)
  exact ht i j a' b' ha' hb' (hca'.trans hca) (hsa'.trans hsa) (hcb'.trans hcb) (hsb'.trans hsb)

theorem AlarmTable.settles_stilled (h : t.settles u) (hz : t.zeroKept) (hends : endsHere code)
    (ht : t.stilled code subject) : u.stilled code subject := by
  obtain ⟨-, hentries⟩ := h hz
  intro i f hf hc hs
  obtain ⟨e, he, hce, hse, hreturned⟩ := hentries i f hf (hc.symm ▸ hends)
  exact hreturned (ht i e he (hce.trans hc) (hse.trans hs))

/-- A return stills its pair, where no two entries hold it. -/
theorem AlarmTable.return_stilled (hfull : code ≠ .tableFull) (hz : t.zeroKept) (ht : t.single code subject) :
    (t.return code subject).stilled code subject :=
  fun _ _ hf hc hs => AlarmTable.return_returned hfull hz ht hf hc hs

end

/-! ### A free entry (R144, R148) -/

/-- Entry 0 is TABLE_FULL's alone, and another entry is free. -/
def AlarmTable.roomy (t : AlarmTable) : Prop := t.zeroKept ∧ ∃ i : Fin 48, i ≠ 0 ∧ t.entries[i] = none

theorem AlarmTable.return_roomy {t : AlarmTable} (h : t.roomy) {code : AlarmCode} (hfull : code ≠ .tableFull) (subject : Subject) :
    (t.return code subject).roomy := by
  obtain ⟨hz, j, hj0, hj⟩ := h
  refine ⟨AlarmTable.return_zeroKept hz hfull subject, j, hj0, ?_⟩
  obtain ⟨i, e, he, hc, -, hr⟩ | ⟨hr, -⟩ := t.return_cases code subject
  · have hi : i ≠ 0 := fun h0 => hfull (hc ▸ hz e (h0 ▸ he))
    have hji : j ≠ i := by
      rintro rfl
      rw [he] at hj
      cases hj
    rw [hr, (AlarmTable.testFree_entries _ hi).1 j hj0 hji, AlarmTable.markReturned_entries, if_neg (Ne.symm hji)]
    exact hj
  · rw [hr]
    exact hj

/-- A raise with an entry free is entered (R144). -/
theorem AlarmTable.raise_of_roomy {t : AlarmTable} (h : t.roomy) (now : Word32) (code : AlarmCode) (subject : Subject)
    (tag : Option Word32) (detail : Option Word16) : (t.raise now false code subject tag detail).2 = true := by
  obtain ⟨-, j, hj0, hj⟩ := h
  obtain ⟨_, _, -, -, -, hr⟩ | ⟨_, -, -, -, hr⟩ | ⟨hall, -, -⟩ := t.raise_cases now false code subject tag detail
  · rw [hr]
  · rw [hr]
  · have := hall j hj0
    rw [hj] at this
    cases this

/-! ### One record written (R134, R139) -/

/-- The raise of JOURNAL_HIGH for a held count (R139). -/
def highRaise (now : Word32) (a : AlarmTable) (held : Nat) : AlarmTable × Bool :=
  a.raise now false .journalHigh .none none (some (BitVec.ofNat 16 held))

theorem raiseJournalHigh_eq (s : State) : raiseJournalHigh s = (s.setJournal { s.journal with
    highFlag := true
    highUnposted := s.journal.highUnposted || !(highRaise s.clock s.alarms s.journal.held).2 }).setAlarms
      (highRaise s.clock s.alarms s.journal.held).1 := by
  rw [raiseJournalHigh, State.raiseCondition_eq]
  change (if (highRaise s.clock s.alarms s.journal.held).2 = true then _ else _) = _
  cases (highRaise s.clock s.alarms s.journal.held).2
  · rw [Bool.not_false, Bool.or_true]
    rfl
  · rw [Bool.not_true, Bool.or_false]
    rfl

theorem testJournalRaise_eq (s : State) : testJournalRaise s
    = if s.journal.threshold ≤ s.journal.held ∧ s.journal.highFlag = false then raiseJournalHigh s else s := by
  rw [testJournalRaise]
  exact if_congr (by simp) rfl rfl

theorem highRaise_settles (now : Word32) (a : AlarmTable) (held : Nat) : a.settles (highRaise now a held).1 :=
  a.raise_settles now (by rintro (h | h | h) <;> cases h) none _

/-! ### Records written in a row -/

/-- The Journal's records after those of a list, each with the sequence number it gets (R134). -/
def numbered (next : Word32) (written : List (Word32 → JournalRecord)) : List JournalRecord :=
  written.mapIdx fun i j => j (next + BitVec.ofNat 32 i)

/-- The records written bring the held count to the threshold (R139). -/
def Journal.fills (j : Journal) (written : List (Word32 → JournalRecord)) : Prop :=
  written ≠ [] ∧ j.threshold ≤ j.held + written.length

/-- From one state to another some records are written, with the test of R139 after each: the Journal, and JOURNAL_HIGH in the table. -/
structure State.Wrote (s t : State) (written : List (Word32 → JournalRecord)) : Prop where
  clock : t.clock = s.clock
  records : t.journal.records = s.journal.records ++ numbered s.journal.next written
  held : t.journal.held = s.journal.held + written.length
  next : t.journal.next = s.journal.next + BitVec.ofNat 32 written.length
  threshold : t.journal.threshold = s.journal.threshold
  flag : t.journal.highFlag = true ↔ s.journal.highFlag = true ∨ s.journal.fills written
  unposted : s.journal.highFlag = true ∨ ¬ s.journal.fills written → t.journal.highUnposted = s.journal.highUnposted
  raised : s.journal.highFlag = false → s.journal.fills written → s.alarms.zeroKept → t.journal.highUnposted = true
    ∨ t.alarms.shows 0 s.clock .journalHigh .none none
      (some (BitVec.ofNat 16 (max s.journal.threshold (s.journal.held + 1))))
  stands : s.journal.highFlag = true → AlarmTable.beside .journalHigh .none s.alarms t.alarms
  settles : s.alarms.settles t.alarms

section
variable {s t u : State} {w w' : List (Word32 → JournalRecord)}

theorem numbered_append (next : Word32) (w w' : List (Word32 → JournalRecord)) :
    numbered next (w ++ w') = numbered next w ++ numbered (next + BitVec.ofNat 32 w.length) w' := by
  have hshift : ∀ i : Nat, next + BitVec.ofNat 32 (i + w.length) = next + BitVec.ofNat 32 w.length + BitVec.ofNat 32 i := fun i => by
    rw [Nat.add_comm, BitVec.ofNat_add, BitVec.add_assoc]
  simp only [numbered, List.mapIdx_append, hshift]

theorem Journal.fills_append {j k : Journal} (hthreshold : k.threshold = j.threshold) (hheld : k.held = j.held + w.length) :
    j.fills (w ++ w') ↔ j.fills w ∨ k.fills w' := by
  simp only [Journal.fills, hthreshold, hheld, List.length_append]
  cases w' with
  | nil => simp
  | cons a w' =>
    cases w with
    | nil => simp
    | cons b w =>
      simp only [List.length_cons, ne_eq, reduceCtorEq, not_false_eq_true, true_and, List.cons_append]
      omega

/-- The count at which a run of records fills the Journal: its first that brings it to the threshold (R139). -/
theorem Journal.fills_at {j k : Journal} (hthreshold : k.threshold = j.threshold) (hheld : k.held = j.held + w.length)
    (hnot : ¬ j.fills w) : max k.threshold (k.held + 1) = max j.threshold (j.held + 1) := by
  rw [hthreshold, hheld]
  cases w with
  | nil => rfl
  | cons b w =>
    have hlow : ¬ j.threshold ≤ j.held + (b :: w).length := fun h => hnot ⟨nofun, h⟩
    rw [List.length_cons] at hlow ⊢
    omega

/-- What leaves the Journal writes no record. -/
theorem State.Wrote.of_journal (hjournal : t.journal = s.journal) (hclock : t.clock = s.clock)
    (hstands : AlarmTable.beside .journalHigh .none s.alarms t.alarms) (hsettles : s.alarms.settles t.alarms) :
    s.Wrote t [] where
  clock := hclock
  records := by simp [hjournal, numbered]
  held := by simp [hjournal]
  next := by simp [hjournal]
  threshold := by rw [hjournal]
  flag := by simp [hjournal, Journal.fills]
  unposted _ := by rw [hjournal]
  raised _ h := absurd rfl h.1
  stands _ := hstands
  settles := hsettles

theorem State.Wrote.refl (s : State) : s.Wrote s [] :=
  .of_journal rfl rfl (AlarmTable.beside_refl _) (AlarmTable.settles_refl _)

theorem AlarmTable.beside_shows {a b : AlarmTable} (h : AlarmTable.beside .journalHigh .none a b) (hz : a.zeroKept)
    {now : Word32} {detail : Option Word16} (k : a.shows 0 now .journalHigh .none none detail) :
    b.shows 0 now .journalHigh .none none detail := by
  obtain ⟨i, e, hi, he, hc, hs, hrest⟩ := k
  exact ⟨i, e, hi, ((h hz).2 i e hc hs).mpr he, hc, hs, hrest⟩

/-- Runs of records follow on each other. -/
theorem State.Wrote.trans (h : s.Wrote t w) (k : t.Wrote u w') : s.Wrote u (w ++ w') := by
  have hfills := Journal.fills_append (w' := w') h.threshold h.held
  refine ⟨k.clock.trans h.clock, ?_, ?_, ?_, k.threshold.trans h.threshold, ?_, fun hno => ?_, fun hlow hfull hz => ?_,
    fun hflag => AlarmTable.beside_trans (h.stands hflag) (k.stands (h.flag.mpr (.inl hflag))),
    AlarmTable.settles_trans h.settles k.settles⟩
  · rw [k.records, h.records, h.next, numbered_append, List.append_assoc]
  · rw [k.held, h.held, List.length_append, Nat.add_assoc]
  · rw [k.next, h.next, List.length_append, BitVec.ofNat_add, BitVec.add_assoc]
  · rw [k.flag, h.flag, hfills, or_assoc]
  · rw [hfills, not_or] at hno
    rw [k.unposted (hno.imp (fun hflag => h.flag.mpr (.inl hflag)) And.right), h.unposted (hno.imp_right And.left)]
  · by_cases hw : s.journal.fills w
    · have hflag := h.flag.mpr (.inr hw)
      rw [k.unposted (.inl hflag)]
      exact (h.raised hlow hw hz).imp_right (AlarmTable.beside_shows (k.stands hflag) (h.settles hz).1)
    · have hflag : t.journal.highFlag = false := Bool.eq_false_iff.mpr fun hflag =>
        (h.flag.mp hflag).elim (Bool.eq_false_iff.mp hlow) hw
      have hraised := k.raised hflag ((hfills.mp hfull).resolve_left hw) (h.settles hz).1
      rwa [Journal.fills_at h.threshold h.held hw, h.clock] at hraised

/-- One record written, with its test (R134, R139). -/
theorem writeRecord_wrote (j : JournalRecord) (s : State) :
    s.Wrote (writeRecord j s) [fun n => { j with sequence := n }] := by
  have hrecords : s.journal.records ++ numbered s.journal.next [fun n => { j with sequence := n }]
      = s.journal.records ++ [{ j with sequence := s.journal.next }] := by
    simp [numbered]
  by_cases hraises : s.journal.threshold ≤ s.journal.held + 1 ∧ s.journal.highFlag = false
  · have hwrite : writeRecord j s = raiseJournalHigh (s.setJournal
        { s.journal with
          records := s.journal.records ++ [{ j with sequence := s.journal.next }]
          held := s.journal.held + 1
          next := s.journal.next + 1 }) := (testJournalRaise_eq _).trans (if_pos hraises)
    obtain ⟨hfull, hlow⟩ := hraises
    rw [hwrite, raiseJournalHigh_eq]
    refine ⟨rfl, hrecords.symm, rfl, rfl, rfl, ⟨fun _ => .inr ⟨nofun, hfull⟩, fun _ => rfl⟩, fun hno => ?_, fun _ _ _ => ?_,
      fun hflag => absurd (hflag.symm.trans hlow) nofun, highRaise_settles _ _ _⟩
    · exact absurd ⟨nofun, hfull⟩ (hno.resolve_left (Bool.eq_false_iff.mp hlow))
    · cases hentered : (highRaise s.clock s.alarms (s.journal.held + 1)).2 with
      | false => exact .inl (show (s.journal.highUnposted || !(highRaise s.clock s.alarms (s.journal.held + 1)).2) = true by
          rw [hentered, Bool.not_false, Bool.or_true])
      | true =>
        rw [Nat.max_eq_right hfull]
        exact .inr (AlarmTable.raise_shows rfl (.inl rfl) hentered)
  · have hwrite : writeRecord j s = s.setJournal
        { s.journal with
          records := s.journal.records ++ [{ j with sequence := s.journal.next }]
          held := s.journal.held + 1
          next := s.journal.next + 1 } := (testJournalRaise_eq _).trans (if_neg hraises)
    rw [hwrite]
    refine ⟨rfl, hrecords.symm, rfl, rfl, rfl, ⟨.inl, fun h => ?_⟩, fun _ => rfl, fun hlow hfull _ => absurd ⟨hfull.2, hlow⟩ hraises,
      fun _ => AlarmTable.beside_refl _, AlarmTable.settles_refl _⟩
    refine h.elim id fun hfull => ?_
    by_contra hlow
    exact hraises ⟨hfull.2, Bool.eq_false_iff.mpr hlow⟩

end

end Sys2Proof.Machine
end

section
/-! PROOFS. Pallets that leave with a trailer (R56, R59, R97): each freed in slot order, its record written and its alarms returned. -/

namespace Sys2Proof.Machine

set_option Elab.async false

/-! ### Turns in order -/

/-- What holds of the indices whose turns have been taken, one more at a time, holds of all after the last. -/
theorem forEach_prefix {σ : Type} {n : Nat} {f : Fin n → σ → σ} {P : List (Fin n) → σ → Prop} {s : σ} (nil : P [] s)
    (snoc : ∀ l i u, i ∉ l → P l u → P (l ++ [i]) (f i u)) : P (List.finRange n) (forEach n f s) := by
  have go : ∀ l : List (Fin n), l.Nodup → P l (l.foldl (fun s i => f i s) s) := by
    intro l
    induction l using List.reverseRecOn with
    | nil => exact fun _ => nil
    | append_singleton l i ih =>
      intro hl
      obtain ⟨hl, -, hnot⟩ := List.nodup_append.mp hl
      rw [List.foldl_append]
      exact snoc l i _ (fun hi => hnot i hi i (List.mem_singleton.mpr rfl) rfl) (ih hl)
  exact go _ (List.nodup_finRange n)

/-! ### Returns and freed slots -/

section
variable {s t u : State} {w : List (Word32 → JournalRecord)}

/-- A return of another condition than JOURNAL_HIGH, after some records. -/
theorem State.Wrote.returned (h : s.Wrote t w) {code : AlarmCode} (hfull : code ≠ .tableFull) (hhigh : code ≠ .journalHigh)
    (subject : Subject) : s.Wrote (t.returnCondition code subject) w := by
  have hreturn : t.Wrote (t.returnCondition code subject) [] :=
    .of_journal rfl rfl (AlarmTable.return_beside (code := .journalHigh) nofun hfull (fun h => absurd h hhigh) _)
      (AlarmTable.return_settles _ hfull _)
  simpa using h.trans hreturn

/-- What leaves the Journal, the clock and the table leaves the records written. -/
theorem State.Wrote.aside (h : s.Wrote t w) (hjournal : u.journal = t.journal) (hclock : u.clock = t.clock)
    (halarms : u.alarms = t.alarms) : s.Wrote u w := by
  have hsame : t.Wrote u [] := .of_journal hjournal hclock (halarms ▸ AlarmTable.beside_refl _) (halarms ▸ AlarmTable.settles_refl _)
  simpa using h.trans hsame

/-- The mark of JOURNAL_HIGH stays as long as an entry is free for its raise, and returns leave it free (R139, R148). -/
def State.keepsRoom (s t : State) : Prop :=
  (s.journal.highFlag = true → t.journal.highFlag = true ∧ t.journal.highUnposted = s.journal.highUnposted)
    ∧ (s.journal.highFlag = false → s.alarms.roomy → t.journal.highUnposted = s.journal.highUnposted
      ∧ (t.journal.highFlag = false → t.alarms.roomy))

theorem State.keepsRoom_trans (h : s.keepsRoom t) (k : t.keepsRoom u) : s.keepsRoom u := by
  obtain ⟨hset, hclear⟩ := h
  obtain ⟨kset, kclear⟩ := k
  refine ⟨fun hflag => ?_, fun hflag hroom => ?_⟩
  · obtain ⟨ht, hmark⟩ := hset hflag
    exact ⟨(kset ht).1, (kset ht).2.trans hmark⟩
  · obtain ⟨hmark, hroom'⟩ := hclear hflag hroom
    cases ht : t.journal.highFlag with
    | false => exact ⟨(kclear ht (hroom' ht)).1.trans hmark, (kclear ht (hroom' ht)).2⟩
    | true => exact ⟨(kset ht).2.trans hmark, fun hu => absurd ((kset ht).1.symm.trans hu) nofun⟩

/-- What leaves the Journal, and an entry free where one is. -/
theorem State.keepsRoom_of_journal (hjournal : t.journal = s.journal) (hroom : s.alarms.roomy → t.alarms.roomy) : s.keepsRoom t := by
  rw [State.keepsRoom, hjournal]
  exact ⟨fun h => ⟨h, rfl⟩, fun _ h => ⟨rfl, fun _ => hroom h⟩⟩

theorem State.keepsRoom_refl (s : State) : s.keepsRoom s := State.keepsRoom_of_journal rfl id

theorem writeRecord_keepsRoom (j : JournalRecord) (s : State) : s.keepsRoom (writeRecord j s) := by
  obtain ⟨-, -, -, -, -, hflag, hunposted, -, -, -⟩ := writeRecord_wrote j s
  refine ⟨fun h => ⟨hflag.mpr (.inl h), hunposted (.inl h)⟩, fun h hroom => ?_⟩
  by_cases hfull : s.journal.threshold ≤ s.journal.held + 1 ∧ s.journal.highFlag = false
  · have hwrite : writeRecord j s = raiseJournalHigh (s.setJournal
        { s.journal with
          records := s.journal.records ++ [{ j with sequence := s.journal.next }]
          held := s.journal.held + 1
          next := s.journal.next + 1 }) := (testJournalRaise_eq _).trans (if_pos hfull)
    rw [hwrite, raiseJournalHigh_eq]
    refine ⟨?_, nofun⟩
    change (s.journal.highUnposted || !(highRaise s.clock s.alarms (s.journal.held + 1)).2) = s.journal.highUnposted
    rw [highRaise, AlarmTable.raise_of_roomy hroom, Bool.not_true, Bool.or_false]
  · have hwrite : writeRecord j s = s.setJournal
        { s.journal with
          records := s.journal.records ++ [{ j with sequence := s.journal.next }]
          held := s.journal.held + 1
          next := s.journal.next + 1 } := (testJournalRaise_eq _).trans (if_neg hfull)
    rw [hwrite]
    exact ⟨rfl, fun _ => hroom⟩

/-- A condition returned where its flag is set. -/
def returnIf (flag : Bool) (code : AlarmCode) (subject : Subject) (s : State) : State :=
  if flag = true then s.returnCondition code subject else s

theorem State.Wrote.returnedIf (h : s.Wrote t w) (flag : Bool) {code : AlarmCode} (hends : endsHere code) (subject : Subject) :
    s.Wrote (returnIf flag code subject t) w := by
  unfold returnIf
  split
  · exact h.returned hends.ne_tableFull (by obtain rfl | rfl | rfl := hends <;> nofun) subject
  · exact h

theorem returnIf_keepsRoom (flag : Bool) {code : AlarmCode} (hends : endsHere code) (subject : Subject) (s : State) :
    s.keepsRoom (returnIf flag code subject s) := by
  unfold returnIf
  split
  · exact State.keepsRoom_of_journal rfl fun h => AlarmTable.return_roomy h hends.ne_tableFull subject
  · exact s.keepsRoom_refl

theorem returnIf_settles (flag : Bool) {code : AlarmCode} (hends : endsHere code) (subject : Subject) (s : State) :
    s.alarms.settles (returnIf flag code subject s).alarms := by
  unfold returnIf
  split
  · exact AlarmTable.return_settles _ hends.ne_tableFull _
  · exact AlarmTable.settles_refl _

theorem returnIf_pallets (flag : Bool) (code : AlarmCode) (subject : Subject) (s : State) :
    (returnIf flag code subject s).pallets = s.pallets := by
  unfold returnIf
  split <;> rfl

end

/-! ### One pallet freed (R97) -/

/-- A pallet's flag for an exposure alarm (R105, R106). -/
def Pallet.exposed (x : Pallet) (code : AlarmCode) : Prop :=
  code = .exposureWarning ∧ x.warned = true ∨ code = .exposureExceeded ∧ x.overBudget = true

theorem Pallet.exposed.ends {x : Pallet} {code : AlarmCode} (h : x.exposed code) : endsHere code := by
  obtain ⟨rfl, -⟩ | ⟨rfl, -⟩ := h
  · exact .inl rfl
  · exact .inr (.inl rfl)

/-- The record of a pallet freed, but for its sequence number (R97, R134). -/
def leavingRecord (kind : RecordKind) (trailerLost : Bool) (x : Pallet) (now next : Word32) : JournalRecord :=
  { palletRecord kind trailerLost x now with sequence := next }

section
variable (kind : RecordKind) (lost : Bool) (q : Fin 256) (s : State)

theorem freePallet_eq : freePallet kind lost q s
    = (returnIf (s.pallet q).overBudget .exposureExceeded (.pallet q) (returnIf (s.pallet q).warned .exposureWarning (.pallet q)
        (writeRecord (palletRecord kind lost (s.pallet q) s.clock) s))).setPallet q .empty := rfl

theorem freePallet_wrote : s.Wrote (freePallet kind lost q s) [leavingRecord kind lost (s.pallet q) s.clock] := by
  rw [freePallet_eq]
  exact (((writeRecord_wrote _ s).returnedIf _ (.inl rfl) _).returnedIf _ (.inr (.inl rfl)) _).aside rfl rfl rfl

theorem freePallet_keepsRoom : s.keepsRoom (freePallet kind lost q s) := by
  rw [freePallet_eq]
  exact State.keepsRoom_trans (State.keepsRoom_trans (State.keepsRoom_trans (writeRecord_keepsRoom _ s)
    (returnIf_keepsRoom _ (.inl rfl) _ _)) (returnIf_keepsRoom _ (.inr (.inl rfl)) _ _)) (State.keepsRoom_of_journal rfl id)

theorem freePallet_pallet (i : Fin 256) : (freePallet kind lost q s).pallet i = if q = i then .empty else s.pallet i := by
  rw [freePallet_eq, State.pallet_setPallet]
  refine if_congr Iff.rfl rfl ?_
  rw [State.pallet, returnIf_pallets, returnIf_pallets, State.frame_pallets (writeRecord_frame _ s) (by decide)]
  rfl

/-- A pallet freed has its exposure alarms returned (R97). -/
theorem freePallet_stilled (hz : s.alarms.zeroKept) {code : AlarmCode} (hexposed : (s.pallet q).exposed code)
    (hsingle : s.alarms.single code (.pallet q)) : (freePallet kind lost q s).alarms.stilled code (.pallet q) := by
  have hwrite := (writeRecord_wrote (palletRecord kind lost (s.pallet q) s.clock) s).settles
  have hwarn := returnIf_settles (s.pallet q).warned (.inl rfl) (.pallet q)
    (writeRecord (palletRecord kind lost (s.pallet q) s.clock) s)
  have hexceed := returnIf_settles (s.pallet q).overBudget (.inr (.inl rfl)) (.pallet q)
    (returnIf (s.pallet q).warned .exposureWarning (.pallet q) (writeRecord (palletRecord kind lost (s.pallet q) s.clock) s))
  have hends := hexposed.ends
  have hz1 := (hwrite hz).1
  have hsingle1 := AlarmTable.settles_single hwrite hz hends hsingle
  have hz2 := (hwarn hz1).1
  have hsingle2 := AlarmTable.settles_single hwarn hz1 hends hsingle1
  rw [freePallet_eq, State.setPallet_alarms]
  obtain ⟨rfl, hflag⟩ | ⟨rfl, hflag⟩ := hexposed
  · refine AlarmTable.settles_stilled hexceed hz2 hends ?_
    rw [returnIf, if_pos hflag]
    exact AlarmTable.return_stilled nofun hz1 hsingle1
  · rw [returnIf, if_pos hflag]
    exact AlarmTable.return_stilled nofun hz2 hsingle2

end

/-! ### The pallets of a trailer (R56, R59) -/

/-- A pallet in a state at the trailer of a door. -/
def Pallet.waits (x : Pallet) (state : PalletState) (d : Fin 24) : Bool :=
  decide (x.state = state ∧ x.location = .at (.trailer d))

/-- The record of a pallet that leaves with the trailer of a door, but for its sequence number (R56, R59, R134). -/
def trailerRecord (kind : RecordKind) (lost : Bool) (d : Fin 24) (x : Pallet) (now next : Word32) : JournalRecord :=
  ⟨next, kind, x.tag, x.cls, none, .at (.trailer d), x.entryTime, now, min (x.exposure / 960) 65535, ⟨x.overBudget, false, lost, false⟩⟩

theorem leavingRecord_eq (kind : RecordKind) (lost : Bool) {x : Pallet} {state : PalletState} {d : Fin 24}
    (h : x.waits state d = true) (now : Word32) : leavingRecord kind lost x now = trailerRecord kind lost d x now := by
  obtain ⟨-, hlocation⟩ := of_decide_eq_true h
  funext next
  rw [trailerRecord, ← hlocation]
  rfl

/-- The pallets of a trailer in a state freed, as far as the slots of a list: their slots, their records and their alarms. -/
structure State.Departed (state : PalletState) (kind : RecordKind) (lost : Bool) (d : Fin 24) (s : State) (l : List (Fin 256))
    (t : State) : Prop where
  pallet : ∀ q, t.pallet q = if q ∈ l ∧ (s.pallet q).waits state d = true then .empty else s.pallet q
  wrote : s.Wrote t ((l.filter fun q => (s.pallet q).waits state d).map fun q => trailerRecord kind lost d (s.pallet q) s.clock)
  room : s.keepsRoom t
  stilled : s.alarms.zeroKept → ∀ q ∈ l, (s.pallet q).waits state d = true → ∀ code, (s.pallet q).exposed code →
    s.alarms.single code (.pallet q) → t.alarms.stilled code (.pallet q)

section
variable {state : PalletState} {kind : RecordKind} {lost : Bool} {d : Fin 24} {s t : State} {l : List (Fin 256)} {q : Fin 256}

/-- One more slot, whose pallet waits. -/
theorem State.Departed.freed (h : s.Departed state kind lost d l t) (hq : q ∉ l) (hwaits : (s.pallet q).waits state d = true) :
    s.Departed state kind lost d (l ++ [q]) (freePallet kind lost q t) := by
  have hown : t.pallet q = s.pallet q := (h.pallet q).trans (if_neg fun hl => hq hl.1)
  have hfree := freePallet_wrote kind lost q t
  rw [hown, h.wrote.clock, leavingRecord_eq kind lost hwaits] at hfree
  refine ⟨fun i => ?_, ?_, State.keepsRoom_trans h.room (freePallet_keepsRoom kind lost q t), fun hz i hi hi' code hexposed hsingle => ?_⟩
  · rw [freePallet_pallet, h.pallet i]
    by_cases hqi : q = i
    · subst hqi
      simp [hwaits]
    · simp [hqi, Ne.symm hqi]
  · rw [List.filter_append, List.map_append, List.filter_singleton, hwaits]
    exact h.wrote.trans hfree
  · have hz' := (h.wrote.settles hz).1
    obtain hi | hi := List.mem_append.mp hi
    · exact AlarmTable.settles_stilled hfree.settles hz' hexposed.ends (h.stilled hz i hi hi' code hexposed hsingle)
    · obtain rfl := List.mem_singleton.mp hi
      exact freePallet_stilled kind lost i t hz' (hown.symm ▸ hexposed)
        (AlarmTable.settles_single h.wrote.settles hz hexposed.ends hsingle)

/-- One more slot, whose pallet stays. -/
theorem State.Departed.passed (h : s.Departed state kind lost d l t) (hstays : (s.pallet q).waits state d = false) :
    s.Departed state kind lost d (l ++ [q]) t := by
  have hmem : ∀ i, i ∈ l ++ [q] ∧ (s.pallet i).waits state d = true ↔ i ∈ l ∧ (s.pallet i).waits state d = true := fun i => by
    simp only [List.mem_append, List.mem_singleton]
    refine ⟨fun ⟨hi, hw⟩ => ⟨hi.resolve_right fun hiq => ?_, hw⟩, fun ⟨hi, hw⟩ => ⟨.inl hi, hw⟩⟩
    rw [hiq, hstays] at hw
    cases hw
  refine ⟨fun i => (h.pallet i).trans (if_congr (hmem i).symm rfl rfl), ?_, h.room, fun hz i hi hi' => ?_⟩
  · rw [List.filter_append, List.filter_singleton, hstays]
    simpa using h.wrote
  · exact h.stilled hz i ((hmem i).mp ⟨hi, hi'⟩).1 hi'

/-- Every pallet of the trailer in a state leaves, in slot order (R56, R59). -/
theorem settleTrailerPallets_departed (state : PalletState) (kind : RecordKind) (lost : Bool) (d : Fin 24) (s : State) :
    s.Departed state kind lost d (List.finRange 256) (forEach 256 (settleTrailerPallet state kind lost d) s) := by
  refine forEach_prefix ⟨fun q => ?_, .refl s, s.keepsRoom_refl, fun _ q hq => absurd hq List.not_mem_nil⟩ fun l q t hq h => ?_
  · rw [if_neg fun h => List.not_mem_nil h.1]
  · have hown : t.pallet q = s.pallet q := (h.pallet q).trans (if_neg fun hl => hq hl.1)
    rw [settleTrailerPallet, hown]
    by_cases hwaits : (s.pallet q).state = state ∧ (s.pallet q).location = .at (.trailer d)
    · rw [if_pos hwaits]
      exact h.freed hq (decide_eq_true hwaits)
    · rw [if_neg hwaits]
      exact h.passed (decide_eq_false hwaits)

end

end Sys2Proof.Machine
end

section
/-! PROOFS. The door requests in RUN that write a door alone, and DOOR RELEASE (R44, R48, R51, R53, R56, R60, R61). -/

namespace Sys2Proof.Machine

set_option Elab.async false

/-! ### Requests at a door, taken in RUN (R161, R163) -/

theorem State.takes_run {s : State} (p : Port) {row : RequestRow} (hmode : s.mode = .run) (hrow : row.run = .taken) :
    s.takes p row = true := by
  rw [State.takes, hmode, hrow]
  rfl

/-- A request of the Dock Part, taken in RUN. -/
theorem requestArrives_dock {s : State} (hready : s.ready .dock) (hmode : s.mode = .run) (tag : Byte) {r : Request}
    {row : RequestRow} (hrow : requestRow r.code = some row) (hrole : row.role = some .dock) (hrun : row.run = .taken) :
    requestArrives .dock tag r s = serve .dock (r.frame tag) (perform .dock r s) :=
  requestArrives_performs hready tag hrow (.inr hrole) (State.takes_run .dock hmode hrun)

section
variable {s : State}

theorem onEnabledDoor_ofNat {d : Fin 24} (h : (s.door d).enabled = true) (k : Fin 24 → Answer) :
    onEnabledDoor (BitVec.ofNat 8 d) s k = k d := by
  rw [onEnabledDoor, onDoor_ofNat, if_pos h]

theorem onEnabledDoor_disabled {d : Fin 24} (h : (s.door d).enabled = false) (k : Fin 24 → Answer) :
    onEnabledDoor (BitVec.ofNat 8 d) s k = refuse .doorState s := by
  rw [onEnabledDoor, onDoor_ofNat, if_neg (Bool.eq_false_iff.mp h)]

theorem onEnabledDoor_of_le {b : Byte} (h : 24 ≤ b.toNat) (k : Fin 24 → Answer) : onEnabledDoor b s k = refuse .badArgument s := by
  rw [onEnabledDoor, onDoor_of_le h]

end

/-! ### DOOR ARM SEAL, DOOR OPEN PERMIT, DOOR CLOSE, DOOR OVERRIDE, REPORT TRAILER TEMPERATURE -/

section
variable {d : Fin 24} {s : State} (henabled : (s.door d).enabled = true)
include henabled

theorem doorArmSeal_eq : doorArmSeal (BitVec.ofNat 8 d) s
    = if (s.door d).state = .docked then
        ⟨s.setDoor d { (s.door d).enter .sealing with sealTimer := .start (s.door d).sealLimit }, .ok, []⟩
      else refuse .doorState s := onEnabledDoor_ofNat henabled _

omit henabled in
/-- A record that is driven already, written again. -/
theorem State.setDoor_driven (h : s.door d = (s.door d).driven s.lines) : s.setDoor d (s.door d) = s := by
  have hdriven : (s.door d).driven s.lines = s.doors[d] := h.symm
  rw [State.setDoor, hdriven, Fin.getElem_fin, Vector.set_getElem_self]

omit henabled in
theorem DefrostState.holdsPermits_eq_false (x : DefrostState) :
    x.holdsPermits = false ↔ x ≠ .granted ∧ x ≠ .heating ∧ x ≠ .drip := by
  cases x <;> simp [DefrostState.holdsPermits]

theorem doorOpenPermit_sealed (hstate : (s.door d).state = .sealed) (houtputs : s.outputsKept) :
    doorOpenPermit (BitVec.ofNat 8 d) s
      = if (s.door d).permit = .given ∨ (s.door d).permit = .none ∧ (s.defrost (s.door d).dockRoom).state ≠ .granted
            ∧ (s.defrost (s.door d).dockRoom).state ≠ .heating ∧ (s.defrost (s.door d).dockRoom).state ≠ .drip
          then ⟨s.setDoor d { s.door d with permit := .given }, .ok, []⟩
          else ⟨s.setDoor d { s.door d with permit := .pending }, .held, []⟩ := by
  have hown : ∀ permit, (s.door d).permit = permit → s.setDoor d { s.door d with permit := permit } = s := by
    rintro permit rfl
    exact State.setDoor_driven (houtputs d)
  have hholds := DefrostState.holdsPermits_eq_false (s.defrost (s.door d).dockRoom).state
  refine (onEnabledDoor_ofNat henabled _).trans ((if_pos hstate).trans ?_)
  cases hpermit : (s.door d).permit with
  | none =>
    dsimp only
    by_cases hfree : (s.defrost (s.door d).dockRoom).state.holdsPermits = false
    · rw [if_neg (Bool.eq_false_iff.mp hfree), if_pos (.inr ⟨rfl, hholds.mp hfree⟩)]
      rfl
    · rw [if_pos (Bool.not_eq_false _ ▸ hfree), if_neg (by simpa using fun h => hfree (hholds.mpr h))]
  | given =>
    dsimp only
    rw [if_pos (.inl rfl), hown _ hpermit]
    rfl
  | pending =>
    dsimp only
    rw [if_neg (by simp), hown _ hpermit]

theorem doorOpenPermit_refused (hstate : (s.door d).state ≠ .sealed) :
    doorOpenPermit (BitVec.ofNat 8 d) s = refuse .doorState s :=
  (onEnabledDoor_ofNat henabled _).trans (if_neg hstate)

theorem doorClose_eq : doorClose (BitVec.ofNat 8 d) s
    = if (s.door d).state = .sealed then ⟨s.setDoor d { s.door d with permit := .none }, .ok, []⟩
      else if (s.door d).state = .working then ⟨s.setDoor d { s.door d with closeMark := true }, .ok, []⟩
      else refuse .doorState s := by
  rw [doorClose, onEnabledDoor_ofNat henabled]
  dsimp only
  cases (s.door d).state <;> rfl

theorem doorOverride_eq (on : Bool) : doorOverride (BitVec.ofNat 8 d) (BitVec.ofNat 8 on.toNat) s
    = ⟨s.setDoor d { s.door d with override := on }, .ok, []⟩ := by
  rw [doorOverride, onEnabledDoor_ofNat henabled, flag?_ofNat]
  rfl

theorem doorOverride_refused {on : Byte} (h : 2 ≤ on.toNat) :
    doorOverride (BitVec.ofNat 8 d) on s = refuse .badArgument s := by
  rw [doorOverride, onEnabledDoor_ofNat henabled, flag?_of_le h]

theorem reportTrailerTemperature_eq (temperature : Word16) : reportTrailerTemperature (BitVec.ofNat 8 d) temperature s
    = if (s.door d).tp.level = true then
        ⟨s.setDoor d { s.door d with trailerTemp := some (max (-960) (min temperature.toInt 960)) },
          if temperature.toInt < -960 ∨ 960 < temperature.toInt then .clamped else .ok, []⟩
      else refuse .doorState s := by
  have hforced : (clampTemp temperature.toInt != temperature.toInt) = true ↔ temperature.toInt < -960 ∨ 960 < temperature.toInt := by
    rw [bne_iff_ne, clampTemp_ne]
  rw [reportTrailerTemperature, onEnabledDoor_ofNat henabled]
  dsimp only
  rw [doneClamped_eq hforced]
  rfl

/-! ### DOOR RELEASE (R56) -/

omit henabled in
theorem State.releaseHeld_iff (s : State) (d : Fin 24) : s.releaseHeld d = true
    ↔ (∃ q : Fin 256, (s.pallet q).state = .inbound ∧ (s.pallet q).location = .at (.trailer d))
      ∨ ∃ m : Fin 32, (s.move m).live = true
        ∧ ((s.move m).origin = some (.trailer d) ∨ (s.move m).destination = some (.trailer d)) := by
  simp only [State.releaseHeld, Bool.or_eq_true, lowest_isSome, Move.namesTrailer, Bool.and_eq_true, beq_iff_eq]

theorem doorRelease_refused (hstate : ¬ ((s.door d).state = .sealed ∨ (s.door d).state = .sealing)) :
    doorRelease (BitVec.ofNat 8 d) s = refuse .doorState s :=
  (onEnabledDoor_ofNat henabled _).trans (if_neg hstate)

theorem doorRelease_busy (hstate : (s.door d).state = .sealed ∨ (s.door d).state = .sealing) (hheld : s.releaseHeld d = true) :
    doorRelease (BitVec.ofNat 8 d) s = refuse .busy s :=
  (onEnabledDoor_ofNat henabled _).trans ((if_pos hstate).trans (if_pos hheld))

theorem doorRelease_done (hstate : (s.door d).state = .sealed ∨ (s.door d).state = .sealing) (hheld : s.releaseHeld d = false) :
    doorRelease (BitVec.ofNat 8 d) s = ⟨enterReleasing d (shipAboard false d s), .ok, []⟩ :=
  (onEnabledDoor_ofNat henabled _).trans ((if_pos hstate).trans (if_neg (Bool.eq_false_iff.mp hheld)))

end

/-- The door after a release: RELEASING, and the other doors as they were (R55, R56). -/
theorem released_door (d : Fin 24) (s : State) (d' : Fin 24) : (enterReleasing d (shipAboard false d s)).door d'
    = if d' = d then Door.driven
        { (s.door d).enter .releasing with trailerTemp := none, releaseTimer := .start (s.door d).releaseTime } s.lines
      else s.door d' := by
  have hframe := shipAboard_frame false d s
  have hdoor := State.frame_door hframe (by decide)
  rw [enterReleasing, State.modifyDoor, State.door_setDoor, hdoor, hdoor, State.frame_lines hframe (by decide)]
  exact if_congr eq_comm rfl rfl

/-- JOURNAL_HIGH shown in the table (R139). -/
theorem AlarmTable.shows_journalHigh {a : AlarmTable} {now : Word32} {detail : Option Word16}
    (h : a.shows 0 now .journalHigh .none none detail) : ∃ (i : Fin 48) (e : AlarmEntry), a.entries[i] = some e
      ∧ e.code = .journalHigh ∧ e.subject = .none ∧ e.detail = detail ∧ e.lastRaised = now ∧ e.condition = .active := by
  obtain ⟨i, e, -, he, hcode, hsubject, -, hdetail, hraised, hactive⟩ := h
  exact ⟨i, e, he, hcode, hsubject, hdetail, hraised, hactive⟩

/-- The test of R139 over a run of records, as the obligation tells it. -/
theorem State.Wrote.high {s t : State} {w : List (Word32 → JournalRecord)} (h : s.Wrote t w) :
    (t.journal.highFlag = true ↔ s.journal.highFlag = true ∨ s.journal.fills w)
      ∧ (s.journal.highFlag = true ∨ ¬ s.journal.fills w → t.journal.highUnposted = s.journal.highUnposted)
      ∧ (s.journal.highFlag = false → s.journal.fills w → s.tableKept → t.journal.highUnposted = true
        ∨ ∃ (i : Fin 48) (e : AlarmEntry), t.alarms.entries[i] = some e ∧ e.code = .journalHigh ∧ e.subject = .none
          ∧ e.detail = some (BitVec.ofNat 16 (max s.journal.threshold (s.journal.held + 1)))
          ∧ e.lastRaised = s.clock ∧ e.condition = .active) :=
  ⟨h.flag, h.unposted, fun hlow hfull hkept =>
    (h.raised hlow hfull (AlarmTable.zeroKept_of_kept hkept)).imp_right AlarmTable.shows_journalHigh⟩

end Sys2Proof.Machine
end

section
/-! PROOFS. The moves of a trailer written off (R59, R119): each ended in slot order, its pallet settled and its record written. -/

namespace Sys2Proof.Machine

set_option Elab.async false

/-! ### The queue's evaluation at the table (R76) -/

section
variable {code : AlarmCode} {subject : Subject} (hfull : code ≠ .tableFull) (hgrant : code ≠ .defrostGranted)
include hfull hgrant

theorem arbiterTurn_beside (s : State) (bar : Bool) (r : Fin 8) :
    AlarmTable.beside code subject s.alarms (arbiterTurn (s, bar) r).1.alarms := by
  have hgranted : ∀ t : State, AlarmTable.beside code subject t.alarms (grant r t).alarms := fun t =>
    AlarmTable.raise_beside hfull (fun h => absurd h.symm hgrant) _ _ _ _
  unfold arbiterTurn
  dsimp only
  split
  · exact AlarmTable.beside_refl _
  · split
    · exact AlarmTable.beside_refl _
    · split
      · exact AlarmTable.beside_refl _
      · exact hgranted (s.modifyDefrost r fun x => { x with state := s.queueState r })

/-- The notices of grants leave the entries of every other pair (R79). -/
theorem evaluateQueue_beside (s : State) : AlarmTable.beside code subject s.alarms (evaluateQueue s).alarms := by
  have go : ∀ (l : List (Fin 8)) (a : State × Bool), AlarmTable.beside code subject a.1.alarms (l.foldl arbiterTurn a).1.alarms := by
    intro l
    induction l with
    | nil => intro a; exact AlarmTable.beside_refl _
    | cons r l ih => intro a; exact AlarmTable.beside_trans (arbiterTurn_beside hfull hgrant a.1 a.2 r) (ih _)
  exact go _ (s, false)

end

theorem evaluateQueue_wrote (s : State) : s.Wrote (evaluateQueue s) [] :=
  .of_journal (State.frame_journal (evaluateQueue_frame s) (by decide)) (State.frame_clock (evaluateQueue_frame s) (by decide))
    (evaluateQueue_beside (code := .journalHigh) nofun nofun s) (AlarmTable.settles_of_beside fun _ _ hends =>
      evaluateQueue_beside hends.ne_tableFull (by obtain rfl | rfl | rfl := hends <;> nofun) s)

/-! ### The end of a move (R119) -/

section
variable {s : State} {m : Fin 32} {q : Fin 256}

theorem State.findPallet_congr {t : State}
    (h : ∀ q, (t.pallet q).live = (s.pallet q).live ∧ (t.pallet q).tag = (s.pallet q).tag) (tag : Word32) :
    t.findPallet tag = s.findPallet tag := by
  simp only [State.findPallet, fun q => (h q).1, fun q => (h q).2]

theorem State.movedPallet_of_find (h : s.findPallet (s.move m).tag = some q) : s.movedPallet m = s.pallet q := by
  simp only [State.movedPallet, h]

theorem settleMoved_of_find (h : s.findPallet (s.move m).tag = some q) (settle : Option (PalletState × Place)) :
    settleMoved m settle s = s.setPallet q ((s.pallet q).settle settle) := by
  simp only [settleMoved, h]
  rfl

/-- A pallet settled keeps its tag, and lives where it lived and its new state is a live one. -/
theorem Pallet.settle_tag (x : Pallet) (settle : Option (PalletState × Place)) : (x.settle settle).tag = x.tag := by
  cases settle <;> rfl

/-- The record of the end of a move, but for its sequence number (R119, R134). -/
def endRecord (kind : RecordKind) (f : EndFlags) (x : Move) (y : Pallet) (now next : Word32) : JournalRecord :=
  { moveRecord kind f x y now with sequence := next }

/-- The end of a move that names a live pallet: its record, and the pallets and moves it leaves. -/
theorem endMove_outcome {settle : Option (PalletState × Place)} (hfind : s.findPallet (s.move m).tag = some q)
    (hlive : ((s.pallet q).settle settle).live = (s.pallet q).live) (kind : RecordKind) (f : EndFlags) :
    s.Wrote (endMove kind f settle m s) [endRecord kind f (s.move m) ((s.pallet q).settle settle) s.clock]
      ∧ (∀ i, (endMove kind f settle m s).pallet i = if q = i then (s.pallet q).settle settle else s.pallet i)
      ∧ ∀ i, (endMove kind f settle m s).move i = if m = i then .empty ((s.move m).generation + 1) else s.move i := by
  have hsettled := settleMoved_of_find hfind settle
  have hmoved : (s.setPallet q ((s.pallet q).settle settle)).movedPallet m = (s.pallet q).settle settle := by
    refine (State.movedPallet_of_find (s := s.setPallet q ((s.pallet q).settle settle)) (m := m) (q := q)
      ((State.findPallet_congr (fun i => ?_) _).trans hfind)).trans ?_
    · rw [State.pallet_setPallet]
      split
      · next h => exact ⟨hlive.trans (h ▸ rfl), (Pallet.settle_tag _ _).trans (h ▸ rfl)⟩
      · exact ⟨rfl, rfl⟩
    · rw [State.pallet_setPallet, if_pos rfl]
  rw [endMove_eq, recorded, hsettled, hmoved]
  generalize hx : (s.pallet q).settle settle = x
  have hwrite := (State.Wrote.refl s).aside (u := s.setPallet q x) rfl rfl rfl
  have hrecord := hwrite.trans (writeRecord_wrote (moveRecord kind f (s.move m) x s.clock) (s.setPallet q x))
  have hframe := writeRecord_frame (moveRecord kind f (s.move m) x s.clock) (s.setPallet q x)
  generalize writeRecord (moveRecord kind f (s.move m) x s.clock) (s.setPallet q x) = t at hrecord hframe
  have hcleared : s.Wrote (cleared m (s.move m) t) [endRecord kind f (s.move m) x s.clock] := by
    unfold cleared
    split
    · exact (hrecord.returned (code := .moveOverdue) nofun nofun _).aside rfl rfl rfl
    · exact hrecord.aside rfl rfl rfl
  have hpallets : (cleared m (s.move m) t).pallets = (s.setPallet q x).pallets := by
    rw [← State.frame_pallets hframe (by decide), cleared]
    split <;> rfl
  have hmoves : ∀ i, (cleared m (s.move m) t).move i = if m = i then .empty ((s.move m).generation + 1) else s.move i := fun i => by
    rw [cleared, State.move_setMove]
    refine if_congr Iff.rfl rfl ?_
    have : t.move i = s.move i := by rw [State.move, State.frame_moves hframe (by decide)]; rfl
    split
    · exact this
    · exact this
  have hqueue := evaluateQueue_frame (cleared m (s.move m) t)
  refine ⟨by simpa using hcleared.trans (evaluateQueue_wrote _), fun i => ?_, fun i => ?_⟩
  · rw [State.pallet, State.frame_pallets hqueue (by decide), hpallets]
    exact State.pallet_setPallet s q i x
  · rw [State.move, State.frame_moves hqueue (by decide)]
    exact hmoves i

end

/-! ### The pallets that moves carry (R95, R112 to R114) -/

section
variable {s : State} (hkept : s.recordsKept)
include hkept

theorem State.recordsKept.tags : s.tagsKept := by
  obtain ⟨htags, -⟩ := hkept
  exact htags

theorem State.recordsKept.agrees (q : Fin 256) : (s.pallet q).agrees := by
  obtain ⟨-, -, hpallets, -⟩ := hkept
  exact hpallets q

/-- A live move has its pallet, which is IN_TRANSIT exactly where the move is. -/
theorem State.recordsKept.carried {m : Fin 32} (hlive : (s.move m).live = true) :
    ∃ q, (s.pallet q).live = true ∧ (s.pallet q).tag = (s.move m).tag ∧ (s.pallet q).handle = some (s.handleAt m)
      ∧ ((s.pallet q).state = .inTransit ↔ (s.move m).state = .inTransit) := by
  have hpallets := hkept.agrees
  obtain ⟨-, -, -, hmoves, -⟩ := hkept
  have hagrees := hmoves m
  cases hstate : (s.move m).state with
  | free => rw [Move.live, hstate] at hlive; cases hlive
  | permitted =>
    rw [State.moveAgrees, hstate] at hagrees
    obtain ⟨⟨o, _, -, -, q, hq, htag, hhandle, hlocation⟩, -⟩ := hagrees
    refine ⟨q, hq, htag, hhandle, ⟨fun htransit => ?_, nofun⟩⟩
    have hpallet := hpallets q
    rw [Pallet.agrees, htransit] at hpallet
    exact absurd (hlocation.symm.trans hpallet.1) nofun
  | inTransit =>
    rw [State.moveAgrees, hstate] at hagrees
    obtain ⟨⟨_, _, -, -, q, htag, hhandle, htransit, -⟩, -⟩ := hagrees
    exact ⟨q, by rw [Pallet.live, htransit]; rfl, htag, hhandle, fun _ => rfl, fun _ => htransit⟩

/-- A pallet with a handle lives (R95). -/
theorem State.recordsKept.live_of_handle {q : Fin 256} {h : Handle} (hq : (s.pallet q).handle = some h) :
    (s.pallet q).live = true := by
  have hagrees := hkept.agrees q
  cases hstate : (s.pallet q).state with
  | free =>
    rw [Pallet.agrees, hstate] at hagrees
    rw [show s.pallet q = .empty from hagrees] at hq
    cases hq
  | _ => rw [Pallet.live, hstate]; rfl

/-- Two pallets with handles of one move are one (R95, R114). -/
theorem State.recordsKept.handle_unique {q q' : Fin 256} {h h' : Handle} (hq : (s.pallet q).handle = some h)
    (hq' : (s.pallet q').handle = some h') (hslot : h.slot = h'.slot) : q = q' := by
  have hlive := hkept.live_of_handle hq
  have hlive' := hkept.live_of_handle hq'
  obtain ⟨⟨-, hunique⟩, hhandles, -⟩ := hkept
  obtain ⟨-, -, htag⟩ := hhandles q h hq
  obtain ⟨-, -, htag'⟩ := hhandles q' h' hq'
  exact hunique q q' hlive hlive' (by rw [← htag, ← htag', hslot])

end

/-! ### The moves of a trailer (R59) -/

/-- A pallet whose move is written off: where it was in transit, it stands on the lane of the door. -/
def Pallet.writtenOff (x : Pallet) (d : Fin 24) : Pallet :=
  if x.state = .inTransit then { x with state := .placed, location := .at (.lane d), handle := none, pickState := none }
  else { x with handle := none }

/-- How a write-off settles the pallet of a move (R59). -/
def writeOffPlace (x : Move) (d : Fin 24) : Option (PalletState × Place) :=
  if x.state = .inTransit then some (.placed, .lane d) else none

theorem Pallet.settle_writtenOff {x : Pallet} (h : x.agrees) (hlive : x.live = true) {y : Move} (d : Fin 24)
    (htransit : x.state = .inTransit ↔ y.state = .inTransit) : x.settle (writeOffPlace y d) = x.writtenOff d := by
  by_cases hx : x.state = .inTransit
  · rw [writeOffPlace, if_pos (htransit.mp hx), Pallet.writtenOff, if_pos hx]
    rfl
  · rw [writeOffPlace, if_neg fun h => hx (htransit.mpr h), Pallet.writtenOff, if_neg hx]
    have hpick : x.pickState = none := by
      cases hstate : x.state with
      | free => rw [Pallet.live, hstate] at hlive; cases hlive
      | inTransit => exact absurd hstate hx
      | _ =>
        rw [Pallet.agrees, hstate] at h
        exact h.2
    rw [Pallet.settle, ← hpick]

theorem Pallet.writtenOff_live {x : Pallet} (h : x.live = true) (d : Fin 24) : (x.writtenOff d).live = true := by
  unfold Pallet.writtenOff
  split
  · rfl
  · exact h

theorem Pallet.writtenOff_tag (x : Pallet) (d : Fin 24) : (x.writtenOff d).tag = x.tag := by
  unfold Pallet.writtenOff
  split <;> rfl

/-- Whether a pallet's move is one of a list that names the trailer of a door. -/
def State.carriedBy (s : State) (d : Fin 24) (l : List (Fin 32)) (x : Pallet) : Bool :=
  x.handle.any fun h => decide (h.slot ∈ l) && (s.move h.slot).namesTrailer d

/-- The record of a move written off, but for its sequence number (R59, R119). -/
def cancelledRecord (s : State) (d : Fin 24) (m : Fin 32) (next : Word32) : JournalRecord :=
  ⟨next, .moveCancelled, (s.move m).tag, (s.movedPallet m).cls, (s.move m).origin,
    if (s.move m).state = .inTransit then .at (.lane d) else (s.movedPallet m).location,
    (s.move m).pickTime.getD (s.move m).permitTime, s.clock, min ((s.movedPallet m).exposure / 960) 65535,
    ⟨(s.movedPallet m).overBudget, false, true, false⟩⟩

theorem endRecord_writtenOff {s : State} {m : Fin 32} {x : Pallet} (hmoved : s.movedPallet m = x) (htag : x.tag = (s.move m).tag)
    (htransit : x.state = .inTransit ↔ (s.move m).state = .inTransit) (d : Fin 24) :
    endRecord .moveCancelled ⟨false, true, false⟩ (s.move m) (x.writtenOff d) s.clock = cancelledRecord s d m := by
  funext next
  rw [cancelledRecord, hmoved, ← htag, ← if_congr htransit rfl rfl]
  unfold Pallet.writtenOff
  split <;> rfl

/-- The moves of a list that name a trailer written off: their entries, their pallets and their records. -/
structure State.Cancelled (d : Fin 24) (s : State) (l : List (Fin 32)) (t : State) : Prop where
  move : ∀ m, t.move m = if m ∈ l ∧ (s.move m).namesTrailer d = true then .empty ((s.move m).generation + 1) else s.move m
  pallet : ∀ q, t.pallet q = if s.carriedBy d l (s.pallet q) = true then (s.pallet q).writtenOff d else s.pallet q
  wrote : s.Wrote t ((l.filter fun m => (s.move m).namesTrailer d).map (cancelledRecord s d))

section
variable {d : Fin 24} {s t : State} {l : List (Fin 32)} {m : Fin 32}

theorem writeOffMove_eq (d : Fin 24) (m : Fin 32) (s : State) : writeOffMove d m s
    = if (s.move m).namesTrailer d = true then
        endMove .moveCancelled ⟨false, true, false⟩ (writeOffPlace (s.move m) d) m s
      else s := rfl

theorem State.handle_of_carriedBy {x : Pallet} (h : s.carriedBy d l x = true) : ∃ k, x.handle = some k := by
  cases hx : x.handle with
  | none => simp [State.carriedBy, hx] at h
  | some k => exact ⟨k, rfl⟩

theorem State.carriedBy_append (x : Pallet) : s.carriedBy d (l ++ [m]) x = true
    ↔ s.carriedBy d l x = true ∨ ∃ h, x.handle = some h ∧ h.slot = m ∧ (s.move m).namesTrailer d = true := by
  cases hx : x.handle with
  | none => simp [State.carriedBy, hx]
  | some h =>
    simp only [State.carriedBy, hx, Option.any_some, Bool.and_eq_true, decide_eq_true_eq, List.mem_append, List.mem_singleton,
      Option.some.injEq, exists_eq_left', or_and_right]
    exact or_congr_right ⟨fun ⟨hm, hn⟩ => ⟨hm, hm ▸ hn⟩, fun ⟨hm, hn⟩ => ⟨hm, hm ▸ hn⟩⟩

/-- One more move, which names the trailer. -/
theorem State.Cancelled.ended (hkept : s.recordsKept) (h : s.Cancelled d l t) (hm : m ∉ l)
    (hnames : (s.move m).namesTrailer d = true) :
    s.Cancelled d (l ++ [m]) (endMove .moveCancelled ⟨false, true, false⟩ (writeOffPlace (s.move m) d) m t) := by
  have hlive : (s.move m).live = true := (Bool.and_eq_true_iff.mp hnames).1
  obtain ⟨q, hq, htag, hhandle, htransit⟩ := hkept.carried hlive
  have hmove : t.move m = s.move m := (h.move m).trans (if_neg fun hl => hm hl.1)
  have hother : s.carriedBy d l (s.pallet q) = false := by
    simp [State.carriedBy, hhandle, State.handleAt, hm]
  have hpallet : t.pallet q = s.pallet q := (h.pallet q).trans (if_neg (Bool.eq_false_iff.mp hother))
  have hfound : s.findPallet (s.move m).tag = some q := htag ▸ State.findPallet_of_live hkept.tags hq
  have hfind : t.findPallet (t.move m).tag = some q := by
    rw [hmove]
    refine (State.findPallet_congr (fun i => ?_) _).trans hfound
    rw [h.pallet i]
    split
    · next hcarried =>
      obtain ⟨k, hk⟩ := State.handle_of_carriedBy hcarried
      have hi := hkept.live_of_handle hk
      exact ⟨(Pallet.writtenOff_live hi d).trans hi.symm, Pallet.writtenOff_tag _ d⟩
    · exact ⟨rfl, rfl⟩
  have hsettle : (s.pallet q).settle (writeOffPlace (s.move m) d) = (s.pallet q).writtenOff d :=
    Pallet.settle_writtenOff (hkept.agrees q) hq d htransit
  obtain ⟨hwrote, hpallets, hmoves⟩ := endMove_outcome (settle := writeOffPlace (s.move m) d) hfind
    (by rw [hpallet, hsettle, hq, Pallet.writtenOff_live hq]) .moveCancelled ⟨false, true, false⟩
  rw [hpallet, hsettle] at hpallets
  rw [hpallet, hsettle, hmove, h.wrote.clock, endRecord_writtenOff (State.movedPallet_of_find hfound) htag htransit] at hwrote
  rw [hmove] at hmoves
  refine ⟨fun i => ?_, fun i => ?_, ?_⟩
  · rw [hmoves, h.move i]
    by_cases hi : m = i
    · subst hi
      simp [hnames]
    · simp [hi, Ne.symm hi]
  · rw [hpallets, h.pallet i]
    by_cases hi : q = i
    · subst hi
      have hcarried : s.carriedBy d (l ++ [m]) (s.pallet q) = true :=
        (State.carriedBy_append _).mpr (.inr ⟨s.handleAt m, hhandle, rfl, hnames⟩)
      rw [if_pos rfl, if_pos hcarried]
    · rw [if_neg hi]
      refine if_congr ⟨fun hc => (State.carriedBy_append _).mpr (.inl hc), fun hc => ?_⟩ rfl rfl
      refine ((State.carriedBy_append _).mp hc).resolve_right ?_
      rintro ⟨k, hk, hslot, -⟩
      exact hi (hkept.handle_unique hhandle hk hslot.symm)
  · rw [List.filter_append, List.map_append, List.filter_singleton, hnames]
    exact h.wrote.trans hwrote

/-- One more move, which does not name the trailer. -/
theorem State.Cancelled.passed (h : s.Cancelled d l t) (hstays : (s.move m).namesTrailer d = false) : s.Cancelled d (l ++ [m]) t := by
  refine ⟨fun i => (h.move i).trans (if_congr ?_ rfl rfl), fun q => (h.pallet q).trans (if_congr ?_ rfl rfl), ?_⟩
  · simp only [List.mem_append, List.mem_singleton]
    refine ⟨fun ⟨hi, hn⟩ => ⟨.inl hi, hn⟩, fun ⟨hi, hn⟩ => ⟨hi.resolve_right fun him => ?_, hn⟩⟩
    rw [him, hstays] at hn
    cases hn
  · rw [State.carriedBy_append]
    refine ⟨.inl, fun hc => hc.resolve_right ?_⟩
    rintro ⟨_, -, -, hn⟩
    rw [hstays] at hn
    cases hn
  · rw [List.filter_append, List.filter_singleton, hstays]
    simpa using h.wrote

/-- Every move that names the trailer is written off, in slot order (R59). -/
theorem writeOffMoves_cancelled (hkept : s.recordsKept) (d : Fin 24) :
    s.Cancelled d (List.finRange 32) (forEach 32 (writeOffMove d) s) := by
  refine forEach_prefix ⟨fun m => ?_, fun q => ?_, .refl s⟩ fun l m t hm h => ?_
  · rw [if_neg fun h => List.not_mem_nil h.1]
  · have hnone : s.carriedBy d [] (s.pallet q) = false := by
      simp [State.carriedBy]
    rw [hnone]
    rfl
  · have hmove : t.move m = s.move m := (h.move m).trans (if_neg fun hl => hm hl.1)
    rw [writeOffMove_eq, hmove]
    by_cases hnames : (s.move m).namesTrailer d = true
    · rw [if_pos hnames]
      exact h.ended hkept hm hnames
    · rw [if_neg hnames]
      exact h.passed (Bool.eq_false_iff.mpr hnames)

end

end Sys2Proof.Machine
end

section
/-! PROOFS. DOOR CLEAR FAULT (R58, R59): the trailer written off, the fault cleared, and the state derived from the lines. -/

namespace Sys2Proof.Machine

set_option Elab.async false

/-! ### The trailer written off (R59) -/

section
variable {s : State} {d : Fin 24}

theorem Pallet.writtenOff_waits (x : Pallet) {state : PalletState} (hplaced : state ≠ .placed) (htransit : state ≠ .inTransit) :
    (x.writtenOff d).waits state d = x.waits state d := by
  unfold Pallet.writtenOff
  split
  · next h => simp [Pallet.waits, h, Ne.symm hplaced, Ne.symm htransit]
  · rfl

theorem Pallet.writtenOff_exposed (x : Pallet) (d : Fin 24) (code : AlarmCode) : (x.writtenOff d).exposed code ↔ x.exposed code := by
  unfold Pallet.writtenOff
  split <;> rfl

/-- A pallet at the trailer of a door is ABOARD or INBOUND (R95). -/
theorem Pallet.agrees.at_trailer {x : Pallet} (h : x.agrees) :
    x.location = .at (.trailer d) ↔ x.waits .aboard d = true ∨ x.waits .inbound d = true := by
  simp only [Pallet.waits, decide_eq_true_eq]
  refine ⟨fun hlocation => ?_, fun hwaits => hwaits.elim And.right And.right⟩
  cases hstate : x.state with
  | inbound => exact .inr ⟨rfl, hlocation⟩
  | aboard => exact .inl ⟨rfl, hlocation⟩
  | free =>
    rw [Pallet.agrees, hstate] at h
    rw [show x = .empty from h] at hlocation
    cases hlocation
  | placed =>
    rw [Pallet.agrees, hstate] at h
    obtain ⟨⟨p, hp, hnot⟩, -⟩ := h
    rw [hlocation] at hp
    cases hp
    cases hnot
  | inTransit =>
    rw [Pallet.agrees, hstate] at h
    exact absurd (hlocation.symm.trans h.1) nofun

/-- The records of a write-off, in order: the moves, the pallets ABOARD, the pallets INBOUND (R59). -/
def State.writeOffRecords (s : State) (d : Fin 24) : List (Word32 → JournalRecord) :=
  ((List.finRange 32).filter fun m => (s.move m).namesTrailer d).map (cancelledRecord s d)
    ++ ((List.finRange 256).filter fun q => (s.pallet q).waits .aboard d).map
        (fun q => trailerRecord .shipped true d (s.pallet q) s.clock)
    ++ ((List.finRange 256).filter fun q => (s.pallet q).waits .inbound d).map
        (fun q => trailerRecord .rejected true d (s.pallet q) s.clock)

/-- A trailer written off: the moves that name it, the pallets at it and the pallets of those moves, the records and the alarms. -/
structure State.WrittenOff (d : Fin 24) (s t : State) : Prop where
  move : ∀ m, t.move m = if (s.move m).namesTrailer d = true then .empty ((s.move m).generation + 1) else s.move m
  pallet : ∀ q, t.pallet q = if (s.pallet q).location = .at (.trailer d) then .empty
    else if s.carriedBy d (List.finRange 32) (s.pallet q) = true then (s.pallet q).writtenOff d else s.pallet q
  wrote : s.Wrote t (s.writeOffRecords d)
  stilled : s.tableKept → ∀ q, (s.pallet q).location = .at (.trailer d) → ∀ code, (s.pallet q).exposed code →
    t.alarms.stilled code (.pallet q)

/-- A pallet whose move is written off leaves as it would have. -/
theorem trailerRecord_writtenOff (kind : RecordKind) (lost : Bool) (x : Pallet) :
    trailerRecord kind lost d (x.writtenOff d) = trailerRecord kind lost d x := by
  unfold Pallet.writtenOff
  split <;> rfl

/-- The records of the pallets that leave in a state are those that the pallets of an earlier state give. -/
theorem trailerRecords_congr {t : State} {state : PalletState} (kind : RecordKind) (lost : Bool) (hclock : t.clock = s.clock)
    (hwaits : ∀ q, (t.pallet q).waits state d = (s.pallet q).waits state d)
    (hrecord : ∀ q, (s.pallet q).waits state d = true →
      trailerRecord kind lost d (t.pallet q) = trailerRecord kind lost d (s.pallet q)) :
    ((List.finRange 256).filter fun q => (t.pallet q).waits state d).map (fun q => trailerRecord kind lost d (t.pallet q) t.clock)
      = ((List.finRange 256).filter fun q => (s.pallet q).waits state d).map
        fun q => trailerRecord kind lost d (s.pallet q) s.clock := by
  simp only [hwaits, hclock]
  exact List.map_congr_left fun q hq => congrFun (hrecord q (List.mem_filter.mp hq).2) s.clock

section
variable {l : List (Fin 32)} {u : State} (h : s.Cancelled d l u)
include h

theorem State.Cancelled.pallet_cases (q : Fin 256) : u.pallet q = (s.pallet q).writtenOff d ∨ u.pallet q = s.pallet q := by
  rw [h.pallet q]
  exact ite_eq_or_eq _ _ _

theorem State.Cancelled.waits {state : PalletState} (hplaced : state ≠ .placed) (htransit : state ≠ .inTransit) (q : Fin 256) :
    (u.pallet q).waits state d = (s.pallet q).waits state d := by
  obtain hq | hq := h.pallet_cases q
  · rw [hq, Pallet.writtenOff_waits _ hplaced htransit]
  · rw [hq]

theorem State.Cancelled.trailerRecord (kind : RecordKind) (q : Fin 256) :
    trailerRecord kind true d (u.pallet q) = trailerRecord kind true d (s.pallet q) := by
  obtain hq | hq := h.pallet_cases q
  · rw [hq, trailerRecord_writtenOff]
  · rw [hq]

theorem State.Cancelled.exposed {q : Fin 256} {code : AlarmCode} (hexposed : (s.pallet q).exposed code) :
    (u.pallet q).exposed code := by
  obtain hq | hq := h.pallet_cases q
  · rwa [hq, Pallet.writtenOff_exposed]
  · rwa [hq]

end

/-- A pallet does not wait in two states. -/
theorem Pallet.waits_inbound {x : Pallet} (h : x.waits .inbound d = true) : x.waits .aboard d = false :=
  decide_eq_false fun haboard => absurd ((of_decide_eq_true h).1.symm.trans haboard.1) nofun

theorem writeOff_writtenOff (hkept : s.recordsKept) (d : Fin 24) :
    s.WrittenOff d (rejectInbound d (shipAboard true d (forEach 32 (writeOffMove d) s))) := by
  have hmoves := writeOffMoves_cancelled hkept d
  generalize forEach 32 (writeOffMove d) s = u at hmoves
  have hship : u.Departed .aboard .shipped true d (List.finRange 256) (shipAboard true d u) :=
    settleTrailerPallets_departed .aboard .shipped true d u
  have hshipMoves := State.frame_moves (shipAboard_frame true d u) (by decide)
  generalize shipAboard true d u = v at hship hshipMoves
  have hreject : v.Departed .inbound .rejected true d (List.finRange 256) (rejectInbound d v) :=
    settleTrailerPallets_departed .inbound .rejected true d v
  have hrejectMoves := State.frame_moves (rejectInbound_frame d v) (by decide)
  generalize rejectInbound d v = t at hreject hrejectMoves
  have huAboard := hmoves.waits (state := .aboard) nofun nofun
  have huInbound := hmoves.waits (state := .inbound) nofun nofun
  have hvPallet : ∀ q, v.pallet q = if (s.pallet q).waits .aboard d = true then .empty else u.pallet q := fun q => by
    rw [hship.pallet q, huAboard]
    exact if_congr (and_iff_right (List.mem_finRange q)) rfl rfl
  have hvInbound : ∀ q, (s.pallet q).waits .inbound d = true → v.pallet q = u.pallet q := fun q hq =>
    (hvPallet q).trans (if_neg (Bool.eq_false_iff.mp (Pallet.waits_inbound hq)))
  have hvWaits : ∀ q, (v.pallet q).waits .inbound d = (s.pallet q).waits .inbound d := fun q => by
    by_cases haboard : (s.pallet q).waits .aboard d = true
    · rw [hvPallet q, if_pos haboard]
      exact (Bool.eq_false_iff.mpr fun h => absurd ((Pallet.waits_inbound h).symm.trans haboard) nofun).symm
    · rw [hvPallet q, if_neg haboard, huInbound]
  have hvClock := hship.wrote.clock.trans hmoves.wrote.clock
  refine ⟨fun m => ?_, fun q => ?_, ?_, fun hkept' q hq code hexposed => ?_⟩
  · rw [State.move, hrejectMoves, hshipMoves]
    exact (hmoves.move m).trans (if_congr (and_iff_right (List.mem_finRange m)) rfl rfl)
  · rw [hreject.pallet q, hvWaits, hvPallet q, hmoves.pallet q]
    have hat := (hkept.agrees q).at_trailer (d := d)
    by_cases hin : (s.pallet q).waits .inbound d = true
    · rw [if_pos ⟨List.mem_finRange q, hin⟩, if_pos (hat.mpr (.inr hin))]
    · rw [if_neg fun h => hin h.2]
      exact if_congr ⟨fun h => hat.mpr (.inl h), fun h => (hat.mp h).resolve_right hin⟩ rfl rfl
  · have hshipped := hship.wrote
    have hrejected := hreject.wrote
    rw [trailerRecords_congr (s := s) .shipped true hmoves.wrote.clock huAboard
      fun q _ => hmoves.trailerRecord .shipped q] at hshipped
    rw [trailerRecords_congr (s := s) .rejected true hvClock hvWaits fun q hq =>
      (congrArg (trailerRecord .rejected true d) (hvInbound q hq)).trans (hmoves.trailerRecord .rejected q)] at hrejected
    exact (hmoves.wrote.trans hshipped).trans hrejected
  · have hz := AlarmTable.zeroKept_of_kept hkept'
    have hsingle : s.alarms.single code (.pallet q) := AlarmTable.single_of_kept hkept'
    have hends := hexposed.ends
    have huExposed := hmoves.exposed hexposed
    have hzu := (hmoves.wrote.settles hz).1
    have hsingleu := AlarmTable.settles_single hmoves.wrote.settles hz hends hsingle
    have hzv := (hship.wrote.settles hzu).1
    obtain hin | hin := ((hkept.agrees q).at_trailer).mp hq
    · exact AlarmTable.settles_stilled hreject.wrote.settles hzv hends (hship.stilled hzu q (List.mem_finRange q)
        ((huAboard q).trans hin) code huExposed hsingleu)
    · exact hreject.stilled hzv q (List.mem_finRange q) ((hvWaits q).trans hin) code ((hvInbound q hin).symm ▸ huExposed)
        (AlarmTable.settles_single hship.wrote.settles hzu hends hsingleu)

end

end Sys2Proof.Machine
end

section
/-! PROOFS. The door requests in RUN as the Dock Part answers them (O57): the fault cleared, and every request's answer put together. -/

namespace Sys2Proof.Machine

set_option Elab.async false

/-! ### The fault cleared (R58) -/

/-- The record after a cleared fault, in the state derived from the lines (R45, R58). -/
def Door.afterFault (x : Door) (state : DoorState) (temperature : Option Temperature) : Door :=
  { x with
    state := state, permit := .none, closeMark := false, breachOrigin := false, faultCause := .none
    faultFlag := false, faultUnposted := false, trailerTemp := temperature
    sealTimer := if state = .sealing then .start x.sealLimit else .stopped
    breachTimer := if state = .breach then .start x.breachGrace else .stopped
    releaseTimer := .stopped }

theorem Door.unfaulted_inState (x : Door) {next : DoorState × FaultCause} (hfault : next.1 ≠ .fault)
    (hrelease : next.1 ≠ .releasing) : x.unfaulted.inState next false true
      = x.afterFault next.1 (if next.1 = .vacant then none else x.trailerTemp) := by
  simp [Door.inState, Door.unfaulted, Door.afterFault, hfault, hrelease]

theorem Door.derive_driven_unfaulted (x : Door) (lines : LineSettings) (held : Bool) :
    (x.unfaulted.driven lines).derive held = x.derive held := rfl

/-- A fault cleared at a door that derives no other. -/
theorem unfaulted_derived {d : Fin 24} {v : State} {next : DoorState × FaultCause}
    (hnext : ((v.door d).derive (v.trailerHeld d)).stateAndCause = next) (hfault : next.1 ≠ .fault) :
    ∃ attn, deriveDoor d ((v.modifyDoor d Door.unfaulted).returnCondition .doorFault (.door d))
      = (v.setDoor d ((v.door d).afterFault next.1 (if next.1 = .vacant then none else (v.door d).trailerTemp))).withTable
          (v.alarms.return .doorFault (.door d)) attn := by
  have hrelease : next.1 ≠ .releasing := hnext ▸ Derived.stateAndCause_fst_ne_releasing _
  have hcleared : (v.modifyDoor d Door.unfaulted).returnCondition .doorFault (.door d)
      = (v.setDoor d (v.door d).unfaulted).withTable (v.alarms.return .doorFault (.door d))
          ((v.modifyDoor d Door.unfaulted).returnCondition .doorFault (.door d)).attn := rfl
  have hderive : (((v.modifyDoor d Door.unfaulted).returnCondition .doorFault (.door d)).door d).derive
      (((v.modifyDoor d Door.unfaulted).returnCondition .doorFault (.door d)).trailerHeld d)
        = (v.door d).derive (v.trailerHeld d) := by
    rw [hcleared, State.withTable_door, State.door_setDoor_self, Door.derive_driven_unfaulted]
    rfl
  rw [deriveDoor_enters, hderive, hnext, hcleared]
  generalize ((v.modifyDoor d Door.unfaulted).returnCondition .doorFault (.door d)).attn = attn
  obtain ⟨attn', heq⟩ := enterState_eq next false d
    ((v.setDoor d (v.door d).unfaulted).withTable (v.alarms.return .doorFault (.door d)) attn)
  simp only [State.withTable_door, State.withTable_setDoor, State.withTable_withTable, State.withTable_clock,
    State.withTable_alarms, State.setDoor_setDoor, State.door_setDoor_self, stateRaise, if_neg hfault] at heq
  refine ⟨attn', heq.trans (congrArg (State.withTable · _ attn') (State.setDoor_congr ?_))⟩
  rw [Door.inState_driven, Door.unfaulted_inState _ hfault hrelease]

section
variable {d : Fin 24} {s : State} (henabled : (s.door d).enabled = true)
include henabled

theorem doorClearFault_refused
    (h : ¬ ((s.door d).state = .fault ∧ ¬ ((s.door d).sm.level = true ∧ (s.door d).tp.level = false))) :
    doorClearFault (BitVec.ofNat 8 d) s = refuse .doorState s := by
  refine (onEnabledDoor_ofNat henabled _).trans ?_
  dsimp only
  by_cases hstate : (s.door d).state = .fault
  · rw [if_pos hstate, if_pos (by simpa using fun hsm => h ⟨hstate, hsm⟩)]
  · rw [if_neg hstate]

theorem doorClearFault_cleared (hstate : (s.door d).state = .fault)
    (hsm : ¬ ((s.door d).sm.level = true ∧ (s.door d).tp.level = false)) : doorClearFault (BitVec.ofNat 8 d) s
      = ⟨deriveDoor d (((if (s.door d).tp.level = true then s else writeOff d s).modifyDoor d Door.unfaulted).returnCondition
          .doorFault (.door d)), .ok, []⟩ := by
  refine (onEnabledDoor_ofNat henabled _).trans ((if_pos hstate).trans (if_neg ?_))
  simpa using hsm

end

/-- With its trailer at the door, a cleared fault leads to a state with a trailer (R45). -/
theorem Door.derive_with_trailer {x : Door} (htp : x.tp.level = true) (held : Bool) :
    (x.derive held).stateAndCause.1 ≠ .fault ∧ (x.derive held).stateAndCause.1 ≠ .vacant := by
  rw [Door.derive_stateAndCause, htp]
  split_ifs <;> simp_all

/-- With the trailer gone and written off, a cleared fault leads to VACANT, or to BREACH where the panel is open (R45, R58). -/
theorem Door.derive_without_trailer {x : Door} (htp : x.tp.level = false) (hsm : ¬ (x.sm.level = true ∧ x.tp.level = false)) :
    (x.derive false).stateAndCause = (if x.pc.level = true then .vacant else .breach, .none) := by
  have hsm : x.sm.level = false := Bool.eq_false_iff.mpr fun h => hsm ⟨h, htp⟩
  rw [Door.derive_stateAndCause, htp, hsm]
  cases x.pc.level <;> simp

/-- A trailer written off holds nothing (R45, R59). -/
theorem State.WrittenOff.not_held {d : Fin 24} {s t : State} (h : s.WrittenOff d t) : t.trailerHeld d = false := by
  refine Bool.eq_false_iff.mpr fun hheld => ?_
  obtain ⟨q, hlive, hlocation⟩ | ⟨m, hlive, hnames⟩ := (t.trailerHeld_eq_true d).mp hheld
  · rw [h.pallet q] at hlive hlocation
    split at hlocation
    · cases hlocation
    · next hnot =>
      refine hnot ?_
      split at hlocation
      · unfold Pallet.writtenOff at hlocation
        split at hlocation
        · cases hlocation
        · exact hlocation
      · exact hlocation
  · have hnames : (t.move m).namesTrailer d = true := by
      simpa [Move.namesTrailer, hlive] using hnames
    rw [h.move m] at hnames
    split at hnames
    · cases hnames
    · next hnot => exact hnot hnames

/-- The fault cleared once the trailer is written off: the door in the state derived from its lines (R58). -/
theorem State.WrittenOff.cleared {d : Fin 24} {s t : State} (hoff : s.WrittenOff d t) (hframe : s.frame endFields t)
    (htp : (s.door d).tp.level = false) (hsm : ¬ ((s.door d).sm.level = true ∧ (s.door d).tp.level = false)) :
    ∃ attn, deriveDoor d (((t.modifyDoor d fun x => { x with trailerTemp := none }).modifyDoor d Door.unfaulted).returnCondition
        .doorFault (.door d))
      = (t.setDoor d ((s.door d).afterFault (if (s.door d).pc.level = true then .vacant else .breach) none)).withTable
          (t.alarms.return .doorFault (.door d)) attn := by
  have hdoor : t.door d = s.door d := State.frame_door hframe (by decide) d
  have hnext : (((t.modifyDoor d fun x => { x with trailerTemp := none }).door d).derive
      ((t.modifyDoor d fun x => { x with trailerTemp := none }).trailerHeld d)).stateAndCause
        = (if (s.door d).pc.level = true then .vacant else .breach, .none) := by
    rw [State.modifyDoor, State.door_setDoor_self, hdoor]
    exact (congrArg (fun held => ((s.door d).derive held).stateAndCause) hoff.not_held).trans (Door.derive_without_trailer htp hsm)
  obtain ⟨attn, heq⟩ := unfaulted_derived hnext (by split <;> nofun)
  refine ⟨attn, heq.trans ?_⟩
  rw [State.modifyDoor, State.setDoor_setDoor, State.door_setDoor_self, hdoor]
  refine congrArg (State.withTable · _ attn) (State.setDoor_congr ?_)
  exact congrArg (fun temperature => ((s.door d).afterFault _ temperature).driven t.lines) (ite_self none)

theorem writeOff_cleared {d : Fin 24} {s : State} (hkept : s.recordsKept) (htp : (s.door d).tp.level = false)
    (hsm : ¬ ((s.door d).sm.level = true ∧ (s.door d).tp.level = false)) :
    ∃ t, s.WrittenOff d t ∧ s.frame endFields t
      ∧ ∃ attn, deriveDoor d (((writeOff d s).modifyDoor d Door.unfaulted).returnCondition .doorFault (.door d))
        = (t.setDoor d ((s.door d).afterFault (if (s.door d).pc.level = true then .vacant else .breach) none)).withTable
            (t.alarms.return .doorFault (.door d)) attn :=
  ⟨_, writeOff_writtenOff hkept d, writeOff_records_frame d s,
    (writeOff_writtenOff hkept d).cleared (writeOff_records_frame d s) htp hsm⟩

end Sys2Proof.Machine
end

section
/-! PROOFS. O57 put together: the answers of the door requests in RUN, by state. -/

namespace Sys2Proof.Machine

set_option Elab.async false

/-! ### Answers in RUN -/

/-- A command that is a request of the Dock Part, answered in RUN. -/
theorem exec_dock {s : State} (hready : s.ready .dock) (hmode : s.mode = .run) {tag : Byte} {c : Instr} {r : Request}
    {row : RequestRow} (hexec : exec c s = .next (requestArrives .dock tag r s)) (hrow : requestRow r.code = some row)
    (hrole : row.role = some .dock) (hrun : row.run = .taken) {a : Answer} (ha : perform .dock r s = a) :
    exec c s = .next (serve .dock (r.frame tag) a) := by
  rw [hexec, requestArrives_dock hready hmode tag hrow hrole hrun, ha]

theorem Journal.fills_map {α : Type} (j : Journal) (l : List α) (f : α → Word32 → JournalRecord) :
    j.fills (l.map f) ↔ l ≠ [] ∧ j.threshold ≤ j.held + l.length := by
  rw [Journal.fills, ne_eq, List.map_eq_nil_iff, List.length_map]

theorem numbered_map {α : Type} (next : Word32) (l : List α) (f : α → Word32 → JournalRecord) :
    numbered next (l.map f) = l.mapIdx fun i a => f a (next + BitVec.ofNat 32 i) :=
  List.ext_getElem (by simp [numbered]) fun i _ _ => by simp [numbered]

/-- What stills a pallet's exposure alarms, told of each entry. -/
theorem Pallet.exposed_returned {x : Pallet} {q : Fin 256} {a : AlarmTable}
    (h : ∀ code, x.exposed code → a.stilled code (.pallet q)) {i : Fin 48} {e : AlarmEntry} (he : a.entries[i] = some e)
    (hsubject : e.subject = .pallet q)
    (hexposed : e.code = .exposureWarning ∧ x.warned = true ∨ e.code = .exposureExceeded ∧ x.overBudget = true) :
    e.condition = .returned := h e.code hexposed i e he rfl hsubject

/-! ### DOOR RELEASE (R56) -/

section
variable {d : Fin 24} {s : State}

/-- The pallets ABOARD of a trailer. -/
def State.aboardOf (s : State) (d : Fin 24) : List (Fin 256) :=
  (List.finRange 256).filter fun q => decide ((s.pallet q).state = .aboard ∧ (s.pallet q).location = .at (.trailer d))

theorem shipAboard_departed (lost : Bool) (d : Fin 24) (s : State) :
    s.Departed .aboard .shipped lost d (List.finRange 256) (shipAboard lost d s) :=
  settleTrailerPallets_departed .aboard .shipped lost d s

theorem enterReleasing_journal (d : Fin 24) (s : State) : (enterReleasing d s).journal = s.journal := rfl

section
variable {u : State} (h : s.Departed .aboard .shipped false d (List.finRange 256) u)
include h

theorem State.Departed.released_pallet (q : Fin 256) : (enterReleasing d u).pallet q
    = if (s.pallet q).state = .aboard ∧ (s.pallet q).location = .at (.trailer d) then .empty else s.pallet q :=
  (h.pallet q).trans (if_congr ((and_iff_right (List.mem_finRange q)).trans decide_eq_true_iff) rfl rfl)

theorem State.Departed.released_wrote : s.Wrote (enterReleasing d u)
    ((s.aboardOf d).map fun q => trailerRecord .shipped false d (s.pallet q) s.clock) :=
  h.wrote.aside rfl rfl rfl

theorem State.Departed.released_room (hroom : ∃ i : Fin 48, i ≠ 0 ∧ s.alarms.entries[i] = none) (hkept : s.tableKept) :
    (enterReleasing d u).journal.highUnposted = s.journal.highUnposted := by
  obtain ⟨hset, hclear⟩ := h.room
  rw [enterReleasing_journal]
  cases hflag : s.journal.highFlag with
  | true => exact (hset hflag).2
  | false => exact (hclear hflag ⟨AlarmTable.zeroKept_of_kept hkept, hroom⟩).1

theorem State.Departed.released_stilled (hkept : s.tableKept) {q : Fin 256} (hq : q ∈ s.aboardOf d) {code : AlarmCode}
    (hexposed : (s.pallet q).exposed code) : (enterReleasing d u).alarms.stilled code (.pallet q) :=
  h.stilled (AlarmTable.zeroKept_of_kept hkept) q (List.mem_finRange q) (List.mem_filter.mp hq).2 code hexposed
    (AlarmTable.single_of_kept hkept)

end

theorem enterReleasing_frame (d : Fin 24) (s : State) : s.frame [.doors] (enterReleasing d s) :=
  frame_setDoor (by decide) s d _

theorem released_frame (d : Fin 24) (s : State) :
    s.frame [.doors, .pallets, .journal, .alarms, .attn] (enterReleasing d (shipAboard false d s)) :=
  State.frame_trans (State.frame_mono (shipAboard_frame false d s) (by decide))
    (State.frame_mono (enterReleasing_frame d _) (by decide))

/-! ### DOOR CLEAR FAULT (R58, R59) -/

/-- After a cleared fault DOOR_FAULT is RETURNED. -/
theorem faultReturned_stilled {a : AlarmTable} (hkept : s.tableKept) (h : s.alarms.settles a) :
    (a.return .doorFault (.door d)).stilled .doorFault (.door d) := by
  have hz := AlarmTable.zeroKept_of_kept hkept
  exact AlarmTable.return_stilled nofun (h hz).1
    (AlarmTable.settles_single h hz (.inr (.inr rfl)) (AlarmTable.single_of_kept hkept))

/-- The door whose fault is cleared, and the other doors. -/
theorem cleared_door (t : State) (y : Door) (a : AlarmTable) (attn : PerPort Bool) :
    (((t.setDoor d y).withTable a attn).door d = y.driven t.lines)
      ∧ ∀ d', d' ≠ d → ((t.setDoor d y).withTable a attn).door d' = t.door d' :=
  ⟨State.door_setDoor_self t d y, fun _ hd => State.door_setDoor_ne t y hd⟩

theorem cleared_frame {t : State} (hframe : s.frame endFields t) (y : Door) (a : AlarmTable) (attn : PerPort Bool) :
    s.frame (.doors :: endFields) ((t.setDoor d y).withTable a attn) := by
  refine State.frame_trans (State.frame_mono hframe (by decide)) (State.frame_trans (frame_setDoor (by decide) t d y) ?_)
  rfl

theorem cleared_wrote {t : State} {w : List (Word32 → JournalRecord)} (h : s.Wrote t w) (y : Door) (attn : PerPort Bool) :
    s.Wrote ((t.setDoor d y).withTable (t.alarms.return .doorFault (.door d)) attn) w :=
  (h.returned (code := .doorFault) nofun nofun (.door d)).aside rfl rfl rfl

/-- What a cleared fault leaves with the trailer at the door (R45, R58). -/
theorem unfaulted_with_trailer {t : State} (htp : (s.door d).tp.level = true)
    (ht : deriveDoor d ((s.modifyDoor d Door.unfaulted).returnCondition .doorFault (.door d)) = t) :
    ((t.door d).state, (t.door d).faultCause) = ((s.door d).derive (s.trailerHeld d)).stateAndCause
      ∧ t.door d = ((s.door d).afterFault (t.door d).state (s.door d).trailerTemp).driven s.lines
      ∧ (∀ d', d' ≠ d → t.door d' = s.door d')
      ∧ t = { s with doors := t.doors, alarms := s.alarms.return .doorFault (.door d), attn := t.attn } := by
  obtain ⟨hfault, hvacant⟩ := Door.derive_with_trailer htp (s.trailerHeld d)
  obtain ⟨attn, heq⟩ := unfaulted_derived (d := d) (v := s) rfl hfault
  rw [if_neg hvacant] at heq
  rw [← ht, heq]
  obtain ⟨hdoor, hothers⟩ := cleared_door (d := d) s ((s.door d).afterFault ((s.door d).derive (s.trailerHeld d)).stateAndCause.1
    (s.door d).trailerTemp) (s.alarms.return .doorFault (.door d)) attn
  refine ⟨?_, ?_, hothers, rfl⟩
  · rw [hdoor]
    exact Prod.ext rfl (Derived.stateAndCause_none hfault).symm
  · rw [hdoor]
    rfl

section
variable {t : State} (hoff : s.WrittenOff d t)
include hoff

/-- After a trailer written off and its fault cleared, what ended with them is RETURNED (R58, R97). -/
theorem State.WrittenOff.returned (hkept : s.tableKept) {i : Fin 48} {e : AlarmEntry}
    (he : (t.alarms.return .doorFault (.door d)).entries[i] = some e)
    (hended : e.code = .doorFault ∧ e.subject = .door d ∨ ∃ q : Fin 256, (s.pallet q).location = .at (.trailer d)
      ∧ e.subject = .pallet q ∧ (s.pallet q).exposed e.code) : e.condition = .returned := by
  obtain ⟨hcode, hsubject⟩ | ⟨q, hlocation, hsubject, hexposed⟩ := hended
  · exact faultReturned_stilled hkept hoff.wrote.settles i e he hcode hsubject
  · have hz := (hoff.wrote.settles (AlarmTable.zeroKept_of_kept hkept)).1
    exact AlarmTable.settles_stilled (AlarmTable.return_settles (code := .doorFault) t.alarms nofun (.door d)) hz hexposed.ends
      (hoff.stilled hkept q hlocation e.code hexposed) i e he rfl hsubject

theorem State.WrittenOff.pallet_moveOf (q : Fin 256) : t.pallet q = if (s.pallet q).location = .at (.trailer d) then .empty
    else if (s.moveOf (s.pallet q)).any (·.namesTrailer d) = true then (s.pallet q).writtenOff d else s.pallet q := by
  rw [hoff.pallet q]
  refine if_congr Iff.rfl rfl (if_congr ?_ rfl rfl)
  simp [State.carriedBy, State.moveOf, Option.any_map]

end

end

/-- Settles O57: each request by its own equation, and the two that write records by what their runs of records leave. -/
theorem doorRequestsMoveTheDoor : Obligations.DoorRequestsMoveTheDoor := by
  refine ⟨fun tag d s hready hmode henabled => ?_, fun tag door on temperature s hready hmode => ?_⟩
  · refine ⟨?_, ?_, fun on => ?_, fun temperature => ?_, ?_, ?_, fun on hon => ?_⟩
    · have harm := doorArmSeal_eq henabled
      split
      · next hstate => exact exec_dock hready hmode rfl rfl rfl rfl (harm.trans (if_pos hstate))
      · next hstate => exact exec_dock hready hmode rfl rfl rfl rfl (harm.trans (if_neg hstate))
    · have hclose := doorClose_eq henabled
      split
      · next hstate =>
        exact ⟨fun houtputs => exec_dock hready hmode rfl rfl rfl rfl (doorOpenPermit_sealed henabled hstate houtputs),
          exec_dock hready hmode rfl rfl rfl rfl (hclose.trans (if_pos hstate))⟩
      · next hstate =>
        refine ⟨exec_dock hready hmode rfl rfl rfl rfl (doorOpenPermit_refused henabled hstate), ?_⟩
        rw [if_neg hstate] at hclose
        split
        · next hworking => exact exec_dock hready hmode rfl rfl rfl rfl (hclose.trans (if_pos hworking))
        · next hworking => exact exec_dock hready hmode rfl rfl rfl rfl (hclose.trans (if_neg hworking))
    · exact exec_dock hready hmode rfl rfl rfl rfl (doorOverride_eq henabled on)
    · have hreport := reportTrailerTemperature_eq henabled temperature
      split
      · next htp => exact exec_dock hready hmode rfl rfl rfl rfl (hreport.trans (if_pos htp))
      · next htp => exact exec_dock hready hmode rfl rfl rfl rfl (hreport.trans (if_neg htp))
    · split
      · next hstate =>
        refine ⟨fun hheld => exec_dock hready hmode rfl rfl rfl rfl
          (doorRelease_busy henabled hstate ((s.releaseHeld_iff d).mpr hheld)), fun hinbound hmoves => ?_⟩
        have hheld : s.releaseHeld d = false := Bool.eq_false_iff.mpr fun h => by
          obtain ⟨q, hq, hlocation⟩ | ⟨m, hm, hends⟩ := (s.releaseHeld_iff d).mp h
          · exact hinbound q hq hlocation
          · exact hends.elim (hmoves m hm).1 (hmoves m hm).2
        have hship := shipAboard_departed false d s
        have hwrote := hship.released_wrote
        have hhigh := hwrote.high
        simp only [Journal.fills_map] at hhigh
        refine ⟨_, exec_dock hready hmode rfl rfl rfl rfl (doorRelease_done henabled hstate hheld), released_door d s,
          hship.released_pallet, ⟨?_, ?_, ?_, hwrote.threshold, hhigh, hship.released_room,
            fun hkept q hq i e he hsubject hexposed => ?_⟩,
          State.eq_merge (released_frame d s)⟩
        · exact hwrote.records.trans (congrArg _ (numbered_map _ _ _))
        · exact hwrote.held.trans (congrArg _ (List.length_map _))
        · exact hwrote.next.trans (congrArg (fun n => s.journal.next + BitVec.ofNat 32 n) (List.length_map _))
        · exact Pallet.exposed_returned (fun code => hship.released_stilled hkept hq) he hsubject hexposed
      · next hstate => exact exec_dock hready hmode rfl rfl rfl rfl (doorRelease_refused henabled hstate)
    · split
      · next hclears =>
        obtain ⟨hstate, hsm⟩ := hclears
        refine ⟨_, exec_dock hready hmode rfl rfl rfl rfl (doorClearFault_cleared henabled hstate hsm), fun htp => ?_,
          fun htp hkept => ?_⟩
        · rw [if_pos htp]
          exact unfaulted_with_trailer htp rfl
        · obtain ⟨t, hoff, hframe, attn, heq⟩ := writeOff_cleared hkept htp hsm
          rw [if_neg (Bool.eq_false_iff.mp htp), heq]
          generalize hy : (s.door d).afterFault (if (s.door d).pc.level = true then .vacant else .breach) none = y
          obtain ⟨hdoor, hothers⟩ := cleared_door (d := d) t y (t.alarms.return .doorFault (.door d)) attn
          have hwrote := cleared_wrote (d := d) hoff.wrote y attn
          refine ⟨hdoor.trans ?_, fun hkept' i e he => hoff.returned hkept' he, hoff.move, hoff.pallet_moveOf,
            ⟨hwrote.records, hwrote.held, hwrote.next, hwrote.threshold, hwrote.high⟩, fun d' hd => ?_,
            State.eq_merge (cleared_frame (d := d) hframe y _ attn)⟩
          · rw [← hy, State.frame_lines hframe (by decide)]
            rfl
          · exact (hothers d' hd).trans (State.frame_door hframe (by decide) d')
      · next hclears => exact exec_dock hready hmode rfl rfl rfl rfl (doorClearFault_refused henabled hclears)
    · exact exec_dock hready hmode rfl rfl rfl rfl (doorOverride_refused henabled hon)
  · refine ⟨fun hdoor => ?_, ?_⟩
    · exact ⟨exec_dock hready hmode rfl rfl rfl rfl (onEnabledDoor_of_le hdoor _),
        exec_dock hready hmode rfl rfl rfl rfl (onEnabledDoor_of_le hdoor _),
        exec_dock hready hmode rfl rfl rfl rfl (onEnabledDoor_of_le hdoor _),
        exec_dock hready hmode rfl rfl rfl rfl (onEnabledDoor_of_le hdoor _),
        exec_dock hready hmode rfl rfl rfl rfl (onEnabledDoor_of_le hdoor _),
        exec_dock hready hmode rfl rfl rfl rfl (onEnabledDoor_of_le hdoor _),
        exec_dock hready hmode rfl rfl rfl rfl (onEnabledDoor_of_le hdoor _)⟩
    · rintro d rfl hdisabled
      exact ⟨exec_dock hready hmode rfl rfl rfl rfl (onEnabledDoor_disabled hdisabled _),
        exec_dock hready hmode rfl rfl rfl rfl (onEnabledDoor_disabled hdisabled _),
        exec_dock hready hmode rfl rfl rfl rfl (onEnabledDoor_disabled hdisabled _),
        exec_dock hready hmode rfl rfl rfl rfl (onEnabledDoor_disabled hdisabled _),
        exec_dock hready hmode rfl rfl rfl rfl (onEnabledDoor_disabled hdisabled _),
        exec_dock hready hmode rfl rfl rfl rfl (onEnabledDoor_disabled hdisabled _),
        exec_dock hready hmode rfl rfl rfl rfl (onEnabledDoor_disabled hdisabled _)⟩

end Sys2Proof.Machine
end

section
/-! PROOFS. The grant arbiter (R75 to R79): what blocks an entry, one entry's turn, and what a whole evaluation grants. -/

namespace Sys2Proof.Machine

set_option Elab.async false

/-! ### What blocks an entry (R77) -/

theorem State.movesBlock_eq_true (s : State) (r : Fin 8) : s.movesBlock r = true
    ↔ ∃ m : Fin 32, (s.move m).live = true ∧ ∃ p, (s.move m).destination = some p ∧ s.mapsTo p = some r := by
  simp only [State.movesBlock, lowest_isSome, Bool.and_eq_true, beq_iff_eq, Option.bind_eq_some_iff]

theorem State.budgetBlocks_eq_true (s : State) (r : Fin 8) : s.budgetBlocks r = true
    ↔ ∃ q : Fin 256, (s.pallet q).live = true ∧ (∃ p, (s.pallet q).location = .at p ∧ s.mapsTo p = some r)
      ∧ (s.classOf (s.pallet q)).budget * 960 - (s.pallet q).exposure < (s.classOf (s.pallet q)).defrostReserve * 960 := by
  simp only [State.budgetBlocks, lowest_isSome, Bool.and_eq_true, decide_eq_true_eq]
  refine exists_congr fun q => ?_
  cases (s.pallet q).location <;> simp [and_comm, and_left_comm, State.remainingBudget, Config.unitsPerDegreeMinute]

theorem State.inhibited_eq_true (s : State) (r : Fin 8) : s.inhibited r = true ↔ 0 < (s.defrost r).inhibit := decide_eq_true_iff

theorem State.inhibited_eq_false (s : State) (r : Fin 8) : s.inhibited r = false ↔ (s.defrost r).inhibit = 0 := by
  simp [State.inhibited]

theorem State.blocked_eq_true (s : State) (r : Fin 8) : s.blocked r = true
    ↔ 0 < (s.defrost r).inhibit ∨ s.budgetBlocks r = true ∨ s.movesBlock r = true := by
  rw [State.blocked, Bool.or_eq_true, Bool.or_eq_true, State.inhibited_eq_true, or_assoc]

theorem State.blocked_eq_false (s : State) (r : Fin 8) : s.blocked r = false
    ↔ (s.defrost r).inhibit = 0 ∧ s.budgetBlocks r = false ∧ s.movesBlock r = false := by
  rw [State.blocked, Bool.or_eq_false_iff, Bool.or_eq_false_iff, State.inhibited_eq_false, and_assoc]

theorem State.queueState_eq (s : State) (r : Fin 8) : s.queueState r
    = if (s.defrost r).forcedMark = false ∧ s.movesBlock r = true ∧ (s.defrost r).inhibit = 0 ∧ s.budgetBlocks r = false
      then .draining else .queued := by
  simp only [State.queueState, Bool.and_eq_true, Bool.not_eq_true', State.inhibited_eq_false, and_assoc]

/-! ### An entry's turn (R77 to R79) -/

/-- An entry that waits: its state is set from the block tests (R77). -/
def State.waiting (s : State) (r : Fin 8) : State := s.setDefrost r { s.defrost r with state := s.queueState r }

/-- An entry granted (R79). -/
def State.granting (s : State) (r : Fin 8) : State :=
  ({ s with
      remainingCapacity := s.remainingCapacity - (s.defrost r).heaterLoad
      defrostQueue := s.defrostQueue.erase r }.setDefrost r
    { s.defrost r with
      state := .granted, forcedCycle := (s.defrost r).forcedMark, phaseTimer := .start (s.defrost r).grantHold }).setAlarms
    (s.alarms.raise s.clock false .defrostGranted (.room r) none (some (s.defrost r).cycleCount)).1

/-- What a grant needs: room for the load, and a forced mark or nothing that blocks (R77, R78). -/
def State.grantable (s : State) (r : Fin 8) : Prop :=
  (s.defrost r).heaterLoad ≤ s.remainingCapacity ∧ ((s.defrost r).forcedMark = true ∨ s.blocked r = false)

theorem grant_eq (s : State) (r : Fin 8) : grant r s = s.granting r := rfl

theorem grant_waiting (s : State) (r : Fin 8) : grant r (s.waiting r) = s.granting r := by
  have hself : (s.waiting r).defrost r = { s.defrost r with state := s.queueState r } := s.defrost_setDefrost_self r _
  rw [grant_eq, State.granting, State.granting, hself]
  simp only [State.waiting, State.setDefrost, State.setAlarms, Vector.set_set]

section
variable {s : State} {r : Fin 8}

theorem arbiterTurn_barred : arbiterTurn (s, true) r = (s.waiting r, true) := rfl

theorem arbiterTurn_bars (h : s.remainingCapacity < (s.defrost r).heaterLoad) :
    arbiterTurn (s, false) r = (s.waiting r, true) := if_pos h

theorem arbiterTurn_skips (hload : (s.defrost r).heaterLoad ≤ s.remainingCapacity) (hforced : (s.defrost r).forcedMark = false)
    (hblocked : s.blocked r = true) : arbiterTurn (s, false) r = (s.waiting r, false) :=
  (if_neg (not_lt.mpr hload)).trans (if_pos (by rw [hforced, hblocked]; rfl))

theorem arbiterTurn_grants (h : s.grantable r) : arbiterTurn (s, false) r = (s.granting r, false) := by
  obtain ⟨hload, hpasses⟩ := h
  have hpasses : ¬ (!(s.defrost r).forcedMark && s.blocked r) = true := by
    obtain h | h := hpasses <;> simp [h]
  exact (if_neg (not_lt.mpr hload)).trans ((if_neg hpasses).trans (congrArg (·, false) (grant_waiting s r)))

/-- An entry's turn leaves it waiting, or grants it where it can be granted. -/
theorem arbiterTurn_cases (s : State) (bar : Bool) (r : Fin 8) :
    (arbiterTurn (s, bar) r).1 = s.waiting r ∨ s.grantable r ∧ (arbiterTurn (s, bar) r).1 = s.granting r := by
  cases bar with
  | true => exact .inl rfl
  | false =>
    by_cases hload : (s.defrost r).heaterLoad ≤ s.remainingCapacity
    · by_cases hpasses : (s.defrost r).forcedMark = true ∨ s.blocked r = false
      · exact .inr ⟨⟨hload, hpasses⟩, congrArg Prod.fst (arbiterTurn_grants ⟨hload, hpasses⟩)⟩
      · obtain ⟨hforced, hblocked⟩ := not_or.mp hpasses
        exact .inl (congrArg Prod.fst (arbiterTurn_skips hload (Bool.eq_false_iff.mpr hforced) (Bool.not_eq_false _ ▸ hblocked)))
    · exact .inl (congrArg Prod.fst (arbiterTurn_bars (not_le.mp hload)))

end

/-! ### A whole evaluation (R75, R76) -/

theorem State.mem_arbiterOrder (s : State) (r : Fin 8) : r ∈ s.arbiterOrder ↔ r ∈ s.defrostQueue := by
  cases h : (s.defrost r).forcedMark <;> simp [State.arbiterOrder, h]

theorem State.nodup_arbiterOrder {s : State} (h : s.defrostQueue.Nodup) : s.arbiterOrder.Nodup := by
  refine (h.filter _).append (h.filter _) fun r hforced hunforced => ?_
  have h1 := (List.mem_filter.mp hforced).2
  have h2 := (List.mem_filter.mp hunforced).2
  rw [h1] at h2
  cases h2

/-- A property of a state and of the entries still to come, which each turn keeps, holds at the end of an evaluation. -/
theorem evaluateQueue_induct {P : List (Fin 8) → State → Prop} {s : State} (hs : P s.arbiterOrder s)
    (hwaits : ∀ r l t, P (r :: l) t → P l (t.waiting r))
    (hgrants : ∀ r l t, P (r :: l) t → t.grantable r → P l (t.granting r)) : P [] (evaluateQueue s) := by
  have go : ∀ (l : List (Fin 8)) (t : State) (bar : Bool), P l t → P [] (l.foldl arbiterTurn (t, bar)).1 := by
    intro l
    induction l with
    | nil => exact fun _ _ h => h
    | cons r l ih =>
      intro t bar h
      refine ih (arbiterTurn (t, bar) r).1 (arbiterTurn (t, bar) r).2 ?_
      obtain hturn | ⟨hcan, hturn⟩ := arbiterTurn_cases t bar r
      · exact hturn ▸ hwaits r l t h
      · exact hturn ▸ hgrants r l t h hcan
  exact go _ s false hs

/-- What an evaluation leaves of a defrost record: all but its state, forced cycle mark and phase timer (R77, R79). -/
def Defrost.settings (x : Defrost) : Defrost := { x with state := .idle, forcedCycle := false, phaseTimer := .stopped }

theorem State.waiting_settings (s : State) (r i : Fin 8) : ((s.waiting r).defrost i).settings = (s.defrost i).settings := by
  rw [State.waiting, State.defrost_setDefrost]
  split
  · next h => subst h; rfl
  · rfl

theorem State.granting_settings (s : State) (r i : Fin 8) : ((s.granting r).defrost i).settings = (s.defrost i).settings := by
  rw [State.granting, State.setAlarms_defrost, State.defrost_setDefrost]
  split
  · next h => subst h; rfl
  · rfl

theorem evaluateQueue_settings (s : State) (r : Fin 8) : ((evaluateQueue s).defrost r).settings = (s.defrost r).settings :=
  evaluateQueue_induct (P := fun _ t => (t.defrost r).settings = (s.defrost r).settings) rfl
    (fun i _ t h => (t.waiting_settings i r).trans h) fun i _ t h _ => (t.granting_settings i r).trans h

theorem State.waiting_frame (s : State) (r : Fin 8) : s.frame queueFields (s.waiting r) := frame_setDefrost (by decide) s r _

theorem State.granting_frame (s : State) (r : Fin 8) : s.frame queueFields (s.granting r) := by
  rw [← grant_waiting]
  exact State.frame_trans (s.waiting_frame r) (grant_frame r _)

/-- What blocks an entry stands through an evaluation. -/
theorem State.blocks_congr {s t : State} (h : s.frame queueFields t) (r : Fin 8) :
    t.movesBlock r = s.movesBlock r ∧ t.budgetBlocks r = s.budgetBlocks r := by
  have hmaps : t.mapsTo = s.mapsTo := funext fun p => by
    cases p with
    | lane d => simp only [State.mapsTo, State.frame_door h (by decide)]
    | _ => rfl
  simp only [State.movesBlock, State.budgetBlocks, State.remainingBudget, State.classOf, hmaps, State.frame_move h (by decide),
    State.frame_pallet h (by decide), State.frame_productClass h (by decide)]
  exact ⟨trivial, rfl⟩

theorem State.blocked_congr {s t : State} (h : s.frame queueFields t) {r : Fin 8}
    (hsettings : (t.defrost r).settings = (s.defrost r).settings) : t.blocked r = s.blocked r := by
  have hinhibit : (t.defrost r).inhibit = (s.defrost r).inhibit := (congrArg Defrost.inhibit hsettings :)
  rw [State.blocked, State.blocked, (State.blocks_congr h r).1, (State.blocks_congr h r).2, State.inhibited, hinhibit]
  rfl

/-- An evaluation grants entries of the queue alone, and of those the forced and the unblocked. -/
theorem evaluateQueue_grants (s : State) {r : Fin 8} (hafter : ((evaluateQueue s).defrost r).state = .granted)
    (hbefore : (s.defrost r).state ≠ .granted) :
    r ∈ s.defrostQueue ∧ ((s.defrost r).forcedMark = true ∨ s.blocked r = false) := by
  have hinduct := evaluateQueue_induct (s := s) (P := fun l t => s.frame queueFields t ∧ (∀ i ∈ l, i ∈ s.defrostQueue)
    ∧ (t.defrost r).settings = (s.defrost r).settings ∧ ((t.defrost r).state = .granted →
      r ∈ s.defrostQueue ∧ ((s.defrost r).forcedMark = true ∨ s.blocked r = false)))
    ⟨State.frame_refl _ s, fun i => (s.mem_arbiterOrder i).mp, rfl, fun h => absurd h hbefore⟩ ?_ ?_
  · obtain ⟨-, -, -, hgranted⟩ := hinduct
    exact hgranted hafter
  · rintro i l t ⟨hframe, hmem, hsettings, hgranted⟩
    refine ⟨State.frame_trans hframe (t.waiting_frame i), fun j hj => hmem j (.tail i hj),
      (t.waiting_settings i r).trans hsettings, fun hstate => hgranted ?_⟩
    rw [State.waiting, State.defrost_setDefrost] at hstate
    split at hstate
    · rw [State.queueState_eq] at hstate
      split at hstate <;> cases hstate
    · exact hstate
  · rintro i l t ⟨hframe, hmem, hsettings, hgranted⟩ ⟨-, hpasses⟩
    refine ⟨State.frame_trans hframe (t.granting_frame i), fun j hj => hmem j (.tail i hj),
      (t.granting_settings i r).trans hsettings, fun hstate => ?_⟩
    by_cases hi : r = i
    · subst hi
      have hmark : (t.defrost r).forcedMark = (s.defrost r).forcedMark := (congrArg Defrost.forcedMark hsettings :)
      rw [hmark, State.blocked_congr hframe hsettings] at hpasses
      exact ⟨hmem r List.mem_cons_self, hpasses⟩
    · rw [State.granting, State.setAlarms_defrost, State.defrost_setDefrost_ne _ _ hi] at hstate
      exact hgranted hstate

/-- Settles O44: each branch of an entry's turn by its case, and a whole evaluation by induction over its turns. -/
theorem arbiterTakesEntriesInOrder : Obligations.ArbiterTakesEntriesInOrder := by
  refine ⟨fun s => rfl, fun s r bar => ?_, fun s r => ⟨s.movesBlock_eq_true r, s.budgetBlocks_eq_true r⟩,
    fun s r hafter hbefore => ?_⟩
  · have hwaits : s.waiting r = s.setDefrost r { s.defrost r with
        state := if (s.defrost r).forcedMark = false ∧ s.movesBlock r = true ∧ (s.defrost r).inhibit = 0
          ∧ s.budgetBlocks r = false then .draining else .queued } := by
      rw [State.waiting, State.queueState_eq]
    rw [← State.blocked_eq_true, ← State.blocked_eq_false]
    dsimp only
    rw [← hwaits]
    refine ⟨?_, ?_, ?_, ?_⟩
    · rintro rfl
      exact arbiterTurn_barred
    · rintro rfl hload
      exact arbiterTurn_bars hload
    · rintro rfl hload hforced hblocked
      exact arbiterTurn_skips hload hforced hblocked
    · rintro rfl hload hpasses
      exact arbiterTurn_grants ⟨hload, hpasses⟩
  · rw [← State.blocked_eq_false]
    exact evaluateQueue_grants s hafter hbefore

end Sys2Proof.Machine
end

section
/-! PROOFS. A round-complete event at the Defrost Unit: the coil test (R82) and the recovery test (R85). -/

namespace Sys2Proof.Machine

set_option Elab.async false

/-! ### The coil test (R82) -/

theorem coldest_eq_min? (l : List Int) : coldest l = l.min? := by
  cases l <;> rfl

theorem coldest_eq_some (l : List Int) (v : Int) : coldest l = some v ↔ v ∈ l ∧ ∀ a ∈ l, v ≤ a := by
  rw [coldest_eq_min?, List.min?_eq_some_iff]

section
variable {r : Fin 8} {s : State}

theorem testTerminate_none (h : coldest (s.probeTemps .coil r) = none) : testTerminate r s = s := by
  unfold testTerminate
  rw [h]

theorem testTerminate_some {v : Int} (h : coldest (s.probeTemps .coil r) = some v) : testTerminate r s
    = if (s.defrost r).state = .heating ∧ (s.defrost r).terminateMark = false ∧ (s.defrost r).terminateTemp ≤ v then
        (s.setDefrost r { s.defrost r with terminateMark := true }).setAlarms
          (s.alarms.raise s.clock false .terminateReached (.room r) none (some (BitVec.ofInt 16 v))).1
      else s := by
  unfold testTerminate
  rw [h]
  simp only [Bool.not_eq_true']
  rfl

end

/-! ### A room's two tests -/

/-- A defrost record after its room's two tests: the coil's coldest temperature, F, and the effective upper limit (R82, R85). -/
def Defrost.rounded (x : Defrost) (coil : Option Int) (filtered upper : Int) : Defrost :=
  if x.state = .heating then { x with terminateMark := x.terminateMark || coil.any fun v => decide (x.terminateTemp ≤ v) }
  else if x.state = .recovery ∧ filtered ≤ upper then x.recovered
  else x

theorem testTerminate_defrost (r : Fin 8) (s : State) : (testTerminate r s).defrost r
    = if (s.defrost r).state = .heating then
        { s.defrost r with
          terminateMark := (s.defrost r).terminateMark
            || (coldest (s.probeTemps .coil r)).any fun v => decide ((s.defrost r).terminateTemp ≤ v) }
      else s.defrost r := by
  cases h : coldest (s.probeTemps .coil r) with
  | none => simp [testTerminate_none h]
  | some v =>
    rw [testTerminate_some h]
    by_cases hheating : (s.defrost r).state = .heating
    · have hsame : ∀ b, (s.defrost r).terminateMark = b → s.defrost r = { s.defrost r with terminateMark := b } := by
        rintro b rfl
        rfl
      cases hmark : (s.defrost r).terminateMark with
      | true => simpa [hheating] using hsame true hmark
      | false =>
        by_cases hwarm : (s.defrost r).terminateTemp ≤ v
        · simp [hheating, hwarm]
        · simpa [hheating, hwarm] using hsame false hmark
    · simp [hheating]

/-- Between two states a room's vote and its defrost record are the same. -/
structure State.BesideTests (r : Fin 8) (s t : State) : Prop where
  vote : s.BesideVote r t
  defrost : t.defrost r = s.defrost r

theorem State.BesideTests.refl (r : Fin 8) (s : State) : s.BesideTests r s := ⟨.refl r s, rfl⟩

theorem State.BesideTests.trans {r : Fin 8} {s t u : State} (h : s.BesideTests r t) (k : t.BesideTests r u) : s.BesideTests r u :=
  ⟨h.vote.trans k.vote, k.defrost.trans h.defrost⟩

/-- A room's two tests in their order (R82, R85, log entry 13). -/
def testBoth (r : Fin 8) (s : State) : State := testRecovery r (testTerminate r s)

theorem testTerminate_defrost_ne {r i : Fin 8} (h : i ≠ r) (s : State) : (testTerminate i s).defrost r = s.defrost r := by
  cases hcoil : coldest (s.probeTemps .coil i) with
  | none => rw [testTerminate_none hcoil]
  | some v =>
    rw [testTerminate_some hcoil]
    split
    · exact s.defrost_setDefrost_ne _ (Ne.symm h)
    · rfl

theorem testRecovery_defrost_ne {r i : Fin 8} (h : i ≠ r) (s : State) : (testRecovery i s).defrost r = s.defrost r := by
  rw [testRecovery_eq]
  split
  · exact s.defrost_setDefrost_ne _ (Ne.symm h)
  · rfl

theorem testBoth_besideVote (r i : Fin 8) (s : State) : s.BesideVote r (testBoth i s) :=
  (testTerminate_besideVote r i s).trans (testRecovery_besideVote r i _)

theorem testBoth_besideTests {r i : Fin 8} (h : i ≠ r) (s : State) : s.BesideTests r (testBoth i s) :=
  ⟨testBoth_besideVote r i s, (testRecovery_defrost_ne h _).trans (testTerminate_defrost_ne h s)⟩

theorem State.BesideVote.limits {r : Fin 8} {s t : State} (h : s.BesideVote r t) :
    (t.room r).filtered = (s.room r).filtered ∧ (t.room r).effectiveUpper = (s.room r).effectiveUpper :=
  ⟨(congrArg Room.filtered h.core :), (congrArg Room.effectiveUpper h.core :)⟩

theorem testRecovery_defrost (r : Fin 8) (s : State) : (testRecovery r s).defrost r
    = if (s.defrost r).state = .recovery ∧ (s.room r).filtered ≤ (s.room r).effectiveUpper then (s.defrost r).recovered
      else s.defrost r := by
  rw [testRecovery_eq]
  split
  · exact s.defrost_setDefrost_self r _
  · rfl

theorem testBoth_defrost (r : Fin 8) (s : State) : (testBoth r s).defrost r
    = (s.defrost r).rounded (coldest (s.probeTemps .coil r)) (s.room r).filtered (s.room r).effectiveUpper := by
  obtain ⟨hfiltered, hupper⟩ := (testTerminate_besideVote r r s).limits
  rw [testBoth, testRecovery_defrost, hfiltered, hupper, testTerminate_defrost, Defrost.rounded]
  by_cases hheating : (s.defrost r).state = .heating
  · simp [hheating]
  · simp [hheating]

/-- A room's defrost record after the eight rooms' tests. -/
theorem testRooms_defrost (r : Fin 8) (s : State) : (forEach 8 testBoth s).defrost r
    = (s.defrost r).rounded (coldest (s.probeTemps .coil r)) (s.room r).filtered (s.room r).effectiveUpper := by
  obtain ⟨s1, hbefore, hafter⟩ :=
    forEach_at r (State.BesideTests r) (.refl r) State.BesideTests.trans (fun _ s hi => testBoth_besideTests hi s) s
  obtain ⟨hfiltered, hupper⟩ := hbefore.vote.limits
  rw [hafter.defrost, testBoth_defrost, hbefore.defrost, hfiltered, hupper,
    State.probeTemps_congr (State.frame_channels hbefore.vote.frame (by decide))]

theorem testRooms_besideVote (r : Fin 8) (s : State) : s.BesideVote r (forEach 8 testBoth s) :=
  forEach_rel (State.BesideVote r) (.refl r) State.BesideVote.trans (fun i s => testBoth_besideVote r i s) s

/-! ### The whole event in RUN -/

/-- The event in RUN, with each room's two tests. -/
def afterTests (first : Bool) (s : State) : State :=
  if first = true then roundRooms (forEach 8 testBoth s) else forEach 8 testBoth (roundRooms s)

theorem afterRound_of_run {s : State} (h : s.mode = .run) (first : Bool) : afterRound first s = afterTests first s := by
  have hrooms : (roundRooms s).mode = .run := (State.frame_mode (roundRooms_frame s) (by decide)).trans h
  simp only [afterRound, afterTests, roundDefrost, if_pos h, if_pos hrooms]
  rfl

/-- A room's defrost record after the event: its two tests with F before or after the Room Unit, by the order. -/
theorem afterTests_defrost {s : State} (h : s.mode = .run) (first : Bool) (r : Fin 8) : (afterTests first s).defrost r
    = (s.defrost r).rounded (coldest (s.probeTemps .coil r))
        (if first = true then (s.room r).filtered else ((afterTests first s).room r).filtered) (s.room r).effectiveUpper := by
  cases first with
  | true =>
    rw [if_pos rfl, afterTests, if_pos rfl, State.frame_defrost (roundRooms_frame _) (by decide), testRooms_defrost]
  | false =>
    rw [if_neg Bool.false_ne_true]
    have hrooms := roundRooms_frame s
    obtain ⟨hfiltered, hupper⟩ := (testRooms_besideVote r (roundRooms s)).limits
    obtain ⟨flag, mark, hcore, -⟩ := afterRound_room false r s
    rw [afterRound_of_run h] at hcore
    obtain ⟨-, -, -, heffective, -⟩ := Room.limits_of_voteCore hcore
    have hkept : ((roundRooms s).room r).effectiveUpper = (s.room r).effectiveUpper := hupper.symm.trans heffective
    have hafter : afterTests false s = forEach 8 testBoth (roundRooms s) := if_neg Bool.false_ne_true
    rw [hafter, hfiltered, testRooms_defrost, State.frame_defrost hrooms (by decide),
      State.probeTemps_congr (State.frame_channels hrooms (by decide)), hkept]

section
variable {x : Defrost} {coil : Option Int} {filtered upper : Int}

theorem Defrost.rounded_heating (h : x.state = .heating) : (x.rounded coil filtered upper).state = .heating
    ∧ ((x.rounded coil filtered upper).terminateMark = true ↔ x.terminateMark = true
      ∨ ∃ v, coil = some v ∧ x.terminateTemp ≤ v) := by
  rw [Defrost.rounded, if_pos h]
  refine ⟨h, ?_⟩
  rw [Bool.or_eq_true, Option.any_eq_true]
  simp only [decide_eq_true_eq]

theorem Defrost.rounded_recovery (h : x.state = .recovery) : (upper < filtered → x.rounded coil filtered upper = x)
    ∧ (filtered ≤ upper → x.rounded coil filtered upper = x.recovered) := by
  simp only [Defrost.rounded, h, reduceCtorEq, if_false, true_and]
  exact ⟨fun hwarm => if_neg (not_le.mpr hwarm), fun hcold => if_pos hcold⟩

theorem Defrost.rounded_other (hheating : x.state ≠ .heating) (hrecovery : x.state ≠ .recovery) :
    x.rounded coil filtered upper = x := by
  simp [Defrost.rounded, hheating, hrecovery]

end

/-- Settles O40: a room's two tests are singled out of the event's rooms, and F is read before or after the Room Unit. -/
theorem roundCompleteEndsRecovery : Obligations.RoundCompleteEndsRecovery := by
  refine ⟨fun first before hended hmode => ?_, fun r s v h => testTerminate_some h, fun r s h => testTerminate_none h,
    coldest_eq_some⟩
  have hrun : (settleRooms { before with round := .idle }).mode = .run :=
    (State.frame_mode (settleRooms_frame _) (by decide)).trans hmode
  have hexec : exec (.roundComplete first) before = .next (afterTests first (settleRooms { before with round := .idle })) := by
    rw [← afterRound_of_run hrun]
    exact congrArg Host.Outcome.next (completeRound_eq hended first)
  intro s
  refine ⟨afterTests first s, hexec, rfl, fun r => ?_⟩
  have hdefrost := afterTests_defrost hrun first r
  rw [hdefrost]
  exact ⟨Defrost.rounded_heating, fun h => (Defrost.rounded_recovery h).1, fun h => (Defrost.rounded_recovery h).2,
    Defrost.rounded_other⟩

end Sys2Proof.Machine
end

section
/-! PROOFS. O58: the defrost requests in RUN, by the room's defrost state (R72 to R74, R80, R83). -/

namespace Sys2Proof.Machine

set_option Elab.async false

/-! ### Answers in RUN -/

/-- A command that is a request of the role its row names, answered in RUN. -/
theorem exec_run {p : Port} {s : State} (hready : s.ready p) (hmode : s.mode = .run) {tag : Byte} {c : Instr} {r : Request}
    {row : RequestRow} (hexec : exec c s = .next (requestArrives p tag r s)) (hrow : requestRow r.code = some row)
    (hrole : row.role = some p) (hrun : row.run = .taken) {a : Answer} (ha : perform p r s = a) :
    exec c s = .next (serve p (r.frame tag) a) := by
  rw [hexec, requestArrives_performs hready tag hrow (.inr hrole) (State.takes_run p hmode hrun), ha]

theorem cause?_place {c : Termination} (h : c ≠ .none) : cause? (BitVec.ofNat 8 c.place) = some c := by
  cases c with
  | none => exact absurd rfl h
  | temperature | time => rfl

theorem cause?_eq_none {b : Byte} (h : b.toNat = 0 ∨ 3 ≤ b.toNat) : cause? b = none := by
  unfold cause?
  split
  · omega
  · omega
  · rfl

/-! ### Flags cleared with a return -/

section
variable (s : State) (r : Fin 8) (x : Defrost) (a : AlarmTable)

theorem modifyDefrost_written (f : Defrost → Defrost) : ((s.setDefrost r x).setAlarms a).modifyDefrost r f
    = (s.setDefrost r (f x)).setAlarms a := by
  rw [State.modifyDefrost, State.setAlarms_defrost, State.defrost_setDefrost_self, State.setDefrost_setAlarms,
    State.setDefrost_setDefrost]

/-- A flag cleared and its condition returned, where it is set. -/
theorem clearReturn_written (flag : Bool) (f : Defrost → Defrost) (code : AlarmCode) (subject : Subject) :
    (if flag = true then (((s.setDefrost r x).setAlarms a).modifyDefrost r f).returnCondition code subject
      else (s.setDefrost r x).setAlarms a)
    = (s.setDefrost r (if flag = true then f x else x)).setAlarms (if flag = true then a.return code subject else a) := by
  cases flag with
  | true =>
    rw [if_pos rfl, if_pos rfl, if_pos rfl, modifyDefrost_written]
    rfl
  | false => rfl

end

section
variable {s : State} (h : s.attentionKept) (r : Fin 8) (x : Defrost)
include h

/-- A record written and the table left, as a record and the table written (R150). -/
theorem setDefrost_written : s.setDefrost r x = (s.setDefrost r x).setAlarms s.alarms :=
  ((s.setDefrost r x).setAlarms_own h).symm

theorem returnLoad_written : (s.setDefrost r x).returnLoad r
    = ({ s with remainingCapacity := s.remainingCapacity + x.heaterLoad }.setDefrost r x).setAlarms s.alarms := by
  rw [State.returnLoad, State.defrost_setDefrost_self]
  have hown : ({ s with remainingCapacity := s.remainingCapacity + x.heaterLoad }.setDefrost r x).attentionKept := h
  exact (State.setAlarms_own _ hown).symm

end

/-! ### Each request by the room's state -/

section
variable {s : State} {r : Fin 8}

theorem requestDefrost_eq (s : State) (r : Fin 8) : requestDefrost (BitVec.ofNat 8 r) s
    = match (s.defrost r).state with
      | .idle => ⟨evaluateQueue ({ s with defrostQueue := s.defrostQueue ++ [r] }.setDefrost r
          { s.defrost r with state := .queued }), .ok, []⟩
      | .queued | .draining => ⟨s, .duplicate, []⟩
      | .granted | .heating | .drip | .recovery => ⟨s, .defrost, []⟩ := onRoom_ofNat r s _

theorem withdrawDefrost_eq (s : State) (r : Fin 8) : withdrawDefrost (BitVec.ofNat 8 r) s
    = match (s.defrost r).state with
      | .queued | .draining => ⟨evaluateQueue ({ s with defrostQueue := s.defrostQueue.erase r }.setDefrost r
          { s.defrost r with state := .idle }), .ok, []⟩
      | .granted => ⟨evaluateQueue (givePermits r
          ({ s with remainingCapacity := s.remainingCapacity + (s.defrost r).heaterLoad }.setDefrost r
            { s.defrost r with state := .idle, phaseTimer := .stopped, forcedCycle := false })), .ok, []⟩
      | .idle => ⟨s, .none, []⟩
      | .heating | .drip | .recovery => ⟨s, .defrost, []⟩ := by
  rw [withdrawDefrost, onRoom_ofNat]
  cases hstate : (s.defrost r).state with
  | granted =>
    simp only [State.modifyDefrost, State.returnLoad, State.defrost_setDefrost_self]
    rfl
  | _ => rfl

theorem defrostBegun_refused (h : (s.defrost r).state ≠ .granted) :
    defrostBegun (BitVec.ofNat 8 r) s = ⟨s, .defrost, []⟩ := by
  rw [defrostBegun, onRoom_ofNat]
  exact if_neg h

/-- The record of a room whose heating begins (R80). -/
def Defrost.begun (x : Defrost) : Defrost :=
  { x with
    state := .heating, terminateMark := false, phaseTimer := .start x.heatingLimit, forcedFlag := false
    forcedUnposted := x.forcedUnposted && !x.forcedFlag }

theorem defrostBegun_granted (hattn : s.attentionKept) (h : (s.defrost r).state = .granted) : defrostBegun (BitVec.ofNat 8 r) s
    = ⟨((s.setDefrost r (s.defrost r).begun).setRoom r { s.room r with highTimer := .stopped }).setAlarms
        (if (s.defrost r).forcedFlag = true then s.alarms.return .defrostForced (.room r) else s.alarms), .ok, []⟩ := by
  rw [defrostBegun, onRoom_ofNat]
  simp only [h, if_true]
  rw [setDefrost_written hattn, clearReturn_written]
  have hrecord : (if (s.defrost r).forcedFlag = true
      then { s.defrost r with
        state := .heating, terminateMark := false, phaseTimer := .start (s.defrost r).heatingLimit, forcedFlag := false
        forcedUnposted := false }
      else { s.defrost r with state := .heating, terminateMark := false, phaseTimer := .start (s.defrost r).heatingLimit })
      = (s.defrost r).begun := by
    cases hflag : (s.defrost r).forcedFlag <;> simp [Defrost.begun, hflag]
  rw [hrecord]
  rfl

theorem heatingEnded_badArgument {room cause : Byte} (s : State)
    (h : 8 ≤ room.toNat ∨ cause.toNat = 0 ∨ 3 ≤ cause.toNat) : heatingEnded room cause s = ⟨s, .badArgument, []⟩ := by
  obtain hroom | hcause := h
  · exact onRoom_of_le hroom s _
  · rw [heatingEnded, onRoom, cause?_eq_none hcause]
    split <;> rfl

theorem heatingEnded_refused {cause : Byte} {c : Termination} (hcause : cause? cause = some c)
    (h : (s.defrost r).state ≠ .heating) : heatingEnded (BitVec.ofNat 8 r) cause s = ⟨s, .defrost, []⟩ := by
  rw [heatingEnded, onRoom_ofNat, hcause]
  exact if_neg h

/-! #### The eight steps of HEATING ENDED (R83) -/

/-- Steps 1 and 2 and the cause, at the room's record. -/
def Defrost.dripping (x : Defrost) (c : Termination) : Defrost :=
  { x with state := .drip, phaseTimer := .stopped, forcedMark := false, lastTermination := c }

def Defrost.clearOverrun (x : Defrost) : Defrost := { x with overrunFlag := false, overrunUnposted := false }

def Defrost.clearFrost (x : Defrost) : Defrost := { x with frostIndex := 0 }

def Defrost.clearDue (x : Defrost) : Defrost := { x with dueFlag := false, dueUnposted := false }

def Defrost.startDrip (x : Defrost) : Defrost := { x with phaseTimer := .start x.dripTime }

/-- The record of a room whose heating has ended: its steps in order. -/
def Defrost.ended (x : Defrost) (c : Termination) : Defrost :=
  let cleared := (if x.overrunFlag = true then (x.dripping c).clearOverrun else x.dripping c).clearFrost
  (if x.dueFlag = true then cleared.clearDue else cleared).startDrip

theorem Defrost.ended_eq (x : Defrost) (c : Termination) : x.ended c
    = { x with
        state := .drip, phaseTimer := .start x.dripTime, forcedMark := false, lastTermination := c
        frostIndex := 0, overrunFlag := false, overrunUnposted := x.overrunUnposted && !x.overrunFlag
        dueFlag := false, dueUnposted := x.dueUnposted && !x.dueFlag } := by
  cases hover : x.overrunFlag <;> cases hdue : x.dueFlag
    <;> simp [Defrost.ended, Defrost.dripping, Defrost.clearOverrun, Defrost.clearFrost, Defrost.clearDue, Defrost.startDrip, hover, hdue]

/-- The state after the steps and before the evaluation. -/
def endHeating (r : Fin 8) (c : Termination) (s : State) : State :=
  let x := s.defrost r
  let s1 := (s.setDefrost r (x.dripping c)).returnLoad r
  let s2 := if x.overrunFlag = true then (s1.modifyDefrost r Defrost.clearOverrun).returnCondition .defrostOverrun (.room r) else s1
  let s3 := s2.modifyDefrost r Defrost.clearFrost
  let s4 := if x.dueFlag = true then (s3.modifyDefrost r Defrost.clearDue).returnCondition .frostDue (.room r) else s3
  s4.modifyDefrost r Defrost.startDrip

theorem heatingEnded_heating {cause : Byte} {c : Termination} (hcause : cause? cause = some c)
    (h : (s.defrost r).state = .heating) :
    heatingEnded (BitVec.ofNat 8 r) cause s = ⟨evaluateQueue (endHeating r c s), .ok, []⟩ := by
  rw [heatingEnded, onRoom_ofNat, hcause]
  exact if_pos h

theorem endHeating_eq (c : Termination) (hattn : s.attentionKept) : endHeating r c s
    = ({ s with remainingCapacity := s.remainingCapacity + (s.defrost r).heaterLoad }.setDefrost r
        ((s.defrost r).ended c)).setAlarms
          (let a := if (s.defrost r).overrunFlag = true then s.alarms.return .defrostOverrun (.room r) else s.alarms
            if (s.defrost r).dueFlag = true then a.return .frostDue (.room r) else a) := by
  simp only [endHeating]
  rw [returnLoad_written hattn, clearReturn_written, modifyDefrost_written, clearReturn_written, modifyDefrost_written]
  rfl

theorem inhibitDefrost_lengthened {seconds : Word16} (h : seconds ≠ 0) : inhibitDefrost (BitVec.ofNat 8 r) seconds s
    = ⟨s.setDefrost r { s.defrost r with inhibit := max (s.defrost r).inhibit (min seconds.toNat 3600) },
        if 3600 < seconds.toNat then .clamped else .ok,
        value16 (max (s.defrost r).inhibit (min seconds.toNat 3600))⟩ := by
  have hforced : (forceNat 0 3600 seconds.toNat != seconds.toNat) = true ↔ 3600 < seconds.toNat := by
    rw [bne_iff_ne, forceNat_ne (by decide)]
    omega
  have hpos : ¬ min seconds.toNat 3600 = 0 := by
    rw [ne_eq, word_eq_zero_iff] at h
    omega
  rw [inhibitDefrost, onRoom_ofNat]
  simp only [hforced]
  simp only [forceNat_zero, hpos, if_false, State.defrost_setDefrost_self]

theorem inhibitDefrost_ended (s : State) (r : Fin 8) : inhibitDefrost (BitVec.ofNat 8 r) 0 s
    = ⟨if 0 < (s.defrost r).inhibit then evaluateQueue (s.setDefrost r { s.defrost r with inhibit := 0 }) else s, .ok, [0, 0]⟩ := by
  have hforced : forceNat 0 3600 (0 : Word16).toNat = 0 := rfl
  rw [inhibitDefrost, onRoom_ofNat]
  simp only [hforced, if_true]
  by_cases h : 0 < (s.defrost r).inhibit
  · have hleft : ((evaluateQueue (s.setDefrost r { s.defrost r with inhibit := 0 })).defrost r).inhibit = 0 := by
      have hsettings := evaluateQueue_settings (s.setDefrost r { s.defrost r with inhibit := 0 }) r
      rw [State.defrost_setDefrost_self] at hsettings
      exact (congrArg Defrost.inhibit hsettings :)
    rw [if_pos h, if_pos h, hleft]
    rfl
  · have hzero : (s.defrost r).inhibit = 0 := by omega
    have hsame : s.setDefrost r { s.defrost r with inhibit := 0 } = s := by
      rw [← hzero]
      exact s.setDefrost_own r
    rw [if_neg h, if_neg h, hsame, hzero]
    rfl

end

/-! ### The obligation -/

/-- Settles O58: each request answered by its room's state, and each refusal by its argument. -/
theorem defrostRequestsFollowTheState : Obligations.DefrostRequestsFollowTheState := by
  refine ⟨fun tag r s hmode hattn => ⟨fun hready => ⟨?_, ?_, ?_, fun cause hcause => ?_⟩, fun hready seconds => ⟨fun h => ?_, ?_⟩⟩,
    fun tag room cause seconds s hmode => ⟨fun hready => ⟨fun hroom => ⟨?_, ?_, ?_⟩, fun h => ?_⟩, fun hready hroom => ?_⟩⟩
  · exact exec_run hready hmode rfl rfl rfl rfl (requestDefrost_eq s r)
  · exact exec_run hready hmode rfl rfl rfl rfl (withdrawDefrost_eq s r)
  · split
    · next hstate => exact exec_run hready hmode rfl rfl rfl rfl (defrostBegun_granted hattn hstate)
    · next hstate => exact exec_run hready hmode rfl rfl rfl rfl (defrostBegun_refused hstate)
  · split
    · next hstate =>
      rw [← Defrost.ended_eq, ← endHeating_eq cause hattn]
      exact exec_run hready hmode rfl rfl rfl rfl (heatingEnded_heating (cause?_place hcause) hstate)
    · next hstate => exact exec_run hready hmode rfl rfl rfl rfl (heatingEnded_refused (cause?_place hcause) hstate)
  · exact exec_run hready hmode rfl rfl rfl rfl (inhibitDefrost_lengthened h)
  · rintro rfl
    exact exec_run hready hmode rfl rfl rfl rfl (inhibitDefrost_ended s r)
  · exact exec_run hready hmode rfl rfl rfl rfl (onRoom_of_le hroom s _)
  · exact exec_run hready hmode rfl rfl rfl rfl (onRoom_of_le hroom s _)
  · exact exec_run hready hmode rfl rfl rfl rfl (onRoom_of_le hroom s _)
  · exact exec_run hready hmode rfl rfl rfl rfl (heatingEnded_badArgument s h)
  · exact exec_run hready hmode rfl rfl rfl rfl (onRoom_of_le hroom s _)

end Sys2Proof.Machine
end

section
/-! PROOFS. The exposure tick at the rooms: frost, its flags and its raises (R68 to R70, R75, R90). -/

namespace Sys2Proof.Machine

set_option Elab.async false

/-! ### Frost gained (R68) -/

theorem Door.frostWeight_eq (x : Door) (r : Fin 8) : x.frostWeight r
    = if x.enabled = true ∧ x.dockRoom = r then
        (if x.state = .working then x.workFrost else if x.state = .breach then x.breachFrost else 0)
      else 0 := by
  unfold Door.frostWeight
  cases x.state <;> rfl

theorem State.frostGain_congr {s t : State} (h : s.frame exposureFields t) {r : Fin 8} (hr : t.defrost r = s.defrost r) :
    t.frostGain r = s.frostGain r := by
  simp only [State.frostGain, hr, State.frame_door h (by decide)]

/-! ### One room's turn as one update -/

/-- A frost condition's raise at an exposure tick, where it falls due. -/
def frostRaise (now : Word32) (code : AlarmCode) (r : Fin 8) (index : Nat) (due : Bool) (t : AlarmTable) : AlarmTable × Bool :=
  if due = true then t.raise now false code (.room r) none (some (BitVec.ofNat 16 index)) else (t, true)

/-- A room's frost index after a tick (R68). -/
def State.frosted (s : State) (r : Fin 8) : Nat := min ((s.defrost r).frostIndex + s.frostGain r) 65535

/-- Whether the due flag and the forced mark fall due at a frost index (R69, R70). -/
def Defrost.fallsDue (x : Defrost) (index : Nat) : Bool := decide (x.threshold ≤ index) && !x.dueFlag

def Defrost.fallsForced (x : Defrost) (index : Nat) : Bool := decide (x.hardLimit ≤ index) && !x.forcedMark

/-- A defrost record with its index risen, and after each of the two tests, told whether the raise was entered (R69, R70, R90). -/
def Defrost.risen (x : Defrost) (index : Nat) : Defrost := { x with frostIndex := index }

def Defrost.dueTested (x : Defrost) (entered : Bool) : Defrost :=
  { x with dueFlag := x.dueFlag || x.fallsDue x.frostIndex, dueUnposted := x.dueUnposted || !entered }

def Defrost.forcedTested (x : Defrost) (entered : Bool) : Defrost :=
  { x with
    forcedMark := x.forcedMark || x.fallsForced x.frostIndex, forcedFlag := x.forcedFlag || x.fallsForced x.frostIndex
    forcedUnposted := x.forcedUnposted || !entered }

theorem testFrostDue_written (r : Fin 8) (s : State) {y : Defrost} (hcold : ¬ (y.state = .heating ∨ y.state = .drip))
    (a : AlarmTable) :
    let raised := frostRaise s.clock .frostDue r y.frostIndex (y.fallsDue y.frostIndex) a
    testFrostDue r ((s.setDefrost r y).setAlarms a) = (s.setDefrost r (y.dueTested raised.2)).setAlarms raised.1 := by
  intro raised
  have hdue : (y.threshold ≤ y.frostIndex ∧ y.dueFlag = false) ↔ y.fallsDue y.frostIndex = true := by
    simp [Defrost.fallsDue]
  rw [testFrostDue_eq]
  simp only [State.setAlarms_defrost, State.defrost_setDefrost_self, hcold, not_false_eq_true, true_and, hdue]
  cases h : y.fallsDue y.frostIndex
  · simp [raised, h, frostRaise, Defrost.dueTested]
  · simp [raised, h, frostRaise, Defrost.dueTested, State.setDefrost_setAlarms, detailNat]

theorem testForced_written (r : Fin 8) (s : State) {y : Defrost} (hcold : ¬ (y.state = .heating ∨ y.state = .drip))
    (a : AlarmTable) :
    let raised := frostRaise s.clock .defrostForced r y.frostIndex (y.fallsForced y.frostIndex) a
    testForced r ((s.setDefrost r y).setAlarms a) = (s.setDefrost r (y.forcedTested raised.2)).setAlarms raised.1 := by
  intro raised
  have hforced : (y.hardLimit ≤ y.frostIndex ∧ y.forcedMark = false) ↔ y.fallsForced y.frostIndex = true := by
    simp [Defrost.fallsForced]
  rw [testForced_eq]
  simp only [State.setAlarms_defrost, State.defrost_setDefrost_self, hcold, not_false_eq_true, true_and, hforced]
  cases h : y.fallsForced y.frostIndex
  · simp [raised, h, frostRaise, Defrost.forcedTested]
  · simp [raised, h, frostRaise, Defrost.forcedTested, State.setDefrost_setAlarms, detailNat]

theorem accumulateFrost_warm {r : Fin 8} {s : State} (h : (s.defrost r).state = .heating ∨ (s.defrost r).state = .drip) :
    accumulateFrost r s = s := if_pos ((DefrostState.coilWarm_eq_true _).mpr h)

/-- The table after FROST_DUE, and after DEFROST_FORCED, of a record whose index has risen. -/
def State.afterDue (s : State) (r : Fin 8) (x : Defrost) (index : Nat) : AlarmTable × Bool :=
  frostRaise s.clock .frostDue r index (x.fallsDue index) s.alarms

def State.afterForced (s : State) (r : Fin 8) (x : Defrost) (index : Nat) : AlarmTable × Bool :=
  frostRaise s.clock .defrostForced r index (x.fallsForced index) (s.afterDue r x index).1

/-- A defrost record after its room's turn. -/
def State.frostRecord (s : State) (r : Fin 8) (x : Defrost) (index : Nat) : Defrost :=
  ((x.risen index).dueTested (s.afterDue r x index).2).forcedTested (s.afterForced r x index).2

theorem State.frostRecord_eq (s : State) (r : Fin 8) (x : Defrost) (index : Nat) : s.frostRecord r x index
    = { x with
        frostIndex := index, dueFlag := x.dueFlag || x.fallsDue index, forcedMark := x.forcedMark || x.fallsForced index
        forcedFlag := x.forcedFlag || x.fallsForced index, dueUnposted := x.dueUnposted || !(s.afterDue r x index).2
        forcedUnposted := x.forcedUnposted || !(s.afterForced r x index).2 } := rfl

theorem tests_risen {r : Fin 8} {s : State} (hattn : s.attentionKept) {x : Defrost}
    (hcold : ¬ (x.state = .heating ∨ x.state = .drip)) (index : Nat) :
    testForced r (testFrostDue r (s.setDefrost r (x.risen index)))
      = (s.setDefrost r (s.frostRecord r x index)).setAlarms (s.afterForced r x index).1 := by
  have hown : s.setDefrost r (x.risen index) = (s.setDefrost r (x.risen index)).setAlarms s.alarms :=
    (State.setAlarms_own (s.setDefrost r (x.risen index)) hattn).symm
  have hcold' : ∀ entered, ¬ (((x.risen index).dueTested entered).state = .heating
      ∨ ((x.risen index).dueTested entered).state = .drip) := fun _ => hcold
  rw [hown, testFrostDue_written r s (y := x.risen index) hcold, testForced_written r s (hcold' _)]
  rfl

/-- One room's turn as one update, where the attention lines follow the table (R68 to R70, R90). -/
theorem accumulateFrost_cold {r : Fin 8} {s : State} (hattn : s.attentionKept)
    (hcold : ¬ ((s.defrost r).state = .heating ∨ (s.defrost r).state = .drip)) :
    accumulateFrost r s = (s.setDefrost r (s.frostRecord r (s.defrost r) (s.frosted r))).setAlarms
      (s.afterForced r (s.defrost r) (s.frosted r)).1 := by
  have hcoil : ¬ (s.defrost r).state.coilWarm = true := fun h => hcold ((DefrostState.coilWarm_eq_true _).mp h)
  rw [← tests_risen hattn hcold (s.frosted r)]
  exact if_neg hcoil

/-! ### The turn in a state whose attention lines are not known -/

theorem testFrostDue_drawn (r : Fin 8) (s : State) : (testFrostDue r s).drawn = testFrostDue r s.drawn := by
  rw [testFrostDue_eq, testFrostDue_eq]
  exact apply_ite State.drawn _ _ _

theorem testForced_drawn (r : Fin 8) (s : State) : (testForced r s).drawn = testForced r s.drawn := by
  rw [testForced_eq, testForced_eq]
  exact apply_ite State.drawn _ _ _

theorem accumulateFrost_drawn (r : Fin 8) (s : State) : (accumulateFrost r s).drawn = accumulateFrost r s.drawn := by
  by_cases h : (s.defrost r).state.coilWarm = true
  · exact (congrArg State.drawn (if_pos h)).trans (if_pos h).symm
  · exact (congrArg State.drawn (if_neg h)).trans
      (((testForced_drawn r _).trans (congrArg _ (testFrostDue_drawn r _))).trans (if_neg h).symm)

/-- A room's record and the table after its turn. -/
theorem accumulateFrost_own {r : Fin 8} {s : State}
    (hcold : ¬ ((s.defrost r).state = .heating ∨ (s.defrost r).state = .drip)) :
    (accumulateFrost r s).defrost r = s.frostRecord r (s.defrost r) (s.frosted r)
      ∧ (accumulateFrost r s).alarms = (s.afterForced r (s.defrost r) (s.frosted r)).1 := by
  have h := (accumulateFrost_drawn r s).trans (accumulateFrost_cold (s := s.drawn) rfl hcold)
  refine ⟨?_, congrArg State.alarms h⟩
  have hr := congrArg (fun u => State.defrost u r) h
  exact hr.trans (by rw [State.setAlarms_defrost, State.defrost_setDefrost_self]; rfl)

/-! ### What the rest of the tick leaves to a room's turn -/

section
variable {code : AlarmCode} {subject : Subject} (hfull : code ≠ .tableFull)
include hfull

theorem State.sparesPair_raised {s t : State} (hclock : t.clock = s.clock) {code' : AlarmCode} {subject' : Subject}
    (hpair : code' = code → subject' ≠ subject) (tag : Option Word32) (detail : Option Word16) :
    State.sparesPair code subject s (t.setAlarms (s.alarms.raise s.clock false code' subject' tag detail).1) :=
  ⟨hclock, fun h => AlarmTable.raise_zeroKept h _ _ _ _ _ _, AlarmTable.raise_spares _ _ hpair hfull (.inl rfl) _ _⟩

theorem accumulateFrost_sparesPair {i : Fin 8} (hsubject : Subject.room i ≠ subject) (s : State) :
    State.sparesPair code subject s (accumulateFrost i s) := by
  have hdue : ∀ s, State.sparesPair code subject s (testFrostDue i s) := fun s => by
    rw [testFrostDue_eq]
    split
    · exact State.sparesPair_raised hfull rfl (fun _ => hsubject) _ _
    · exact State.sparesPair_refl s
  have hforced : ∀ s, State.sparesPair code subject s (testForced i s) := fun s => by
    rw [testForced_eq]
    split
    · exact State.sparesPair_raised hfull rfl (fun _ => hsubject) _ _
    · exact State.sparesPair_refl s
  unfold accumulateFrost
  dsimp only
  split
  · exact State.sparesPair_refl s
  · exact State.sparesPair_trans (State.sparesPair_trans (State.sparesPair_setDefrost s i _) (hdue _)) (hforced _)

theorem evaluateQueue_sparesPair (hcode : AlarmCode.defrostGranted ≠ code) (s : State) :
    State.sparesPair code subject s (evaluateQueue s) :=
  evaluateQueue_induct (P := fun _ t => State.sparesPair code subject s t) (State.sparesPair_refl s)
    (fun r _ t h => State.sparesPair_trans h (State.sparesPair_setDefrost t r _))
    fun _ _ _ h _ => State.sparesPair_trans h (State.sparesPair_raised hfull rfl (fun heq => absurd heq hcode) _ _)

theorem chargePallet_sparesPair {q : Fin 256} (hsubject : Subject.pallet q ≠ subject) (s : State) :
    State.sparesPair code subject s (chargePallet q s) := by
  have hwarn : ∀ s, State.sparesPair code subject s (testWarning q s) := fun s => by
    unfold testWarning
    dsimp only
    split
    · exact State.sparesPair_trans (State.sparesPair_setPallet s q _)
        (State.sparesPair_raiseCondition hfull _ (fun _ => hsubject) _ _ fun s => State.sparesPair_setPallet s q _)
    · exact State.sparesPair_refl s
  have hexceed : ∀ s, State.sparesPair code subject s (testOverBudget q s) := fun s => by
    unfold testOverBudget
    dsimp only
    split
    · exact State.sparesPair_trans (State.sparesPair_setPallet s q _)
        (State.sparesPair_raiseCondition hfull _ (fun _ => hsubject) _ _ fun s => State.sparesPair_setPallet s q _)
    · exact State.sparesPair_refl s
  unfold chargePallet
  dsimp only
  split
  · exact State.sparesPair_trans (State.sparesPair_trans (State.sparesPair_setPallet s q _) (hwarn _)) (hexceed _)
  · exact State.sparesPair_refl s

end

/-- Between two states a room's settings stand, what its frost is made of, and the entries of its frost alarms. -/
structure State.BesideFrost (r : Fin 8) (s t : State) : Prop where
  frame : s.frame exposureFields t
  settings : (t.defrost r).settings = (s.defrost r).settings
  due : State.sparesPair .frostDue (.room r) s t
  forced : State.sparesPair .defrostForced (.room r) s t

theorem State.BesideFrost.refl (r : Fin 8) (s : State) : s.BesideFrost r s :=
  ⟨rfl, rfl, State.sparesPair_refl s, State.sparesPair_refl s⟩

theorem State.BesideFrost.trans {r : Fin 8} {s t u : State} (h : s.BesideFrost r t) (k : t.BesideFrost r u) : s.BesideFrost r u :=
  ⟨State.frame_trans h.frame k.frame, k.settings.trans h.settings, State.sparesPair_trans h.due k.due,
    State.sparesPair_trans h.forced k.forced⟩

/-- The same, with the whole record: what comes before a room's turn leaves. -/
def State.besideFrostRecord (r : Fin 8) (s t : State) : Prop := s.BesideFrost r t ∧ t.defrost r = s.defrost r

theorem State.besideFrostRecord_refl (r : Fin 8) (s : State) : s.besideFrostRecord r s := ⟨.refl r s, rfl⟩

theorem State.besideFrostRecord_trans {r : Fin 8} {s t u : State} (h : s.besideFrostRecord r t) (k : t.besideFrostRecord r u) :
    s.besideFrostRecord r u := ⟨h.1.trans k.1, k.2.trans h.2⟩

theorem room_ne_room {r i : Fin 8} (h : i ≠ r) : Subject.room i ≠ Subject.room r := fun heq => h (Subject.room.inj heq)

theorem testFrostDue_defrost_ne {r i : Fin 8} (h : i ≠ r) (s : State) : (testFrostDue i s).defrost r = s.defrost r := by
  rw [testFrostDue_eq]
  split
  · exact s.defrost_setDefrost_ne _ (Ne.symm h)
  · rfl

theorem testForced_defrost_ne {r i : Fin 8} (h : i ≠ r) (s : State) : (testForced i s).defrost r = s.defrost r := by
  rw [testForced_eq]
  split
  · exact s.defrost_setDefrost_ne _ (Ne.symm h)
  · rfl

theorem accumulateFrost_defrost_ne {r i : Fin 8} (h : i ≠ r) (s : State) : (accumulateFrost i s).defrost r = s.defrost r := by
  unfold accumulateFrost
  dsimp only
  split
  · rfl
  · rw [testForced_defrost_ne h, testFrostDue_defrost_ne h, State.defrost_setDefrost_ne _ _ (Ne.symm h)]

theorem accumulateFrost_besideFrost {r i : Fin 8} (h : i ≠ r) (s : State) : s.besideFrostRecord r (accumulateFrost i s) :=
  ⟨⟨State.frame_mono (accumulateFrost_frame i s) (by decide), by rw [accumulateFrost_defrost_ne h],
    accumulateFrost_sparesPair (by decide) (room_ne_room h) s, accumulateFrost_sparesPair (by decide) (room_ne_room h) s⟩,
    accumulateFrost_defrost_ne h s⟩

theorem evaluateQueue_besideFrost (r : Fin 8) (s : State) : s.BesideFrost r (evaluateQueue s) :=
  ⟨State.frame_mono (evaluateQueue_frame s) (by decide), evaluateQueue_settings s r,
    evaluateQueue_sparesPair (by decide) (by decide) s, evaluateQueue_sparesPair (by decide) (by decide) s⟩

theorem chargePallets_besideFrost (r : Fin 8) (s : State) : s.besideFrostRecord r (chargePallets s) := by
  have hframe := chargePallets_frame s
  have hdefrost := State.frame_defrost hframe (by decide) r
  have hspares : ∀ {code : AlarmCode}, code ≠ .tableFull → State.sparesPair code (.room r) s (chargePallets s) := fun hfull =>
    forEach_rel _ State.sparesPair_refl State.sparesPair_trans
      (fun q s => chargePallet_sparesPair hfull (room_ne_pallet r q).symm s) s
  exact ⟨⟨State.frame_mono hframe (by decide), by rw [hdefrost], hspares (by decide), hspares (by decide)⟩, hdefrost⟩

/-- An exposure tick, with the Defrost Unit first or last (R75). -/
def afterExposureTick (first : Bool) (s : State) : State :=
  if first = true then chargePallets (accumulateAll s) else accumulateAll (chargePallets s)

theorem accumulateAll_turn (r : Fin 8) (s : State) :
    ∃ s1, s.besideFrostRecord r s1 ∧ (accumulateFrost r s1).BesideFrost r (accumulateAll s) := by
  obtain ⟨s1, hbefore, hafter⟩ := forEach_at r (State.besideFrostRecord r) (State.besideFrostRecord_refl r)
    State.besideFrostRecord_trans (fun _ s hi => accumulateFrost_besideFrost hi s) s
  exact ⟨s1, hbefore, hafter.1.trans (evaluateQueue_besideFrost r _)⟩

/-- An exposure tick is one turn of a room, with the rest of the tick before and after it. -/
theorem afterExposureTick_turn (first : Bool) (r : Fin 8) (s : State) :
    ∃ s1, s.besideFrostRecord r s1 ∧ (accumulateFrost r s1).BesideFrost r (afterExposureTick first s) := by
  unfold afterExposureTick
  split
  case isTrue =>
    obtain ⟨s1, hbefore, hafter⟩ := accumulateAll_turn r s
    exact ⟨s1, hbefore, hafter.trans (chargePallets_besideFrost r _).1⟩
  case isFalse =>
    obtain ⟨s1, hbefore, hafter⟩ := accumulateAll_turn r (chargePallets s)
    exact ⟨s1, State.besideFrostRecord_trans (chargePallets_besideFrost r s) hbefore, hafter⟩

/-! ### The outcome of a frost alarm (R69, R70, R90) -/

/-- What O33 says of one alarm of a room: `new` tells that its raise fell due, `unposted` and `still` are its unposted mark before
and after. -/
def frostOutcome (s t : State) (r : Fin 8) (index : Nat) (new unposted still : Bool) (code : AlarmCode) : Prop :=
  (new = false → still = unposted)
    ∧ (new = true → s.tableKept →
      (still = unposted → unposted = false → ∃ (i : Fin 48) (e : AlarmEntry), t.alarms.entries[i] = some e
        ∧ e.code = code ∧ e.subject = .room r ∧ e.detail = some (BitVec.ofNat 16 index)
        ∧ e.lastRaised = s.clock ∧ e.condition = .active)
      ∧ (still ≠ unposted → unposted = false ∧ still = true
        ∧ (∀ i : Fin 48, i ≠ 0 → t.alarms.entries[i].isSome = true)
        ∧ ∀ (i : Fin 48) (e : AlarmEntry), t.alarms.entries[i] = some e → e.code = code → e.subject ≠ .room r))

/-- The outcome of a raise made in a table with entry 0 for TABLE_FULL alone, whose pair is spared afterwards. -/
theorem frostOutcome_of_raise {s t : State} {r : Fin 8} {index : Nat} {code : AlarmCode} {due unposted : Bool} {a : AlarmTable}
    (hcond : code.isNotice = false) (hfull : code ≠ .tableFull) (hzero : s.tableKept → a.zeroKept)
    (hspares : AlarmTable.spares 1 code (.room r) (frostRaise s.clock code r index due a).1 t.alarms) :
    frostOutcome s t r index due unposted (unposted || !(frostRaise s.clock code r index due a).2) code := by
  cases due with
  | false => exact ⟨fun _ => by simp [frostRaise], nofun⟩
  | true =>
    refine ⟨nofun, fun _ hkept => ?_⟩
    cases hentered : (frostRaise s.clock code r index true a).2 with
    | true =>
      refine ⟨fun _ _ => ?_, fun hne => absurd (by simp) hne⟩
      obtain ⟨i, e, -, he, hcode, hsubject, -, hrest⟩ :=
        AlarmTable.spares_shows hspares (AlarmTable.raise_shows hcond (.inr ⟨rfl, hzero hkept, hfull⟩) hentered)
      exact ⟨i, e, he, hcode, hsubject, hrest⟩
    | false =>
      refine ⟨fun hsame hclear => absurd hsame (by simp [hclear]), fun hne => ?_⟩
      have hclear : unposted = false := by
        cases unposted with
        | false => rfl
        | true => exact absurd rfl hne
      subst hclear
      exact ⟨rfl, rfl, hspares.2 (AlarmTable.raise_refuses hfull hentered)⟩

theorem frostRaise_spares {code code' : AlarmCode} (hne : code' ≠ code) (hfull : code ≠ .tableFull) (now : Word32) (r : Fin 8)
    (index : Nat) (due : Bool) (a : AlarmTable) :
    AlarmTable.spares 1 code (.room r) a (frostRaise now code' r index due a).1 := by
  cases due
  · exact AlarmTable.spares_refl _ _ _ a
  · exact AlarmTable.raise_spares a now (fun h => absurd h hne) hfull (.inl rfl) _ _

theorem frostRaise_zeroKept {a : AlarmTable} (h : a.zeroKept) (now : Word32) (code : AlarmCode) (r : Fin 8) (index : Nat)
    (due : Bool) : (frostRaise now code r index due a).1.zeroKept := by
  cases due
  · exact h
  · exact AlarmTable.raise_zeroKept h _ _ _ _ _ _

/-! ### The whole tick -/

/-- The fields of a defrost record that O33 speaks of. -/
structure Defrost.SameFrost (x y : Defrost) : Prop where
  frostIndex : y.frostIndex = x.frostIndex
  dueFlag : y.dueFlag = x.dueFlag
  forcedMark : y.forcedMark = x.forcedMark
  forcedFlag : y.forcedFlag = x.forcedFlag
  dueUnposted : y.dueUnposted = x.dueUnposted
  forcedUnposted : y.forcedUnposted = x.forcedUnposted

theorem Defrost.sameFrost_of_settings {x y : Defrost} (h : y.settings = x.settings) : x.SameFrost y :=
  ⟨(congrArg Defrost.frostIndex h :), (congrArg Defrost.dueFlag h :), (congrArg Defrost.forcedMark h :),
    (congrArg Defrost.forcedFlag h :), (congrArg Defrost.dueUnposted h :), (congrArg Defrost.forcedUnposted h :)⟩

/-- A room's turn made in a state that has its record, its doors and its clock, is that of the state. -/
theorem State.frost_congr {r : Fin 8} {s s1 : State} (h : s.besideFrostRecord r s1) :
    s1.defrost r = s.defrost r ∧ s1.frosted r = s.frosted r ∧ s1.clock = s.clock := by
  obtain ⟨hbeside, hdefrost⟩ := h
  refine ⟨hdefrost, ?_, State.frame_clock hbeside.frame (by decide)⟩
  rw [State.frosted, State.frosted, hdefrost, State.frostGain_congr hbeside.frame hdefrost]

section
variable {r : Fin 8} {s s1 t : State} (hbefore : s.besideFrostRecord r s1) (hafter : (accumulateFrost r s1).BesideFrost r t)
include hbefore hafter

/-- A room in HEATING or DRIP after the tick. -/
theorem frost_of_warm (hwarm : (s.defrost r).state = .heating ∨ (s.defrost r).state = .drip) :
    (s.defrost r).SameFrost (t.defrost r) := by
  obtain ⟨hdefrost, -, -⟩ := State.frost_congr hbefore
  have hsettings := hafter.settings
  rw [accumulateFrost_warm (by rwa [hdefrost]), hdefrost] at hsettings
  exact Defrost.sameFrost_of_settings hsettings

/-- Any other room after the tick. -/
theorem frost_of_cold (hcold : ¬ ((s.defrost r).state = .heating ∨ (s.defrost r).state = .drip)) :
    ((t.defrost r).frostIndex = s.frosted r
        ∧ (t.defrost r).dueFlag = ((s.defrost r).dueFlag || (s.defrost r).fallsDue (s.frosted r))
        ∧ (t.defrost r).forcedMark = ((s.defrost r).forcedMark || (s.defrost r).fallsForced (s.frosted r))
        ∧ (t.defrost r).forcedFlag = ((s.defrost r).forcedFlag || (s.defrost r).fallsForced (s.frosted r)))
      ∧ frostOutcome s t r (s.frosted r) ((s.defrost r).fallsDue (s.frosted r)) (s.defrost r).dueUnposted
        (t.defrost r).dueUnposted .frostDue
      ∧ frostOutcome s t r (s.frosted r) ((s.defrost r).fallsForced (s.frosted r)) (s.defrost r).forcedUnposted
        (t.defrost r).forcedUnposted .defrostForced := by
  obtain ⟨hdefrost, hfrosted, hclock⟩ := State.frost_congr hbefore
  obtain ⟨hrecord, halarms⟩ := accumulateFrost_own (s := s1) (r := r) (by rwa [hdefrost])
  rw [hdefrost, hfrosted] at hrecord halarms
  generalize s.frosted r = index at *
  generalize s.defrost r = x at *
  have hsettings := hafter.settings
  rw [hrecord] at hsettings
  have hsame := Defrost.sameFrost_of_settings hsettings
  obtain ⟨-, hzero, -⟩ := hbefore.1.due
  have hzero : s.tableKept → s1.alarms.zeroKept := fun hkept => hzero (AlarmTable.zeroKept_of_kept hkept)
  obtain ⟨-, -, hdue⟩ := hafter.due
  obtain ⟨-, -, hforced⟩ := hafter.forced
  rw [halarms] at hdue hforced
  have hfirst : s1.afterDue r x index = frostRaise s.clock .frostDue r index (x.fallsDue index) s1.alarms := by
    rw [State.afterDue, hclock]
  have hsecond : s1.afterForced r x index
      = frostRaise s.clock .defrostForced r index (x.fallsForced index) (s1.afterDue r x index).1 := by
    rw [State.afterForced, hclock]
  refine ⟨⟨hsame.frostIndex, hsame.dueFlag, hsame.forcedMark, hsame.forcedFlag⟩, ?_, ?_⟩
  · rw [hsame.dueUnposted, State.frostRecord_eq, hfirst]
    refine frostOutcome_of_raise rfl (by decide) hzero ?_
    rw [← hfirst]
    rw [State.afterForced] at hdue
    exact AlarmTable.spares_trans (frostRaise_spares (by decide) (by decide) _ _ _ _ _) hdue
  · rw [hsame.forcedUnposted, State.frostRecord_eq, hsecond]
    refine frostOutcome_of_raise rfl (by decide) (fun hkept => ?_) (hsecond ▸ hforced)
    rw [hfirst]
    exact frostRaise_zeroKept (hzero hkept) _ _ _ _ _

end

/-- A flag after a turn that sets it where a level is reached, and whether the turn has set it. -/
theorem flag_after {flag after : Bool} {reached : Prop} [Decidable reached] (h : after = (flag || (decide reached && !flag))) :
    (after = true ↔ flag = true ∨ reached) ∧ (after && !flag) = (decide reached && !flag) := by
  subst h
  cases flag <;> simp

theorem State.frosted_eq (s : State) (r : Fin 8) : s.frosted r
    = min ((s.defrost r).frostIndex + ((s.defrost r).baseRate + ((List.finRange 24).map fun d =>
        if (s.door d).enabled = true ∧ (s.door d).dockRoom = r then
          (if (s.door d).state = .working then (s.door d).workFrost
            else if (s.door d).state = .breach then (s.door d).breachFrost else 0)
        else 0).sum)) 65535 := by
  simp only [State.frosted, State.frostGain, Door.frostWeight_eq]

/-- Settles O33: each room's turn with the rest of the tick beside it, and one room's turn as one update. -/
theorem exposureTickAddsFrost : Obligations.ExposureTickAddsFrost := by
  refine ⟨fun first s hmode hdue => ?_, fun s => rfl, fun r s hattn => ?_⟩
  · have hexec : exec (.exposureTick first) s = .next (afterExposureTick first { s with exposureDue := false }) := by
      simp only [exec, execExposureTick, tickExposure, hmode, hdue, and_self, if_true]
      rfl
    refine ⟨_, hexec, fun r => ?_⟩
    have hstart : s.besideFrostRecord r { s with exposureDue := false } :=
      ⟨⟨rfl, rfl, State.sparesPair_of_eq rfl rfl, State.sparesPair_of_eq rfl rfl⟩, rfl⟩
    obtain ⟨s1, hbefore, hafter⟩ := afterExposureTick_turn first r { s with exposureDue := false }
    have hbefore := State.besideFrostRecord_trans hstart hbefore
    generalize afterExposureTick first { s with exposureDue := false } = t at hafter ⊢
    refine ⟨fun hwarm => ?_, fun hheating hdrip => ?_⟩
    · obtain ⟨hindex, hdueFlag, hmark, hflag, hdueUnposted, hforcedUnposted⟩ := frost_of_warm hbefore hafter hwarm
      exact ⟨hindex, hdueFlag, hmark, hflag, hdueUnposted, hforcedUnposted⟩
    · obtain ⟨⟨hindex, hdueFlag, hmark, hflag⟩, houtcomeDue, houtcomeForced⟩ :=
        frost_of_cold hbefore hafter (not_or.mpr ⟨hheating, hdrip⟩)
      obtain ⟨hdueIff, hdueNew⟩ := flag_after hdueFlag
      obtain ⟨hmarkIff, hmarkNew⟩ := flag_after hmark
      dsimp only
      rw [← s.frosted_eq r, hdueNew, hmarkNew, hindex]
      exact ⟨rfl, hdueIff, hmarkIff, hflag, houtcomeDue, houtcomeForced⟩
  · intro x index
    have hindex : s.frosted r = index := rfl
    clear_value index
    intro due forced first second
    split
    · next hwarm => exact accumulateFrost_warm hwarm
    · next hcold =>
      rw [accumulateFrost_cold hattn hcold, hindex]
      rfl

end Sys2Proof.Machine
end

section
/-! PROOFS. O60: the move requests in RUN, by the handle and the pallet (R88, R113, R116, R117, R120, R122, R123, R125, R126). -/

namespace Sys2Proof.Machine

set_option Elab.async false

/-! ### Handles and places as one byte (R113, R166) -/

theorem Handle.byte_toNat (h : Handle) : h.byte.toNat = 32 * h.generation.toNat + h.slot.val := by
  have hslot : (BitVec.ofNat 5 h.slot.val).toNat = h.slot.val := Nat.mod_eq_of_lt h.slot.isLt
  rw [Handle.byte, BitVec.toNat_append, hslot, ← Nat.shiftLeft_add_eq_or_of_lt h.slot.isLt, Nat.shiftLeft_eq]
  omega

theorem handleOf_byte (h : Handle) : handleOf h.byte = h := by
  have hbyte := h.byte_toNat
  have hslot := h.slot.isLt
  have hgeneration := h.generation.isLt
  have hlow : (h.byte.extractLsb' 0 5).toFin = h.slot := Fin.ext (by
    rw [BitVec.val_toFin, BitVec.extractLsb'_toNat, hbyte, Nat.shiftRight_zero]
    omega)
  have hhigh : h.byte.extractLsb' 5 3 = h.generation := BitVec.eq_of_toNat_eq (by
    rw [BitVec.extractLsb'_toNat, hbyte, Nat.shiftRight_eq_div_pow]
    omega)
  rw [handleOf, hlow, hhigh]

/-- The two fields of a place byte. -/
theorem place_fields (b : Byte) : (b.extractLsb' 6 2).toNat = b.toNat / 64 ∧ (b.extractLsb' 0 6).toNat = b.toNat % 64 := by
  have := b.isLt
  rw [BitVec.extractLsb'_toNat, BitVec.extractLsb'_toNat, Nat.shiftRight_eq_div_pow, Nat.shiftRight_zero]
  omega

theorem place?_byte (p : Place) : place? p.byte = some p := by
  obtain ⟨hkind, hindex⟩ := place_fields p.byte
  rw [place?, hkind, hindex]
  cases p with
  | room r =>
    have hbyte : (Place.room r).byte.toNat = r.val := Nat.mod_eq_of_lt (by omega)
    rw [hbyte, show r.val / 64 = 0 by omega, show r.val % 64 = r.val by omega]
    exact dif_pos r.isLt
  | lane d =>
    have hbyte : (Place.lane d).byte.toNat = 64 + d.val := Nat.mod_eq_of_lt (by omega)
    rw [hbyte, show (64 + d.val) / 64 = 1 by omega, show (64 + d.val) % 64 = d.val by omega]
    exact dif_pos d.isLt
  | trailer d =>
    have hbyte : (Place.trailer d).byte.toNat = 128 + d.val := Nat.mod_eq_of_lt (by omega)
    rw [hbyte, show (128 + d.val) / 64 = 2 by omega, show (128 + d.val) % 64 = d.val by omega]
    exact dif_pos d.isLt

theorem place?_eq_some {b : Byte} {p : Place} (h : place? b = some p) : b = p.byte := by
  obtain ⟨hkind, hindex⟩ := place_fields b
  rw [place?, hkind, hindex] at h
  split at h
  case h_4 => cases h
  all_goals
    next hkind =>
      obtain ⟨hlt, heq⟩ := Option.dite_none_right_eq_some.mp h
      cases heq
      exact BitVec.eq_of_toNat_eq (by rw [Place.byte, BitVec.toNat_ofNat]; dsimp only; omega)

section
variable {s : State}

/-! ### Handles resolved (R113) -/

theorem State.resolve_handleAt {m : Fin 32} (hlive : (s.move m).live = true) : s.resolve (s.handleAt m).byte = some m := by
  rw [State.resolve, handleOf_byte]
  exact if_pos ⟨hlive, rfl⟩

theorem State.resolve_none {b : Byte} (h : (s.move (handleOf b).slot).live = false
    ∨ (s.move (handleOf b).slot).generation ≠ (handleOf b).generation) : s.resolve b = none := by
  refine if_neg fun ⟨hlive, hgeneration⟩ => ?_
  obtain hfree | hother := h
  · rw [hfree] at hlive
    cases hlive
  · exact hother hgeneration

/-! ### Places that set a pallet down (R123, R126) -/

theorem State.setDownPlace_byte {p : Place} (hsite : s.onSite p = true) (htrailer : p.isTrailer = false) :
    s.setDownPlace p.byte = some p := by
  rw [State.setDownPlace, place?_byte]
  exact if_pos ⟨hsite, by rw [htrailer]; rfl⟩

theorem State.setDownPlace_none {b : Byte} (h : ∀ p : Place, b = p.byte → s.onSite p = false ∨ p.isTrailer = true) :
    s.setDownPlace b = none := by
  rw [State.setDownPlace]
  cases hplace : place? b with
  | none => rfl
  | some p =>
    refine if_neg fun ⟨hsite, hdown⟩ => ?_
    obtain hoff | htrailer := h p (place?_eq_some hplace)
    · rw [hoff] at hsite
      cases hsite
    · rw [htrailer] at hdown
      cases hdown

/-! ### REQUEST MOVE (R116, R117) -/

theorem DefrostState.refusesMoves_eq (x : DefrostState) :
    (!x.refusesMoves) = decide (x ≠ .draining ∧ x ≠ .granted ∧ x ≠ .heating ∧ x ≠ .drip) := by
  cases x <;> rfl

theorem requestMove_zero (b : Byte) : requestMove 0 b s = ⟨s, .badArgument, []⟩ := if_pos rfl

theorem requestMove_unknown {tag : Word32} {b : Byte} (htag : tag ≠ 0)
    (h : ∀ q : Fin 256, (s.pallet q).live = true → (s.pallet q).tag ≠ tag) : requestMove tag b s = ⟨s, .notFound, []⟩ := by
  rw [requestMove, if_neg htag, State.findPallet_eq_none h]
  rfl

section
variable (hkept : s.recordsKept) {q : Fin 256} (hlive : (s.pallet q).live = true)
include hkept hlive

/-- REQUEST MOVE for a live pallet, from its fourth check on. -/
theorem requestMove_live (b : Byte) : requestMove (s.pallet q).tag b s
    = if (s.pallet q).state = .inTransit ∨ (s.pallet q).handle.isSome = true then ⟨s, .busy, []⟩
      else match (s.pallet q).location, place? b with
        | .at origin, some dest =>
          if (!s.onSite dest) = true ∨ dest = origin then ⟨s, .badArgument, []⟩ else requestMoveTo q origin dest s
        | .at _, none => ⟨s, .badArgument, []⟩
        | .inTransit, _ => ⟨s, .busy, []⟩
        | .nowhere, _ => ⟨s, .busy, []⟩ := by
  obtain ⟨hzero, -⟩ := hkept.tags
  rw [requestMove, if_neg (hzero q hlive), State.findPallet_of_live hkept.tags hlive]
  rfl

theorem requestMove_busy (hhandle : (s.pallet q).handle.isSome = true) (b : Byte) :
    requestMove (s.pallet q).tag b s = ⟨s, .busy, []⟩ :=
  (requestMove_live hkept hlive b).trans (if_pos (.inr hhandle))

section
variable (hhandle : (s.pallet q).handle = none)
include hhandle

/-- A live pallet without a move stands at a place (R96). -/
theorem State.recordsKept.stands : (s.pallet q).state ≠ .inTransit ∧ ∃ p, (s.pallet q).location = .at p := by
  have hagrees := hkept.agrees q
  unfold Pallet.agrees at hagrees
  cases hstate : (s.pallet q).state with
  | free => rw [Pallet.live, hstate] at hlive; cases hlive
  | inTransit =>
    rw [hstate] at hagrees
    obtain ⟨-, hsome, -⟩ := hagrees
    rw [hhandle] at hsome
    cases hsome
  | inbound | aboard =>
    rw [hstate] at hagrees
    obtain ⟨⟨d, hlocation⟩, -⟩ := hagrees
    exact ⟨nofun, _, hlocation⟩
  | placed =>
    rw [hstate] at hagrees
    obtain ⟨⟨p, hlocation, -⟩, -⟩ := hagrees
    exact ⟨nofun, _, hlocation⟩

theorem requestMove_standing {origin : Place} (hlocation : (s.pallet q).location = .at origin) (b : Byte) :
    requestMove (s.pallet q).tag b s = match place? b with
      | some dest => if (!s.onSite dest) = true ∨ dest = origin then ⟨s, .badArgument, []⟩ else requestMoveTo q origin dest s
      | none => ⟨s, .badArgument, []⟩ := by
  obtain ⟨hstate, -⟩ := hkept.stands hlive hhandle
  have hfree : ¬ ((s.pallet q).state = .inTransit ∨ (s.pallet q).handle.isSome = true) := by simp [hstate, hhandle]
  rw [requestMove_live hkept hlive, if_neg hfree, hlocation]
  cases place? b <;> rfl

theorem requestMove_badPlace {b : Byte} (h : ∀ p : Place, b = p.byte → s.onSite p = false ∨ (s.pallet q).location = .at p) :
    requestMove (s.pallet q).tag b s = ⟨s, .badArgument, []⟩ := by
  obtain ⟨-, origin, hlocation⟩ := hkept.stands hlive hhandle
  rw [requestMove_standing hkept hlive hhandle hlocation]
  cases hplace : place? b with
  | none => rfl
  | some dest =>
    refine if_pos ?_
    obtain hoff | hsame := h dest (place?_eq_some hplace)
    · exact .inl (by rw [hoff]; rfl)
    · rw [hlocation] at hsame
      cases hsame
      exact .inr rfl

theorem requestMove_to {origin dest : Place} (hlocation : (s.pallet q).location = .at origin) (hsite : s.onSite dest = true)
    (hne : dest ≠ origin) : requestMove (s.pallet q).tag dest.byte s = requestMoveTo q origin dest s := by
  rw [requestMove_standing hkept hlive hhandle hlocation, place?_byte]
  exact if_neg (by simp [hsite, hne])

end

end

/-- Whether a pallet over budget is asked for a trailer, and one with too little budget left (R116, checks 7 and 8). -/
def State.quarantines (s : State) (q : Fin 256) (dest : Place) : Prop := dest.isTrailer = true ∧ (s.pallet q).overBudget = true

def State.runsLow (s : State) (q : Fin 256) (dest : Place) : Prop :=
  dest.isTrailer = true ∧ (s.classOf (s.pallet q)).budget * 960 - (s.pallet q).exposure
    < (s.classOf (s.pallet q)).transitReserve * 960

section
variable {q : Fin 256} {origin dest : Place}

theorem requestMoveTo_doorState (h : ¬ (s.endWorking origin = true ∧ s.endWorking dest = true)) :
    requestMoveTo q origin dest s = ⟨s, .doorState, []⟩ :=
  if_pos (by simpa only [Bool.not_eq_true', ← Bool.not_eq_true, ← not_and_or] using h)

section
variable (hworking : s.endWorking origin = true ∧ s.endWorking dest = true)
include hworking

theorem requestMoveTo_working : requestMoveTo q origin dest s
    = if (!s.endOpen dest) = true then ⟨s, .defrost, []⟩
      else if dest.isTrailer = true ∧ (s.pallet q).overBudget = true then ⟨s, .quarantined, []⟩
      else if dest.isTrailer = true ∧ (s.classOf (s.pallet q)).budget * 960 - (s.pallet q).exposure
        < (s.classOf (s.pallet q)).transitReserve * 960 then ⟨s, .lowBudget, []⟩
      else match lowest 32 fun m => !(s.move m).live with
        | none => ⟨s, .full, []⟩
        | some m =>
          if s.admits = true then ⟨permitMove q m origin dest s, .ok, [(s.handleAt m).byte]⟩ else ⟨s, .journalFull, []⟩ := by
  refine if_neg ?_
  obtain ⟨horigin, hdest⟩ := hworking
  simp [horigin, hdest]

theorem requestMoveTo_defrost (hshut : s.endOpen dest = false) : requestMoveTo q origin dest s = ⟨s, .defrost, []⟩ := by
  rw [requestMoveTo_working hworking, hshut]
  rfl

section
variable (hopen : s.endOpen dest = true)
include hopen

theorem requestMoveTo_open : requestMoveTo q origin dest s
    = if dest.isTrailer = true ∧ (s.pallet q).overBudget = true then ⟨s, .quarantined, []⟩
      else if dest.isTrailer = true ∧ (s.classOf (s.pallet q)).budget * 960 - (s.pallet q).exposure
        < (s.classOf (s.pallet q)).transitReserve * 960 then ⟨s, .lowBudget, []⟩
      else match lowest 32 fun m => !(s.move m).live with
        | none => ⟨s, .full, []⟩
        | some m =>
          if s.admits = true then ⟨permitMove q m origin dest s, .ok, [(s.handleAt m).byte]⟩ else ⟨s, .journalFull, []⟩ := by
  rw [requestMoveTo_working hworking, hopen]
  exact if_neg Bool.false_ne_true

theorem requestMoveTo_quarantined (h : s.quarantines q dest) : requestMoveTo q origin dest s = ⟨s, .quarantined, []⟩ :=
  (requestMoveTo_open hworking hopen).trans (if_pos h)

section
variable (hsound : ¬ s.quarantines q dest)
include hsound

theorem requestMoveTo_lowBudget (h : s.runsLow q dest) : requestMoveTo q origin dest s = ⟨s, .lowBudget, []⟩ :=
  (requestMoveTo_open hworking hopen).trans ((if_neg hsound).trans (if_pos h))

variable (hbudget : ¬ s.runsLow q dest)
include hbudget

theorem requestMoveTo_passed : requestMoveTo q origin dest s
    = match lowest 32 fun m => !(s.move m).live with
      | none => ⟨s, .full, []⟩
      | some m =>
        if s.admits = true then ⟨permitMove q m origin dest s, .ok, [(s.handleAt m).byte]⟩ else ⟨s, .journalFull, []⟩ :=
  (requestMoveTo_open hworking hopen).trans ((if_neg hsound).trans (if_neg hbudget))

theorem requestMoveTo_full (h : ∀ m : Fin 32, (s.move m).live = true) : requestMoveTo q origin dest s = ⟨s, .full, []⟩ := by
  rw [requestMoveTo_passed hworking hopen hsound hbudget, lowest_eq_none.mpr fun m => by rw [h m]; rfl]

section
variable {m : Fin 32} (hfree : (s.move m).live = false) (hlower : ∀ i : Fin 32, i < m → (s.move i).live = true)
include hfree hlower

theorem requestMoveTo_slot : requestMoveTo q origin dest s
    = if s.admits = true then ⟨permitMove q m origin dest s, .ok, [(s.handleAt m).byte]⟩ else ⟨s, .journalFull, []⟩ := by
  have hlowest : (lowest 32 fun m => !(s.move m).live) = some m :=
    lowest_eq_some.mpr ⟨by rw [hfree]; rfl, fun i hi => by rw [hlower i hi]; rfl⟩
  rw [requestMoveTo_passed hworking hopen hsound hbudget, hlowest]

theorem requestMoveTo_journalFull (h : 512 ≤ s.accounting) : requestMoveTo q origin dest s = ⟨s, .journalFull, []⟩ := by
  rw [requestMoveTo_slot hworking hopen hsound hbudget hfree hlower]
  exact if_neg (by rw [State.admits, decide_eq_true_eq, Config.journalCapacity]; omega)

theorem requestMoveTo_permitted (h : s.accounting < 512) : requestMoveTo q origin dest s
    = ⟨(s.setMove m ⟨.permitted, (s.move m).generation, (s.pallet q).tag, some origin, some dest, s.clock, none,
        .start s.permitLimit, .stopped, false, false⟩).setPallet q
        { s.pallet q with handle := some ⟨m, (s.move m).generation⟩ }, .ok,
        [(s.move m).generation ++ BitVec.ofNat 5 m.val]⟩ := by
  rw [requestMoveTo_slot hworking hopen hsound hbudget hfree hlower]
  exact if_pos (by rw [State.admits, decide_eq_true_eq, Config.journalCapacity]; omega)

end

end

end

end

end

/-! ### PICK, PUT and CANCEL MOVE (R120, R122, R123, R125, R126) -/

theorem pick_unknown {b : Byte} (h : s.resolve b = none) : pick b s = ⟨s, .notFound, []⟩ := by
  rw [pick, h]
  rfl

theorem put_unknown {b : Byte} (h : s.resolve b = none) (actual : Option Byte) : put b actual s = ⟨s, .notFound, []⟩ := by
  rw [put, h]
  rfl

theorem cancelMove_unknown {b : Byte} (h : s.resolve b = none) (location : Option Byte) :
    cancelMove b location s = ⟨s, .notFound, []⟩ := by
  rw [cancelMove, h]
  rfl

section
variable {m : Fin 32}

section
variable (hstate : (s.move m).state = .permitted)
include hstate

theorem State.resolve_permitted : s.resolve (s.handleAt m).byte = some m :=
  State.resolve_handleAt (by rw [Move.live, hstate]; rfl)

theorem pick_permitted {q : Fin 256} (hfound : s.findPallet (s.move m).tag = some q) : pick (s.handleAt m).byte s
    = ⟨(s.setPallet q (s.pallet q).picked).setMove m
        { s.move m with
          state := .inTransit, lapseTimer := .stopped, pickTime := some s.clock, transitTimer := .start s.transitLimit }, .ok,
        bytes32 (s.move m).tag ++ bytes32 s.clock⟩ := by
  rw [pick, State.resolve_permitted hstate]
  refine (if_pos hstate).trans ?_
  rw [hfound]
  rfl

theorem put_permitted (actual : Option Byte) : put (s.handleAt m).byte actual s = ⟨s, .busy, []⟩ := by
  rw [put, State.resolve_permitted hstate]
  exact if_neg (by rw [hstate]; nofun)

theorem cancelMove_permitted (location : Option Byte) : cancelMove (s.handleAt m).byte location s
    = ⟨endMove .moveCancelled ⟨false, false, false⟩ none m s, .ok, bytes32 s.journal.next⟩ := by
  rw [cancelMove, State.resolve_permitted hstate]
  exact if_pos hstate

end

section
variable (hstate : (s.move m).state = .inTransit)
include hstate

theorem State.resolve_inTransit : s.resolve (s.handleAt m).byte = some m :=
  State.resolve_handleAt (by rw [Move.live, hstate]; rfl)

theorem pick_inTransit : pick (s.handleAt m).byte s = ⟨s, .busy, []⟩ := by
  rw [pick, State.resolve_inTransit hstate]
  exact if_neg (by rw [hstate]; nofun)

theorem put_inTransit (actual : Option Byte) : put (s.handleAt m).byte actual s = match s.putPlace m actual with
    | none => ⟨s, .badArgument, []⟩
    | some (p, diverted) => ⟨endMove .moveDone ⟨diverted, false, false⟩
        (some (if p.isTrailer = true then .aboard else .placed, p)) m s, .ok, bytes32 s.journal.next⟩ := by
  rw [put, State.resolve_inTransit hstate]
  refine (if_pos hstate).trans ?_
  cases s.putPlace m actual <;> rfl

theorem put_destination {dest : Place} (hdest : (s.move m).destination = some dest) : put (s.handleAt m).byte none s
    = ⟨endMove .moveDone ⟨false, false, false⟩ (some (if dest.isTrailer = true then .aboard else .placed, dest)) m s, .ok,
        bytes32 s.journal.next⟩ := by
  rw [put_inTransit hstate, State.putPlace, hdest]
  rfl

theorem put_elsewhere {p : Place} (hsite : s.onSite p = true) (htrailer : p.isTrailer = false) :
    put (s.handleAt m).byte (some p.byte) s
      = ⟨endMove .moveDone ⟨decide ((s.move m).destination ≠ some p), false, false⟩ (some (.placed, p)) m s, .ok,
          bytes32 s.journal.next⟩ := by
  have hdiverted : ((s.move m).destination != some p) = decide ((s.move m).destination ≠ some p) := by
    rw [bne, decide_not, beq_eq_decide]
  rw [put_inTransit hstate, State.putPlace, State.setDownPlace_byte hsite htrailer, Option.map_some, hdiverted]
  dsimp only
  rw [if_neg (by rw [htrailer]; exact Bool.false_ne_true)]

theorem put_badPlace {b : Byte} (h : ∀ p : Place, b = p.byte → s.onSite p = false ∨ p.isTrailer = true) :
    put (s.handleAt m).byte (some b) s = ⟨s, .badArgument, []⟩ := by
  rw [put_inTransit hstate, State.putPlace, State.setDownPlace_none h]
  rfl

theorem cancelMove_inTransit (location : Option Byte) : cancelMove (s.handleAt m).byte location s = match location with
    | none => ⟨endMove .moveCancelled ⟨false, false, false⟩ (s.backToOrigin m) m s, .ok, bytes32 s.journal.next⟩
    | some b => match s.setDownPlace b with
      | none => ⟨s, .badArgument, []⟩
      | some p => ⟨endMove .moveCancelled ⟨false, false, false⟩ (some (.placed, p)) m s, .ok, bytes32 s.journal.next⟩ := by
  rw [cancelMove, State.resolve_inTransit hstate]
  refine (if_neg (by rw [hstate]; nofun)).trans ?_
  cases location with
  | none => rfl
  | some b => cases s.setDownPlace b <;> rfl

theorem cancelMove_elsewhere {p : Place} (hsite : s.onSite p = true) (htrailer : p.isTrailer = false) :
    cancelMove (s.handleAt m).byte (some p.byte) s
      = ⟨endMove .moveCancelled ⟨false, false, false⟩ (some (.placed, p)) m s, .ok, bytes32 s.journal.next⟩ := by
  rw [cancelMove_inTransit hstate]
  dsimp only
  rw [State.setDownPlace_byte hsite htrailer]

theorem cancelMove_badPlace {b : Byte} (h : ∀ p : Place, b = p.byte → s.onSite p = false ∨ p.isTrailer = true) :
    cancelMove (s.handleAt m).byte (some b) s = ⟨s, .badArgument, []⟩ := by
  rw [cancelMove_inTransit hstate]
  dsimp only
  rw [State.setDownPlace_none h]

theorem cancelMove_back {q : Fin 256} {o : Place} {st : PalletState} (hfound : s.findPallet (s.move m).tag = some q)
    (hpick : (s.pallet q).pickState = some st) (horigin : (s.move m).origin = some o) :
    cancelMove (s.handleAt m).byte none s
      = ⟨endMove .moveCancelled ⟨false, false, false⟩ (some (st, o)) m s, .ok, bytes32 s.journal.next⟩ := by
  have hback : s.backToOrigin m = some (st, o) := by
    rw [State.backToOrigin, horigin, State.movedPallet_of_find hfound, hpick]
    rfl
  rw [cancelMove_inTransit hstate]
  dsimp only
  rw [hback]

end

end

end

/-! ### The obligation -/

/-- Settles O60: each request by its checks in order, and by the state of the entry its handle names. -/
theorem moveRequestsFollowTheHandle : Obligations.MoveRequestsFollowTheHandle := by
  intro tag s hready hmode hkept
  refine ⟨fun d r => ?_, fun pallet b => ⟨?_, fun hzero hunknown => ?_, fun q hlive htag => ?_⟩, fun q origin dest hlive hhandle hat
    hsite hne => ?_, fun m => ⟨fun hstate => ?_, fun hstate => ?_⟩, fun b hb => ?_⟩
  · exact ⟨rfl, rfl, rfl, rfl, rfl, beq_eq_decide _ _, DefrostState.refusesMoves_eq _, DefrostState.refusesMoves_eq _, rfl⟩
  · rintro rfl
    exact exec_run hready hmode rfl rfl rfl rfl (requestMove_zero b)
  · exact exec_run hready hmode rfl rfl rfl rfl (requestMove_unknown hzero hunknown)
  · subst htag
    exact ⟨fun hhandle => exec_run hready hmode rfl rfl rfl rfl (requestMove_busy hkept hlive hhandle b),
      fun hhandle hplace => exec_run hready hmode rfl rfl rfl rfl (requestMove_badPlace hkept hlive hhandle hplace)⟩
  · have hto := requestMove_to hkept hlive hhandle hat hsite hne
    refine ⟨fun h => ?_, fun h5 h => ?_, fun h5 h6 h => ?_, fun h5 h6 h7 h => ?_, fun h5 h6 h7 h8 h => ?_,
      fun h5 h6 h7 h8 m hfree hlower => ⟨fun h => ?_, fun h => ?_⟩⟩
    · exact exec_run hready hmode rfl rfl rfl rfl (hto.trans (requestMoveTo_doorState h))
    · exact exec_run hready hmode rfl rfl rfl rfl (hto.trans (requestMoveTo_defrost h5 h))
    · exact exec_run hready hmode rfl rfl rfl rfl (hto.trans (requestMoveTo_quarantined h5 h6 h))
    · exact exec_run hready hmode rfl rfl rfl rfl (hto.trans (requestMoveTo_lowBudget h5 h6 h7 h))
    · exact exec_run hready hmode rfl rfl rfl rfl (hto.trans (requestMoveTo_full h5 h6 h7 h8 h))
    · exact exec_run hready hmode rfl rfl rfl rfl (hto.trans (requestMoveTo_journalFull h5 h6 h7 h8 hfree hlower h))
    · exact exec_run hready hmode rfl rfl rfl rfl (hto.trans (requestMoveTo_permitted h5 h6 h7 h8 hfree hlower h))
  · have hlive : (s.move m).live = true := by rw [Move.live, hstate]; rfl
    obtain ⟨q, hq, htag, -, -⟩ := hkept.carried hlive
    have hfound := State.findPallet_of_live hkept.tags hq
    rw [htag] at hfound
    exact ⟨⟨q, hq, htag, exec_run hready hmode rfl rfl rfl rfl (pick_permitted hstate hfound)⟩,
      fun actual => exec_run hready hmode rfl rfl rfl rfl (put_permitted hstate actual),
      fun location => exec_run hready hmode rfl rfl rfl rfl (cancelMove_permitted hstate location)⟩
  · refine ⟨exec_run hready hmode rfl rfl rfl rfl (pick_inTransit hstate),
      fun dest hdest => exec_run hready hmode rfl rfl rfl rfl (put_destination hstate hdest),
      fun p hsite htrailer => ⟨exec_run hready hmode rfl rfl rfl rfl (put_elsewhere hstate hsite htrailer),
        exec_run hready hmode rfl rfl rfl rfl (cancelMove_elsewhere hstate hsite htrailer)⟩,
      fun b hb => ⟨exec_run hready hmode rfl rfl rfl rfl (put_badPlace hstate hb),
        exec_run hready hmode rfl rfl rfl rfl (cancelMove_badPlace hstate hb)⟩, fun q o st hq htag hpick horigin => ?_⟩
    have hfound := State.findPallet_of_live hkept.tags hq
    rw [htag] at hfound
    exact exec_run hready hmode rfl rfl rfl rfl (cancelMove_back hstate hfound hpick horigin)
  · have hnone := State.resolve_none hb
    exact ⟨exec_run hready hmode rfl rfl rfl rfl (pick_unknown hnone),
      fun actual => exec_run hready hmode rfl rfl rfl rfl (put_unknown hnone actual),
      fun location => exec_run hready hmode rfl rfl rfl rfl (cancelMove_unknown hnone location)⟩

end Sys2Proof.Machine
end

section
/-! PROOFS. What keeps queue, heater capacity and moves in agreement with the defrost states (R71, R72, R88): one room's record
rewritten, the evaluation of the queue, the phases and the ends of moves. -/

namespace Sys2Proof.Machine

set_option Elab.async false

/-! ### What the invariant reads -/

/-- The part of a defrost record that queue, capacity and moves agree with. -/
def Defrost.hold (x : Defrost) : DefrostState × Nat × Bool := (x.state, x.heaterLoad, x.forcedCycle)

/-- Between two states nothing that queue, capacity and moves agree with changes, but for moves that end. -/
structure State.SameHolds (s t : State) : Prop where
  mode : t.mode = s.mode
  heaterCapacity : t.heaterCapacity = s.heaterCapacity
  remainingCapacity : t.remainingCapacity = s.remainingCapacity
  defrostQueue : t.defrostQueue = s.defrostQueue
  hold : ∀ r : Fin 8, (t.defrost r).hold = (s.defrost r).hold
  dockRoom : ∀ d : Fin 24, (t.door d).dockRoom = (s.door d).dockRoom
  move : ∀ m : Fin 32, (t.move m).live = true → (s.move m).live = true ∧ (t.move m).destination = (s.move m).destination

/-- From one state to another queue, capacity and moves stay in agreement. -/
structure State.KeepsDefrost (s t : State) : Prop where
  kept : s.defrostKept → t.defrostKept

section
variable {s t u : State}

theorem State.SameHolds.state (h : s.SameHolds t) (r : Fin 8) : (t.defrost r).state = (s.defrost r).state :=
  (congrArg Prod.fst (h.hold r) :)

theorem State.SameHolds.heaterLoad (h : s.SameHolds t) (r : Fin 8) : (t.defrost r).heaterLoad = (s.defrost r).heaterLoad :=
  (congrArg (fun x => x.2.1) (h.hold r) :)

theorem State.SameHolds.forcedCycle (h : s.SameHolds t) (r : Fin 8) : (t.defrost r).forcedCycle = (s.defrost r).forcedCycle :=
  (congrArg (fun x => x.2.2) (h.hold r) :)

theorem State.mapsTo_congr (h : ∀ d : Fin 24, (t.door d).dockRoom = (s.door d).dockRoom) : t.mapsTo = s.mapsTo :=
  funext fun p => by
    cases p with
    | lane d => simp only [State.mapsTo, h d]
    | _ => rfl

theorem State.movesBlock_of_moves (hmaps : t.mapsTo = s.mapsTo)
    (hmove : ∀ m : Fin 32, (t.move m).live = true → (s.move m).live = true ∧ (t.move m).destination = (s.move m).destination)
    {r : Fin 8} (h : s.movesBlock r = false) : t.movesBlock r = false := by
  refine Bool.eq_false_iff.mpr fun ht => Bool.eq_false_iff.mp h ?_
  obtain ⟨m, hlive, p, hdest, hroom⟩ := (t.movesBlock_eq_true r).mp ht
  obtain ⟨hbefore, hsame⟩ := hmove m hlive
  exact (s.movesBlock_eq_true r).mpr ⟨m, hbefore, p, hsame ▸ hdest, hmaps ▸ hroom⟩

theorem State.loadIn_congr (h : s.SameHolds t) (states : List DefrostState) : t.loadIn states = s.loadIn states := by
  simp only [State.loadIn, h.state, h.heaterLoad]

theorem State.SameHolds.keeps (h : s.SameHolds t) : s.KeepsDefrost t := by
  constructor
  rintro ⟨hnodup, hqueue, hload, hmoves, hsetup⟩
  refine ⟨h.defrostQueue ▸ hnodup, fun r => ?_, fun hmode => ?_, fun r hholds hcycle => ?_, fun hmode m => ?_⟩
  · rw [h.defrostQueue, h.state]
    exact hqueue r
  · rw [h.remainingCapacity, State.loadIn_congr h, h.heaterCapacity]
    exact hload (h.mode ▸ hmode)
  · rw [h.state] at hholds
    rw [h.forcedCycle] at hcycle
    exact State.movesBlock_of_moves (State.mapsTo_congr h.dockRoom) h.move (hmoves r hholds hcycle)
  · exact Bool.eq_false_iff.mpr fun hlive => Bool.eq_false_iff.mp (hsetup (h.mode ▸ hmode) m) (h.move m hlive).1

theorem State.KeepsDefrost.refl (s : State) : s.KeepsDefrost s := ⟨id⟩

theorem State.KeepsDefrost.trans (h : s.KeepsDefrost t) (k : t.KeepsDefrost u) : s.KeepsDefrost u := ⟨k.kept ∘ h.kept⟩

theorem State.KeepsDefrost.ite {p : Prop} [Decidable p] (h : s.KeepsDefrost t) (k : s.KeepsDefrost u) :
    s.KeepsDefrost (if p then t else u) := by
  split
  · exact h
  · exact k

theorem keepsDefrost_forEach {n : Nat} {f : Fin n → State → State} (h : ∀ i (s : State), s.KeepsDefrost (f i s)) (s : State) :
    s.KeepsDefrost (forEach n f s) := forEach_rel State.KeepsDefrost State.KeepsDefrost.refl State.KeepsDefrost.trans h s

/-- What writes none of the fields the invariant is about keeps it. -/
theorem State.KeepsDefrost.of_same (hmode : t.mode = s.mode) (hheater : t.heaterCapacity = s.heaterCapacity)
    (hremaining : t.remainingCapacity = s.remainingCapacity) (hqueue : t.defrostQueue = s.defrostQueue)
    (hdefrosts : t.defrosts = s.defrosts) (hdoors : t.doors = s.doors) (hmoves : t.moves = s.moves) : s.KeepsDefrost t :=
  State.SameHolds.keeps ⟨hmode, hheater, hremaining, hqueue, fun r => by rw [State.defrost, hdefrosts]; rfl,
    fun d => by rw [State.door, hdoors]; rfl, fun m h => by
      have hmove : t.move m = s.move m := by rw [State.move, hmoves]; rfl
      rw [hmove] at h ⊢
      exact ⟨h, rfl⟩⟩

theorem State.KeepsDefrost.of_frame {fs : List Field} (h : s.frame fs t)
    (hf : ∀ f ∈ [Field.mode, .heaterCapacity, .remainingCapacity, .defrostQueue, .defrosts, .doors, .moves], f ∉ fs) :
    s.KeepsDefrost t :=
  .of_same (State.frame_mode h (hf _ (by decide))) (State.frame_heaterCapacity h (hf _ (by decide)))
    (State.frame_remainingCapacity h (hf _ (by decide))) (State.frame_defrostQueue h (hf _ (by decide)))
    (State.frame_defrosts h (hf _ (by decide))) (State.frame_doors h (hf _ (by decide))) (State.frame_moves h (hf _ (by decide)))

/-- What is steady and writes no defrost record, queue, capacity or move keeps it, whatever it does at the doors. -/
theorem State.KeepsDefrost.of_steady (hsteady : s.Steady t) {fs : List Field} (h : s.frame fs t)
    (hf : ∀ f ∈ [Field.remainingCapacity, .defrostQueue, .defrosts, .moves], f ∉ fs) : s.KeepsDefrost t :=
  State.SameHolds.keeps ⟨hsteady.mode, hsteady.heaterCapacity, State.frame_remainingCapacity h (hf _ (by decide)),
    State.frame_defrostQueue h (hf _ (by decide)), fun r => by rw [State.frame_defrost h (hf _ (by decide))],
    fun d => (hsteady.door d).2, fun m hm => by
      rw [State.frame_move h (hf _ (by decide))] at hm ⊢
      exact ⟨hm, rfl⟩⟩

end

/-! ### Records written beside what the invariant reads -/

theorem State.sameHolds_setDefrost (s : State) (r : Fin 8) {x : Defrost} (h : x.hold = (s.defrost r).hold) :
    s.SameHolds (s.setDefrost r x) := by
  refine ⟨rfl, rfl, rfl, rfl, fun i => ?_, fun _ => rfl, fun _ hm => ⟨hm, rfl⟩⟩
  rw [State.defrost_setDefrost]
  split
  · next hi =>
    subst hi
    exact h
  · rfl

theorem State.keepsDefrost_setDefrost (s : State) (r : Fin 8) {x : Defrost}
    (h : x.hold = (s.defrost r).hold := by exact rfl) :
    s.KeepsDefrost (s.setDefrost r x) := (s.sameHolds_setDefrost r h).keeps

theorem State.keepsDefrost_modifyDefrost (s : State) (r : Fin 8) {f : Defrost → Defrost}
    (h : ∀ x, (f x).hold = x.hold := by exact fun _ => rfl) : s.KeepsDefrost (s.modifyDefrost r f) :=
  s.keepsDefrost_setDefrost r (h _)

theorem State.keepsDefrost_setDoor (s : State) (d : Fin 24) {x : Door} (h : x.dockRoom = (s.door d).dockRoom) :
    s.KeepsDefrost (s.setDoor d x) := by
  refine State.SameHolds.keeps ⟨rfl, rfl, rfl, rfl, fun _ => rfl, fun i => ?_, fun _ hm => ⟨hm, rfl⟩⟩
  rw [State.door_setDoor]
  split
  · next hi =>
    subst hi
    exact h
  · rfl

theorem State.keepsDefrost_modifyDoor (s : State) (d : Fin 24) {f : Door → Door}
    (h : ∀ x, (f x).dockRoom = x.dockRoom := by exact fun _ => rfl) : s.KeepsDefrost (s.modifyDoor d f) :=
  s.keepsDefrost_setDoor d (h _)

theorem State.keepsDefrost_setMove (s : State) (m : Fin 32) {x : Move}
    (h : x.live = true → (s.move m).live = true ∧ x.destination = (s.move m).destination) : s.KeepsDefrost (s.setMove m x) := by
  refine State.SameHolds.keeps ⟨rfl, rfl, rfl, rfl, fun _ => rfl, fun _ => rfl, fun i => ?_⟩
  rw [State.move_setMove]
  split
  · next hi =>
    subst hi
    exact h
  · exact fun hm => ⟨hm, rfl⟩

theorem State.keepsDefrost_setAlarms (s : State) (a : AlarmTable) : s.KeepsDefrost (s.setAlarms a) :=
  .of_same rfl rfl rfl rfl rfl rfl rfl

theorem State.keepsDefrost_setRoom (s : State) (r : Fin 8) (x : Room) : s.KeepsDefrost (s.setRoom r x) :=
  .of_same rfl rfl rfl rfl rfl rfl rfl

theorem State.keepsDefrost_modifyRoom (s : State) (r : Fin 8) (f : Room → Room) : s.KeepsDefrost (s.modifyRoom r f) :=
  s.keepsDefrost_setRoom r _

section
variable {s t : State} (h : s.KeepsDefrost t)
include h

theorem State.KeepsDefrost.posted (code : AlarmCode) (subject : Subject) (detail : Option Word16) :
    s.KeepsDefrost (t.post code subject detail) := h.trans (t.keepsDefrost_setAlarms _)

theorem State.KeepsDefrost.returned (code : AlarmCode) (subject : Subject) : s.KeepsDefrost (t.returnCondition code subject) :=
  h.trans (t.keepsDefrost_setAlarms _)

theorem State.KeepsDefrost.defrostRecord (r : Fin 8) {f : Defrost → Defrost}
    (hf : ∀ x, (f x).hold = x.hold := by exact fun _ => rfl) : s.KeepsDefrost (t.modifyDefrost r f) :=
  h.trans (t.keepsDefrost_modifyDefrost r hf)

theorem State.KeepsDefrost.written (r : Fin 8) {x : Defrost} {a : AlarmTable}
    (hx : x.hold = (t.defrost r).hold := by exact rfl) : s.KeepsDefrost ((t.setDefrost r x).setAlarms a) :=
  (h.trans (t.keepsDefrost_setDefrost r hx)).trans (State.keepsDefrost_setAlarms _ a)

end

/-! ### One room's record rewritten (R71, R72) -/

/-- The states of a room that is in the queue (R72). -/
def DefrostState.waits : DefrostState → Bool
  | .queued | .draining => true
  | .idle | .granted | .heating | .drip | .recovery => false

theorem DefrostState.waits_eq_true (x : DefrostState) : x.waits = true ↔ x = .queued ∨ x = .draining := by
  cases x <;> simp [DefrostState.waits]

theorem DefrostState.holdsPermits_of_waits {x : DefrostState} (h : x.waits = true) : x.holdsPermits = false := by
  cases x with
  | queued | draining => rfl
  | _ => cases h

/-- The heater load a record takes of the capacity (R71). -/
def Defrost.taken (x : Defrost) : Nat := if x.state ∈ [DefrostState.granted, .heating] then x.heaterLoad else 0

theorem Defrost.taken_eq_load {x : Defrost} {state : DefrostState} (h : x.state = state)
    (htakes : state ∈ [DefrostState.granted, .heating]) : x.taken = x.heaterLoad := if_pos (h ▸ htakes)

theorem Defrost.taken_eq_zero {x : Defrost} {state : DefrostState} (h : x.state = state)
    (hfree : state ∉ [DefrostState.granted, .heating]) : x.taken = 0 := if_neg (h ▸ hfree)

theorem Defrost.taken_of_waits {x : Defrost} (h : x.state.waits = true) : x.taken = 0 := by
  obtain h | h := (DefrostState.waits_eq_true _).mp h
  · exact Defrost.taken_eq_zero h (by decide)
  · exact Defrost.taken_eq_zero h (by decide)

/-- One room's record rewritten, with the remaining capacity and the queue. -/
def State.rewritten (s : State) (r : Fin 8) (x : Defrost) (remaining : Nat) (queue : List (Fin 8)) : State :=
  { s with remainingCapacity := remaining, defrostQueue := queue }.setDefrost r x

theorem State.rewritten_defrost (s : State) (r : Fin 8) (x : Defrost) (remaining : Nat) (queue : List (Fin 8)) (i : Fin 8) :
    (s.rewritten r x remaining queue).defrost i = if i = r then x else s.defrost i :=
  (State.defrost_setDefrost _ r i x).trans (if_congr eq_comm rfl rfl)

theorem State.loadIn_eq_sum (s : State) : s.loadIn [.granted, .heating] = ∑ i, (s.defrost i).taken :=
  (Fin.sum_univ_def _).symm

theorem State.loadIn_rewritten (s : State) (r : Fin 8) (x : Defrost) (remaining : Nat) (queue : List (Fin 8)) :
    (s.rewritten r x remaining queue).loadIn [.granted, .heating] + (s.defrost r).taken
      = s.loadIn [.granted, .heating] + x.taken := by
  have htaken : (fun i => ((s.rewritten r x remaining queue).defrost i).taken)
      = Function.update (fun i => (s.defrost i).taken) r x.taken := funext fun i => by
    rw [State.rewritten_defrost, Function.update_apply]
    exact apply_ite Defrost.taken _ _ _
  rw [State.loadIn_eq_sum, State.loadIn_eq_sum, htaken, Finset.sum_update_of_mem (Finset.mem_univ r),
    Finset.sum_eq_add_sum_sdiff_singleton_of_mem (Finset.mem_univ r) fun i => (s.defrost i).taken]
  omega

section
variable {s : State} (h : s.defrostKept) {r : Fin 8} {x : Defrost} {remaining : Nat}
include h

theorem State.defrostKept.mem_queue (i : Fin 8) : i ∈ s.defrostQueue ↔ (s.defrost i).state.waits = true := by
  obtain ⟨-, hqueue, -⟩ := h
  exact (hqueue i).trans (DefrostState.waits_eq_true _).symm

theorem State.defrostKept.rewritten {queue : List (Fin 8)} (hnodup : queue.Nodup) (hr : r ∈ queue ↔ x.state.waits = true)
    (hothers : ∀ i, i ≠ r → (i ∈ queue ↔ i ∈ s.defrostQueue))
    (hcapacity : s.mode = .run → remaining + x.taken = s.remainingCapacity + (s.defrost r).taken)
    (hmoves : x.state.holdsPermits = true → x.forcedCycle = false → s.movesBlock r = false) :
    (s.rewritten r x remaining queue).defrostKept := by
  obtain ⟨-, hqueue, hload, hblock, hsetup⟩ := h
  have hdefrost := s.rewritten_defrost r x remaining queue
  refine ⟨hnodup, fun i => ?_, fun hmode => ?_, fun i hholds hcycle => ?_, hsetup⟩
  · rw [hdefrost]
    split
    · next hi =>
      subst hi
      exact hr.trans (DefrostState.waits_eq_true _)
    · next hi => exact (hothers i hi).trans (hqueue i)
  · have hsum := s.loadIn_rewritten r x remaining queue
    have hcap := hcapacity hmode
    have hbefore := hload hmode
    change remaining + _ = s.heaterCapacity
    omega
  · rw [hdefrost] at hholds hcycle
    split at hholds
    · next hi =>
      subst hi
      rw [if_pos rfl] at hcycle
      exact hmoves hholds hcycle
    · next hi =>
      rw [if_neg hi] at hcycle
      exact hblock i hholds hcycle

/-- A record rewritten while its room stays in the queue, or out of it. -/
theorem State.defrostKept.restated (hwaits : x.state.waits = (s.defrost r).state.waits)
    (hcapacity : s.mode = .run → remaining + x.taken = s.remainingCapacity + (s.defrost r).taken)
    (hmoves : x.state.holdsPermits = true → x.forcedCycle = false → s.movesBlock r = false) :
    (s.rewritten r x remaining s.defrostQueue).defrostKept := by
  have hnodup : s.defrostQueue.Nodup := by
    obtain ⟨hnodup, -⟩ := h
    exact hnodup
  exact h.rewritten hnodup ((h.mem_queue r).trans (by rw [hwaits])) (fun _ _ => Iff.rfl) hcapacity hmoves

/-- A room that leaves the queue. -/
theorem State.defrostKept.left (hwaits : x.state.waits = false)
    (hcapacity : s.mode = .run → remaining + x.taken = s.remainingCapacity + (s.defrost r).taken)
    (hmoves : x.state.holdsPermits = true → x.forcedCycle = false → s.movesBlock r = false) :
    (s.rewritten r x remaining (s.defrostQueue.erase r)).defrostKept := by
  have hnodup : s.defrostQueue.Nodup := by
    obtain ⟨hnodup, -⟩ := h
    exact hnodup
  exact h.rewritten (hnodup.erase r) (iff_of_false hnodup.not_mem_erase (Bool.eq_false_iff.mp hwaits))
    (fun i hi => List.mem_erase_of_ne hi) hcapacity hmoves

/-- A room that joins the queue. -/
theorem State.defrostKept.joined (hbefore : (s.defrost r).state.waits = false) (hwaits : x.state.waits = true)
    (hcapacity : s.mode = .run → remaining + x.taken = s.remainingCapacity + (s.defrost r).taken)
    (hmoves : x.state.holdsPermits = true → x.forcedCycle = false → s.movesBlock r = false) :
    (s.rewritten r x remaining (s.defrostQueue ++ [r])).defrostKept := by
  have hnodup : s.defrostQueue.Nodup := by
    obtain ⟨hnodup, -⟩ := h
    exact hnodup
  have hnew : r ∉ s.defrostQueue := fun hr => Bool.eq_false_iff.mp hbefore ((h.mem_queue r).mp hr)
  refine h.rewritten ?_ (iff_of_true (by simp) hwaits) (fun i hi => by simp [hi]) hcapacity hmoves
  exact List.nodup_append.mpr ⟨hnodup, List.nodup_singleton r, fun a ha b hb heq => hnew (List.mem_singleton.mp hb ▸ heq ▸ ha)⟩

end

/-! ### The evaluation of the queue (R75 to R79) -/

theorem State.queueState_waits (s : State) (r : Fin 8) : (s.queueState r).waits = true := by
  rw [State.queueState_eq]
  split <;> rfl

theorem evaluateQueue_keepsDefrost (s : State) : s.KeepsDefrost (evaluateQueue s) := by
  refine ⟨fun h => ?_⟩
  have hnodup : s.defrostQueue.Nodup := by
    obtain ⟨hnodup, -⟩ := h
    exact hnodup
  refine (evaluateQueue_induct (P := fun l t => t.defrostKept ∧ l.Nodup ∧ ∀ i ∈ l, i ∈ t.defrostQueue)
    ⟨h, State.nodup_arbiterOrder hnodup, fun i => (s.mem_arbiterOrder i).mp⟩ ?_ ?_).1
  · rintro r l t ⟨ht, hl, hmem⟩
    have hwaits := (ht.mem_queue r).mp (hmem r List.mem_cons_self)
    have hstate : ({ t.defrost r with state := t.queueState r } : Defrost).state.waits = true := t.queueState_waits r
    refine ⟨ht.restated (x := { t.defrost r with state := t.queueState r }) (hstate.trans hwaits.symm) (fun _ => ?_)
      fun hholds => ?_, hl.of_cons, fun i hi => hmem i (.tail r hi)⟩
    · rw [Defrost.taken_of_waits hstate, Defrost.taken_of_waits hwaits]
    · exact absurd ((DefrostState.holdsPermits_of_waits hstate).symm.trans hholds) nofun
  · rintro r l t ⟨ht, hl, hmem⟩ ⟨hload, hpasses⟩
    have hwaits := (ht.mem_queue r).mp (hmem r List.mem_cons_self)
    obtain ⟨hr, hl⟩ := List.nodup_cons.mp hl
    have hrewritten : (t.rewritten r
        { t.defrost r with
          state := .granted, forcedCycle := (t.defrost r).forcedMark, phaseTimer := .start (t.defrost r).grantHold }
        (t.remainingCapacity - (t.defrost r).heaterLoad) (t.defrostQueue.erase r)).defrostKept := by
      refine ht.left rfl (fun _ => ?_) fun _ hcycle => ?_
      · rw [Defrost.taken_of_waits hwaits]
        exact Nat.sub_add_cancel hload
      · obtain hforced | hclear := hpasses
        · exact absurd (hforced.symm.trans hcycle) nofun
        · obtain ⟨-, -, hblock⟩ := (t.blocked_eq_false r).mp hclear
          exact hblock
    refine ⟨(State.keepsDefrost_setAlarms _ _).kept hrewritten, hl, fun i hi => ?_⟩
    have hne : i ≠ r := by
      rintro rfl
      exact hr hi
    exact (List.mem_erase_of_ne hne).mpr (hmem i (.tail r hi))

theorem State.KeepsDefrost.evaluated {s t : State} (h : s.KeepsDefrost t) : s.KeepsDefrost (evaluateQueue t) :=
  h.trans (evaluateQueue_keepsDefrost t)

/-! ### Frost and its raises (R68 to R70) -/

theorem raiseFrostDue_keepsDefrost (r : Fin 8) (s : State) : s.KeepsDefrost (raiseFrostDue r s) := by
  rw [raiseFrostDue_eq]
  exact State.KeepsDefrost.written (.refl s) r

theorem raiseForced_keepsDefrost (r : Fin 8) (s : State) : s.KeepsDefrost (raiseForced r s) := by
  rw [raiseForced_eq]
  exact State.KeepsDefrost.written (.refl s) r

theorem raiseOverrun_keepsDefrost (r : Fin 8) (s : State) : s.KeepsDefrost (raiseOverrun r s) := by
  rw [raiseOverrun_eq]
  exact State.KeepsDefrost.written (.refl s) r

theorem testFrostDue_keepsDefrost (r : Fin 8) (s : State) : s.KeepsDefrost (testFrostDue r s) :=
  .ite (raiseFrostDue_keepsDefrost r s) (.refl s)

theorem testForced_keepsDefrost (r : Fin 8) (s : State) : s.KeepsDefrost (testForced r s) :=
  .ite ((s.keepsDefrost_modifyDefrost r).trans (raiseForced_keepsDefrost r _)) (.refl s)

theorem Defrost.risen_hold (x : Defrost) (index : Nat) : (x.risen index).hold = x.hold := rfl

theorem accumulateFrost_keepsDefrost (r : Fin 8) (s : State) : s.KeepsDefrost (accumulateFrost r s) :=
  .ite (.refl s) (((s.keepsDefrost_setDefrost r (Defrost.risen_hold _ _)).trans (testFrostDue_keepsDefrost r _)).trans (testForced_keepsDefrost r _))

theorem accumulateAll_keepsDefrost (s : State) : s.KeepsDefrost (accumulateAll s) :=
  (keepsDefrost_forEach accumulateFrost_keepsDefrost s).evaluated

/-! ### The phases (R80 to R86) -/

theorem givePermits_keepsDefrost (r : Fin 8) (s : State) : s.KeepsDefrost (givePermits r s) :=
  .of_steady (givePermits_steady r s) (givePermits_frame r s) (by decide)

theorem returnLoad_setDefrost (s : State) (r : Fin 8) (x : Defrost) :
    (s.setDefrost r x).returnLoad r = s.rewritten r x (s.remainingCapacity + x.heaterLoad) s.defrostQueue := by
  rw [State.returnLoad, State.defrost_setDefrost_self]
  rfl

section
variable {s : State} {r : Fin 8} {x : Defrost} {before : DefrostState}

/-- A room that ends a grant or its heating, with its load returned. -/
theorem State.keepsDefrost_released (hbefore : (s.defrost r).state = before) (htakes : before ∈ [DefrostState.granted, .heating])
    (hafter : x.state = .idle ∨ x.state = .drip ∧ x.forcedCycle = (s.defrost r).forcedCycle)
    (hload : x.heaterLoad = (s.defrost r).heaterLoad := by exact rfl) :
    s.KeepsDefrost ((s.setDefrost r x).returnLoad r) := by
  refine ⟨fun h => ?_⟩
  rw [returnLoad_setDefrost]
  have hwaits : before.waits = false ∧ before.holdsPermits = true := by
    simp only [List.mem_cons, List.not_mem_nil, or_false] at htakes
    obtain rfl | rfl := htakes <;> exact ⟨rfl, rfl⟩
  obtain ⟨hwaits, hholds⟩ := hwaits
  have hx : x.state.waits = false ∧ x.taken = 0 := by
    obtain hs | ⟨hs, -⟩ := hafter
    · exact ⟨hs ▸ rfl, Defrost.taken_eq_zero hs (by decide)⟩
    · exact ⟨hs ▸ rfl, Defrost.taken_eq_zero hs (by decide)⟩
  obtain ⟨hnot, hzero⟩ := hx
  refine h.restated (hnot.trans (hbefore ▸ hwaits).symm) (fun _ => ?_) fun hpermits hcycle => ?_
  · rw [hzero, Defrost.taken_eq_load hbefore htakes, hload]
    rfl
  · obtain hs | ⟨-, hsame⟩ := hafter
    · rw [hs] at hpermits
      cases hpermits
    · obtain ⟨-, -, -, hblock, -⟩ := h
      exact hblock r (hbefore ▸ hholds) (hsame ▸ hcycle)

/-- A room that goes from DRIP to RECOVERY, or from RECOVERY to IDLE. -/
theorem State.keepsDefrost_rested (hbefore : (s.defrost r).state = before) (hrests : before = .drip ∨ before = .recovery)
    (hafter : x.state = .idle ∨ x.state = .recovery) : s.KeepsDefrost (s.setDefrost r x) := by
  refine ⟨fun h => ?_⟩
  have hfree : before.waits = false ∧ before ∉ [DefrostState.granted, .heating] := by
    obtain rfl | rfl := hrests <;> exact ⟨rfl, by decide⟩
  obtain ⟨hwaits, hfree⟩ := hfree
  have hx : x.state.waits = false ∧ x.taken = 0 ∧ x.state.holdsPermits = false := by
    obtain hs | hs := hafter <;> exact ⟨hs ▸ rfl, Defrost.taken_eq_zero hs (by decide), hs ▸ rfl⟩
  obtain ⟨hnot, hzero, hpermits⟩ := hx
  refine h.restated (remaining := s.remainingCapacity) (hnot.trans (hbefore ▸ hwaits).symm) (fun _ => ?_) fun hholds => ?_
  · rw [hzero, Defrost.taken_eq_zero hbefore hfree]
  · exact absurd (hpermits.symm.trans hholds) nofun

end

theorem expireGrantHold_keepsDefrost (r : Fin 8) (s : State) : s.KeepsDefrost (expireGrantHold r s) := by
  unfold expireGrantHold
  dsimp only
  split
  · next hdue =>
    exact (((State.keepsDefrost_released hdue.1 (by decide) (by exact .inl rfl)).posted _ _ _).trans
      (givePermits_keepsDefrost r _)).evaluated
  · exact .refl s

theorem expireHeating_keepsDefrost (r : Fin 8) (s : State) : s.KeepsDefrost (expireHeating r s) :=
  .ite ((s.keepsDefrost_setDefrost r).trans (raiseOverrun_keepsDefrost r _)) (.refl s)

theorem expireDrip_keepsDefrost (r : Fin 8) (s : State) : s.KeepsDefrost (expireDrip r s) := by
  unfold expireDrip
  dsimp only
  split
  · next hdue => exact (State.keepsDefrost_rested hdue.1 (.inl rfl) (by exact .inr rfl)).trans (givePermits_keepsDefrost r _)
  · exact .refl s

theorem resumeHigh_keepsDefrost (r : Fin 8) (s : State) : s.KeepsDefrost (resumeHigh r s) :=
  .of_frame (resumeHigh_frame r s) (by decide)

theorem expireRecovery_keepsDefrost (r : Fin 8) (s : State) : s.KeepsDefrost (expireRecovery r s) := by
  unfold expireRecovery
  dsimp only
  split
  · next hdue => exact ((State.keepsDefrost_rested hdue.1 (.inr rfl) (by exact .inl rfl)).posted _ _ _).trans (resumeHigh_keepsDefrost r _)
  · exact .refl s

theorem testRecovery_keepsDefrost (r : Fin 8) (s : State) : s.KeepsDefrost (testRecovery r s) := by
  unfold testRecovery
  split
  · next hcold => exact (State.keepsDefrost_rested hcold.1 (.inr rfl) (by exact .inl rfl)).trans (resumeHigh_keepsDefrost r _)
  · exact .refl s

theorem expireInhibit_keepsDefrost (r : Fin 8) (s : State) : s.KeepsDefrost (expireInhibit r s) :=
  .ite (s.keepsDefrost_modifyDefrost r).evaluated (.refl s)

theorem settleDefrost_keepsDefrost (r : Fin 8) (s : State) : s.KeepsDefrost (settleDefrost r s) :=
  ((((expireGrantHold_keepsDefrost r s).trans (expireHeating_keepsDefrost r _)).trans (expireDrip_keepsDefrost r _)).trans
    (expireRecovery_keepsDefrost r _)).trans (expireInhibit_keepsDefrost r _)

theorem testTerminate_keepsDefrost (r : Fin 8) (s : State) : s.KeepsDefrost (testTerminate r s) := by
  cases h : coldest (s.probeTemps .coil r) with
  | none =>
    rw [testTerminate_none h]
    exact .refl s
  | some v =>
    rw [testTerminate_some h]
    exact .ite (State.KeepsDefrost.written (.refl s) r) (.refl s)

theorem roundDefrost_keepsDefrost (s : State) : s.KeepsDefrost (roundDefrost s) :=
  .ite (keepsDefrost_forEach (fun r s => (testTerminate_keepsDefrost r s).trans (testRecovery_keepsDefrost r _)) s) (.refl s)

theorem reraiseDefrost_keepsDefrost (r : Fin 8) (s : State) : s.KeepsDefrost (reraiseDefrost r s) := by
  have hdue := State.KeepsDefrost.ite (p := (s.defrost r).threshold ≤ (s.defrost r).frostIndex ∧ (s.defrost r).state ≠ .drip)
    (raiseFrostDue_keepsDefrost r s) (.refl s)
  have hforced := State.KeepsDefrost.ite (p := (s.defrost r).forcedMark = true ∧ (!(s.defrost r).state.coilWarm) = true)
    (hdue.trans (raiseForced_keepsDefrost r _)) hdue
  exact .ite (hforced.trans (raiseOverrun_keepsDefrost r _)) hforced

/-! ### The ends of moves (R119, R121, R124, R127, R59) -/

theorem endMove_keepsDefrost (kind : RecordKind) (f : EndFlags) (settle : Option (PalletState × Place)) (m : Fin 32) (s : State) :
    s.KeepsDefrost (endMove kind f settle m s) := by
  have hrecorded : s.KeepsDefrost (recorded kind f settle m s) :=
    (State.KeepsDefrost.of_frame (settleMoved_frame m settle s) (by decide)).trans
      (.of_frame (writeRecord_frame (moveRecord kind f (s.move m) ((settleMoved m settle s).movedPallet m) s.clock) _) (by decide))
  have hreturned := State.KeepsDefrost.ite (p := (s.move m).overdueFlag = true) (hrecorded.returned .moveOverdue (.move m)) hrecorded
  rw [endMove_eq]
  exact (hreturned.trans (State.keepsDefrost_setMove _ m (by exact fun hlive => absurd hlive Bool.false_ne_true))).evaluated

theorem expireLapse_keepsDefrost (m : Fin 32) (s : State) : s.KeepsDefrost (expireLapse m s) :=
  .ite ((endMove_keepsDefrost _ _ _ m s).posted _ _ _) (.refl s)

theorem State.keepsDefrost_raiseCondition (s : State) (code : AlarmCode) (subject : Subject) (tag : Option Word32)
    (detail : Option Word16) {f : State → State} (h : ∀ t : State, t.KeepsDefrost (f t)) :
    s.KeepsDefrost (s.raiseCondition code subject tag detail f) := by
  rw [State.raiseCondition_eq]
  exact .ite (s.keepsDefrost_setAlarms _) ((s.keepsDefrost_setAlarms _).trans (h _))

theorem expireTransit_keepsDefrost (m : Fin 32) (s : State) : s.KeepsDefrost (expireTransit m s) :=
  .ite ((s.keepsDefrost_setMove m (by exact fun hlive => ⟨hlive, rfl⟩)).trans
    (State.keepsDefrost_raiseCondition _ _ _ _ _ fun t => t.keepsDefrost_setMove m (by exact fun hlive => ⟨hlive, rfl⟩))) (.refl s)

theorem restartMove_keepsDefrost (m : Fin 32) (s : State) : s.KeepsDefrost (restartMove m s) := by
  unfold restartMove
  split
  · exact .refl s
  · exact endMove_keepsDefrost _ _ _ m s
  · exact endMove_keepsDefrost _ _ _ m s

theorem shipAboard_keepsDefrost (lost : Bool) (d : Fin 24) (s : State) : s.KeepsDefrost (shipAboard lost d s) :=
  .of_frame (shipAboard_frame lost d s) (by decide)

theorem writeOff_keepsDefrost (d : Fin 24) (s : State) : s.KeepsDefrost (writeOff d s) := by
  have hmoves : s.KeepsDefrost (forEach 32 (writeOffMove d) s) :=
    keepsDefrost_forEach (fun m s => .ite (endMove_keepsDefrost _ _ _ m s) (.refl s)) s
  exact ((hmoves.trans (shipAboard_keepsDefrost true d _)).trans (.of_frame (rejectInbound_frame d _) (by decide))).trans
    (State.keepsDefrost_modifyDoor _ d)

end Sys2Proof.Machine
end

section
/-! PROOFS. Every step keeps queue, heater capacity and moves in agreement with the defrost states (O17): ticks, restarts, requests
and every command. -/

namespace Sys2Proof.Machine

set_option Elab.async false

/-! ### Expiries and ticks (R3, R4) -/

theorem settleTimers_keepsDefrost (s : State) : s.KeepsDefrost (settleTimers s) :=
  (((State.KeepsDefrost.of_frame (settleRooms_frame s) (by decide)).trans
    (keepsDefrost_forEach (fun d s => .of_steady (settleDoor_steady d s) (settleDoor_frame d s) (by decide)) _)).trans
    (keepsDefrost_forEach settleDefrost_keepsDefrost _)).trans
    (keepsDefrost_forEach (fun m s => (expireLapse_keepsDefrost m s).trans (expireTransit_keepsDefrost m _)) _)

theorem clearMark_keepsDefrost (s : State) (x : RetryMark) : s.KeepsDefrost (s.clearMark x) := by
  unfold State.clearMark
  cases x with
  | doorBreach d | doorFault d => exact s.keepsDefrost_modifyDoor d (by exact fun _ => rfl)
  | overrun r | forced r | frostDue r => exact s.keepsDefrost_modifyDefrost r (by exact fun _ => rfl)
  | overdue m => exact s.keepsDefrost_setMove m (by exact fun hlive => ⟨hlive, rfl⟩)
  | _ => exact .of_same rfl rfl rfl rfl rfl rfl rfl

theorem retryAll_keepsDefrost (order : List RetryBlock) (s : State) : s.KeepsDefrost (retryAll order s) := by
  have hmark : ∀ (s : State) (x : RetryMark), s.KeepsDefrost (retryMark s x) := fun s x => by
    refine .ite ?_ (.refl s)
    rw [State.retryCondition_eq]
    exact .ite ((s.keepsDefrost_setAlarms _).trans (clearMark_keepsDefrost _ x)) (s.keepsDefrost_setAlarms _)
  rw [retryAll_eq]
  generalize retryList order = l
  induction l generalizing s with
  | nil => exact .refl s
  | cons x l ih => exact (hmark s x).trans (ih _)

theorem tickTimers_keepsDefrost (s : State) : s.KeepsDefrost (tickTimers s) := by
  have hdoor : ∀ d, (tickTimers s).door d = (s.door d).tick := mapTable_entry Door.tick s.doors
  have hdefrost : ∀ r, (tickTimers s).defrost r = (s.defrost r).tick := mapTable_entry Defrost.tick s.defrosts
  have hmove : ∀ m, (tickTimers s).move m = (s.move m).tick := mapTable_entry Move.tick s.moves
  refine State.SameHolds.keeps ⟨rfl, rfl, rfl, rfl, fun r => ?_, fun d => ?_, fun m hlive => ?_⟩
  · rw [hdefrost]
    rfl
  · rw [hdoor]
    rfl
  · rw [hmove] at hlive ⊢
    exact ⟨hlive, rfl⟩

theorem tickSecond_keepsDefrost (order : List RetryBlock) (s : State) : s.KeepsDefrost (tickSecond order s) := by
  have hclock : ∀ t : State, t.KeepsDefrost { t with clock := t.clock + 1 } := fun t => .of_same rfl rfl rfl rfl rfl rfl rfl
  rw [tickSecond_eq]
  exact (((((settleTimers_keepsDefrost s).trans (hclock _)).trans (tickTimers_keepsDefrost _)).trans
    (.of_frame (advancePhase_frame _) (by decide))).trans (.of_frame (startRound_frame _) (by decide))).trans
    (retryAll_keepsDefrost order _)

theorem tickExposure_keepsDefrost (first : Bool) (s : State) : s.KeepsDefrost (tickExposure first s) := by
  have hdue : s.KeepsDefrost { s with exposureDue := false } := .of_same rfl rfl rfl rfl rfl rfl rfl
  have hcharge : ∀ t : State, t.KeepsDefrost (chargePallets t) := fun t => .of_frame (chargePallets_frame t) (by decide)
  exact .ite (.ite ((hdue.trans (accumulateAll_keepsDefrost _)).trans (hcharge _))
    ((hdue.trans (hcharge _)).trans (accumulateAll_keepsDefrost _))) (.refl s)

theorem completeRound_keepsDefrost (first : Bool) (s : State) : s.KeepsDefrost (completeRound first s) := by
  have hidle : s.KeepsDefrost { s with round := .idle } := .of_same rfl rfl rfl rfl rfl rfl rfl
  have hround := hidle.trans (.of_frame (settleRooms_frame _) (by decide))
  have hrooms : ∀ t : State, t.KeepsDefrost (roundRooms t) := fun t => .of_frame (roundRooms_frame t) (by decide)
  unfold completeRound
  split
  · exact .ite ((hround.trans (roundDefrost_keepsDefrost _)).trans (hrooms _))
      ((hround.trans (hrooms _)).trans (roundDefrost_keepsDefrost _))
  · exact .refl s
  · exact .refl s

/-! ### A warm restart and the entry into RUN (R92, R127, R176, R177) -/

/-- A record restarted waits for no grant and holds none; in the states that keep theirs nothing is changed. -/
theorem Defrost.restarted_spec (x : Defrost) : x.restarted.state.waits = false ∧ x.restarted.state ≠ .granted
    ∧ (x.restarted.state.holdsPermits = true → x.restarted.state = x.state ∧ x.restarted.forcedCycle = x.forcedCycle)
    ∧ (x.restarted.state = .heating → x.state = .heating) ∧ x.restarted.heaterLoad = x.heaterLoad := by
  unfold Defrost.restarted
  cases hstate : x.state <;> simp [hstate, DefrostState.waits, DefrostState.holdsPermits]

theorem Defrost.restarted_taken (x : Defrost) : x.restarted.taken ≤ x.taken := by
  obtain ⟨-, hgranted, -, hheating, hload⟩ := x.restarted_spec
  by_cases h : x.restarted.state = .heating
  · rw [Defrost.taken_eq_load h (by decide), Defrost.taken_eq_load (hheating h) (by decide), hload]
  · rw [Defrost.taken, if_neg (by simp [h, hgranted])]
    exact Nat.zero_le _

theorem restartDefrost_keepsDefrost (s : State) : s.KeepsDefrost (restartDefrost s) := by
  have hdefrost : ∀ r, (restartDefrost s).defrost r = (s.defrost r).restarted := mapTable_entry Defrost.restarted s.defrosts
  refine ⟨fun ⟨_, _, hload, hmoves, hsetup⟩ => ⟨List.nodup_nil, fun r => ?_, fun hmode => ?_, fun r hholds hcycle => ?_, hsetup⟩⟩
  · obtain ⟨hwaits, -⟩ := (s.defrost r).restarted_spec
    rw [hdefrost, ← DefrostState.waits_eq_true, hwaits]
    exact iff_of_false (List.not_mem_nil) Bool.false_ne_true
  · have hbefore := hload hmode
    have hsum : (restartDefrost s).loadIn [.granted, .heating] ≤ s.loadIn [.granted, .heating] := by
      rw [State.loadIn_eq_sum, State.loadIn_eq_sum]
      refine Finset.sum_le_sum fun r _ => ?_
      rw [hdefrost]
      exact Defrost.restarted_taken _
    have hheating : (restartDefrost s).loadIn [.heating] = (restartDefrost s).loadIn [.granted, .heating] := by
      simp only [State.loadIn, hdefrost]
      refine congrArg List.sum (List.map_congr_left fun r _ => ?_)
      obtain ⟨-, hgranted, -⟩ := (s.defrost r).restarted_spec
      simp [hgranted]
    have hremaining : (restartDefrost s).remainingCapacity = s.heaterCapacity - (restartDefrost s).loadIn [.heating] := rfl
    have hcapacity : (restartDefrost s).heaterCapacity = s.heaterCapacity := rfl
    omega
  · obtain ⟨-, -, hkeeps, -⟩ := (s.defrost r).restarted_spec
    rw [hdefrost] at hholds hcycle
    obtain ⟨hstate, hsame⟩ := hkeeps hholds
    exact hmoves r (hstate ▸ hholds) (hsame ▸ hcycle)

theorem clearTable_keepsDefrost (s : State) : s.KeepsDefrost (clearTable s) := by
  have hdefrost : ∀ r, (clearTable s).defrost r = (s.defrost r).clearAlarms := mapTable_entry Defrost.clearAlarms s.defrosts
  refine State.SameHolds.keeps ⟨rfl, rfl, rfl, rfl, fun r => ?_, fun _ => rfl, fun _ hlive => ⟨hlive, rfl⟩⟩
  rw [hdefrost]
  rfl

theorem reraiseConditions_keepsDefrost (s : State) : s.KeepsDefrost (reraiseConditions s) := by
  have hprobes : s.KeepsDefrost (forEach 32 reraiseProbe s) :=
    keepsDefrost_forEach (fun c t => .ite (.refl t) (.of_frame (raiseProbeFault_frame c t) (by decide))) s
  have hjournal : ∀ t : State, t.KeepsDefrost (reraiseJournal t) := fun t =>
    .ite (.of_frame (raiseJournalHigh_frame t) (by decide)) (.refl t)
  exact (((hprobes.trans (.of_frame (frame_forEach evaluateLost_frame _) (by decide))).trans
    (keepsDefrost_forEach reraiseDefrost_keepsDefrost _)).trans (.of_frame (frame_forEach reraisePallet_frame _) (by decide))).trans
    (hjournal _)

theorem restartPart_keepsDefrost (s : State) : s.KeepsDefrost (restartPart s) := by
  have hmoves : s.KeepsDefrost (restartMoves s) := keepsDefrost_forEach restartMove_keepsDefrost s
  have hcleared := ((hmoves.trans (restartDefrost_keepsDefrost _)).trans (clearTable_keepsDefrost _)).posted .warmRestart .none none
  have hdoors := hcleared.trans (.of_steady (restartDoors_steady _) (restartDoors_frame _) (by decide))
  have hrooms : ∀ t : State, t.KeepsDefrost (restartRooms t) := keepsDefrost_forEach fun r t =>
    (t.keepsDefrost_modifyRoom r _).trans (.of_frame (evaluateRoom_frame r _) (by decide))
  exact (hdoors.trans (hrooms _)).trans (reraiseConditions_keepsDefrost _)

/-- With the entry into RUN the queue is empty, every room IDLE and the capacity whole; no move is live (R132, R176). -/
theorem enterRun_keepsDefrost (s : State) : s.KeepsDefrost (enterRun s) := by
  have hdefrost : ∀ r, s.entering.defrost r = (s.defrost r).entered := mapTable_entry Defrost.entered s.defrosts
  have hentering : s.KeepsDefrost s.entering := by
    refine ⟨fun ⟨_, _, _, _, hsetup⟩ => ⟨List.nodup_nil, fun r => ?_, fun _ => ?_, fun r hholds => ?_, nofun⟩⟩
    · rw [hdefrost]
      exact iff_of_false List.not_mem_nil (by rintro (h | h) <;> cases h)
    · have hload : s.entering.loadIn [.granted, .heating] = 0 := by
        rw [State.loadIn_eq_sum]
        exact Finset.sum_eq_zero fun r _ => Defrost.taken_eq_zero (by rw [hdefrost]; rfl) (show DefrostState.idle ∉ _ by decide)
      rw [hload]
      rfl
    · rw [hdefrost] at hholds
      cases hholds
  have hframe := entering_enterRun_frame s
  refine hentering.trans (State.SameHolds.keeps ⟨State.frame_mode hframe (by decide), State.frame_heaterCapacity hframe (by decide),
    State.frame_remainingCapacity hframe (by decide), State.frame_defrostQueue hframe (by decide),
    fun r => by rw [State.frame_defrost hframe (by decide)], fun d => ((enterRun_steady s).door d).2, fun m hlive => ?_⟩)
  rw [State.frame_move hframe (by decide)] at hlive ⊢
  exact ⟨hlive, rfl⟩

/-! ### Answers -/

section
variable {s : State} {b : Byte}

theorem onRoom_keepsDefrost {k : Fin 8 → Answer} (h : ∀ r, s.KeepsDefrost (k r).state) : s.KeepsDefrost (onRoom b s k).state := by
  unfold onRoom
  split
  · exact h _
  · exact .refl s

theorem onDoor_keepsDefrost {k : Fin 24 → Answer} (h : ∀ d, s.KeepsDefrost (k d).state) : s.KeepsDefrost (onDoor b s k).state := by
  unfold onDoor
  split
  · exact h _
  · exact .refl s

theorem answer_keepsDefrost {t : State} (h : s.KeepsDefrost t) (status : Status) (values : List Byte) :
    s.KeepsDefrost (Answer.mk t status values).state := h

theorem answer_ite_keepsDefrost {p : Prop} [Decidable p] {a c : Answer} (h : p → s.KeepsDefrost a.state)
    (k : ¬ p → s.KeepsDefrost c.state) : s.KeepsDefrost (if p then a else c).state := by
  split
  · next hp => exact h hp
  · next hp => exact k hp

theorem done_keepsDefrost {t : State} (h : s.KeepsDefrost t) : s.KeepsDefrost (done t).state := h

theorem doneClamped_keepsDefrost {t : State} (h : s.KeepsDefrost t) (forced : Bool) :
    s.KeepsDefrost (doneClamped forced t).state := h

theorem State.KeepsDefrost.doorRecord {t : State} (h : s.KeepsDefrost t) (d : Fin 24) {f : Door → Door}
    (hf : ∀ x, (f x).dockRoom = x.dockRoom := by exact fun _ => rfl) : s.KeepsDefrost (t.modifyDoor d f) :=
  h.trans (t.keepsDefrost_modifyDoor d hf)

theorem onEnabledDoor_keepsDefrost {k : Fin 24 → Answer} (h : ∀ d, s.KeepsDefrost (k d).state) :
    s.KeepsDefrost (onEnabledDoor b s k).state :=
  onDoor_keepsDefrost fun d => answer_ite_keepsDefrost (fun _ => h d) fun _ => .refl s

end

/-! ### Requests in SETUP alone (R173) -/

/-- In SETUP no move is live and the capacity is not yet shared out, so only queue and states matter. -/
theorem State.keepsDefrost_of_setup {s t : State} (hs : s.mode = .setup) (hmode : t.mode = s.mode)
    (hqueue : t.defrostQueue = s.defrostQueue) (hstate : ∀ r : Fin 8, (t.defrost r).state = (s.defrost r).state)
    (hmoves : t.moves = s.moves) : s.KeepsDefrost t := by
  have hmove : ∀ m, t.move m = s.move m := fun m => by rw [State.move, hmoves]; rfl
  refine ⟨fun ⟨hnodup, hmem, _, _, hsetup⟩ => ?_⟩
  have hfree : ∀ m, (t.move m).live = false := fun m => by rw [hmove]; exact hsetup hs m
  refine ⟨hqueue ▸ hnodup, fun r => ?_, fun hrun => ?_, fun r _ _ => ?_, fun _ => hfree⟩
  · rw [hqueue, hstate]
    exact hmem r
  · rw [hmode, hs] at hrun
    cases hrun
  · refine Bool.eq_false_iff.mpr fun hblock => ?_
    obtain ⟨m, hlive, -⟩ := (t.movesBlock_eq_true r).mp hblock
    exact Bool.eq_false_iff.mp (hfree m) hlive

section
variable {s : State} (hmode : s.mode = .setup)
include hmode

theorem configureDoor_keepsDefrost (door enabled room : Byte) (wp bp wf bf : Word16) :
    s.KeepsDefrost (configureDoor door enabled room wp bp wf bf s).state := by
  refine onDoor_keepsDefrost fun d => ?_
  split
  · exact State.keepsDefrost_of_setup hmode rfl rfl (fun _ => rfl) rfl
  · exact .refl s

theorem configureRoom_keepsDefrost (room kind load : Byte) : s.KeepsDefrost (configureRoom room kind load s).state := by
  refine onRoom_keepsDefrost fun r => ?_
  split
  · exact .refl s
  · refine answer_ite_keepsDefrost (fun _ => State.keepsDefrost_of_setup hmode rfl rfl (fun i => ?_) rfl) fun _ => .refl s
    refine (congrArg Defrost.state (State.defrost_setDefrost _ r i _)).trans ?_
    split
    · next hi =>
      subst hi
      rfl
    · rfl

theorem setHeaterCapacity_keepsDefrost (capacity : Byte) : s.KeepsDefrost (setHeaterCapacity capacity s).state :=
  answer_ite_keepsDefrost (fun _ => State.keepsDefrost_of_setup hmode rfl rfl (fun _ => rfl) rfl) fun _ => .refl s

end

theorem setupComplete_keepsDefrost (p : Port) (s : State) : s.KeepsDefrost (setupComplete p s).state := by
  have hflag : s.KeepsDefrost (s.setPort p { s.port p with setupComplete := true }) := .of_same rfl rfl rfl rfl rfl rfl rfl
  have hreject : ∀ (t : State) (detail : Option Word16), t.KeepsDefrost (t.clearSetupFlags.post .setupRejected .none detail) :=
    fun t detail => .of_same rfl rfl rfl rfl rfl rfl rfl
  unfold setupComplete
  generalize s.setPort p { s.port p with setupComplete := true } = t at *
  dsimp only
  split
  · split
    · dsimp only
      exact hflag.trans (enterRun_keepsDefrost t)
    · dsimp only
      exact hflag.trans (hreject t _)
  · exact hflag

/-! ### Requests at doors, of the part, the rooms and the Journal -/

theorem setDoorLines_keepsDefrost (tp pc sm sb pr debounce : Byte) (s : State) :
    s.KeepsDefrost (setDoorLines tp pc sm sb pr debounce s).state := by
  unfold setDoorLines
  split
  · next tp pc sm sb pr _ _ _ _ _ =>
    have hlines : s.KeepsDefrost { s with lines := ⟨tp, pc, sm, sb, pr, forceNat 1 15 debounce.toNat⟩ } :=
      .of_same rfl rfl rfl rfl rfl rfl rfl
    refine hlines.trans (keepsDefrost_forEach (fun d s => s.keepsDefrost_modifyDoor d fun x => ?_) _)
    split <;> rfl
  · exact .refl s

theorem setDoorTimes_keepsDefrost (door : Byte) (sealLimit breachGrace releaseTime : Word16) (s : State) :
    s.KeepsDefrost (setDoorTimes door sealLimit breachGrace releaseTime s).state :=
  onDoor_keepsDefrost fun d => doneClamped_keepsDefrost (State.KeepsDefrost.doorRecord (.refl s) d) _

theorem doorArmSeal_keepsDefrost (door : Byte) (s : State) : s.KeepsDefrost (doorArmSeal door s).state :=
  onEnabledDoor_keepsDefrost fun d => answer_ite_keepsDefrost
    (fun _ => done_keepsDefrost (State.KeepsDefrost.doorRecord (.refl s) d)) fun _ => .refl s

theorem doorOpenPermit_keepsDefrost (door : Byte) (s : State) : s.KeepsDefrost (doorOpenPermit door s).state := by
  refine onEnabledDoor_keepsDefrost fun d => answer_ite_keepsDefrost (fun _ => ?_) fun _ => .refl s
  split
  · exact .refl s
  · exact .refl s
  · exact answer_ite_keepsDefrost (fun _ => s.keepsDefrost_setDoor d rfl) fun _ => s.keepsDefrost_setDoor d rfl

theorem doorClose_keepsDefrost (door : Byte) (s : State) : s.KeepsDefrost (doorClose door s).state := by
  refine onEnabledDoor_keepsDefrost fun d => ?_
  dsimp only
  split
  · exact s.keepsDefrost_setDoor d rfl
  · exact s.keepsDefrost_setDoor d rfl
  all_goals exact .refl s

theorem doorRelease_keepsDefrost (door : Byte) (s : State) : s.KeepsDefrost (doorRelease door s).state :=
  onEnabledDoor_keepsDefrost fun d => answer_ite_keepsDefrost (fun _ => answer_ite_keepsDefrost (fun _ => .refl s) fun _ =>
    done_keepsDefrost ((shipAboard_keepsDefrost false d s).doorRecord d)) fun _ => .refl s

theorem doorOverride_keepsDefrost (door on : Byte) (s : State) : s.KeepsDefrost (doorOverride door on s).state := by
  refine onEnabledDoor_keepsDefrost fun d => ?_
  split
  · exact .refl s
  · exact done_keepsDefrost (State.KeepsDefrost.doorRecord (.refl s) d)

theorem doorClearFault_keepsDefrost (door : Byte) (s : State) : s.KeepsDefrost (doorClearFault door s).state := by
  refine onEnabledDoor_keepsDefrost fun d => answer_ite_keepsDefrost (fun _ => answer_ite_keepsDefrost (fun _ => .refl s) fun _ => ?_)
    fun _ => .refl s
  have hlost : s.KeepsDefrost (if (s.door d).tp.level = true then s else writeOff d s) := .ite (.refl s) (writeOff_keepsDefrost d s)
  have hcleared := (hlost.trans (State.keepsDefrost_modifyDoor _ d (f := Door.unfaulted))).returned .doorFault (.door d)
  exact hcleared.trans (.of_steady (deriveDoor_steady d _) (deriveDoor_frame d _) (by decide))

theorem reportTrailerTemperature_keepsDefrost (door : Byte) (temperature : Word16) (s : State) :
    s.KeepsDefrost (reportTrailerTemperature door temperature s).state :=
  onEnabledDoor_keepsDefrost fun d => answer_ite_keepsDefrost
    (fun _ => doneClamped_keepsDefrost (State.KeepsDefrost.doorRecord (.refl s) d) _) fun _ => .refl s

theorem readDoor_keepsDefrost (door : Byte) (s : State) : s.KeepsDefrost (readDoor door s).state :=
  onDoor_keepsDefrost fun d => answer_keepsDefrost (State.KeepsDefrost.doorRecord (.refl s) d) _ _

theorem readRoomSnapshot_keepsDefrost (p : Port) (part : Byte) (s : State) :
    s.KeepsDefrost (readRoomSnapshot p part s).state := by
  unfold readRoomSnapshot
  split
  · exact .refl s
  · split
    · exact .refl s
    · exact .of_same rfl rfl rfl rfl rfl rfl rfl

theorem latchRooms_keepsDefrost (p : Port) (s : State) : s.KeepsDefrost (latchRooms p s).state := by
  unfold latchRooms
  dsimp only
  split
  · exact .of_same rfl rfl rfl rfl rfl rfl rfl
  · exact answer_ite_keepsDefrost (fun _ => .of_same rfl rfl rfl rfl rfl rfl rfl) fun _ => .refl s

theorem takeAlarm_keepsDefrost (p : Port) (s : State) : s.KeepsDefrost (takeAlarm p s).state := by
  unfold takeAlarm
  split
  · exact .refl s
  · exact .of_same rfl rfl rfl rfl rfl rfl rfl

theorem endAlarm_keepsDefrost (p : Port) (s : State) : s.KeepsDefrost (endAlarm p s).state := by
  unfold endAlarm
  dsimp only
  split
  · exact .refl s
  · exact .of_same rfl rfl rfl rfl rfl rfl rfl

theorem setAlarmRoutes_keepsDefrost (p : Port) (code routed : Byte) (s : State) :
    s.KeepsDefrost (setAlarmRoutes p code routed s).state := by
  unfold setAlarmRoutes
  split
  · exact .of_same rfl rfl rfl rfl rfl rfl rfl
  · exact .refl s

theorem State.keepsDefrost_setJournal (s : State) (j : Journal) : s.KeepsDefrost (s.setJournal j) :=
  .of_same rfl rfl rfl rfl rfl rfl rfl

theorem releaseJournal_keepsDefrost (count : Word16) (s : State) : s.KeepsDefrost (releaseJournal count s).state :=
  .ite ((s.keepsDefrost_setJournal _).trans (.of_frame (testJournalReturn_frame _) (by decide))) (s.keepsDefrost_setJournal _)

theorem setJournalThreshold_keepsDefrost (threshold : Word16) (s : State) :
    s.KeepsDefrost (setJournalThreshold threshold s).state :=
  .ite (((s.keepsDefrost_setJournal _).trans (.of_frame (testJournalRaise_frame _) (by decide))).trans
    (.of_frame (testJournalReturn_frame _) (by decide))) (s.keepsDefrost_setJournal _)

theorem setProbeCalibration_keepsDefrost (channel : Byte) (gain offset : Word16) (s : State) :
    s.KeepsDefrost (setProbeCalibration channel gain offset s).state := by
  unfold setProbeCalibration
  split
  · exact .refl s
  · exact .of_same rfl rfl rfl rfl rfl rfl rfl

theorem configureProbe_keepsDefrost (channel role room : Byte) (s : State) :
    s.KeepsDefrost (configureProbe channel role room s).state := by
  unfold configureProbe
  split
  · exact answer_ite_keepsDefrost (fun _ => answer_ite_keepsDefrost (fun _ => .refl s) fun _ => .of_same rfl rfl rfl rfl rfl rfl rfl)
      fun _ => .refl s
  · exact .refl s

theorem configureClass_keepsDefrost (cls : Byte) (threshold budget warn transit defrost : Word16) (s : State) :
    s.KeepsDefrost (configureClass cls threshold budget warn transit defrost s).state := by
  unfold configureClass
  split
  · exact .refl s
  · exact answer_ite_keepsDefrost (fun _ => .of_same rfl rfl rfl rfl rfl rfl rfl) fun _ => .refl s

theorem limitChanged_keepsDefrost (r : Fin 8) (s : State) : s.KeepsDefrost (limitChanged r s) :=
  (State.KeepsDefrost.of_frame (evaluateRoom_frame r s) (by decide)).trans (testRecovery_keepsDefrost r _)

theorem setRoomLimits_keepsDefrost (room : Byte) (upper lower highDelay lowDelay weight : Word16) (s : State) :
    s.KeepsDefrost (setRoomLimits room upper lower highDelay lowDelay weight s).state :=
  onRoom_keepsDefrost fun r => (s.keepsDefrost_modifyRoom r _).trans (limitChanged_keepsDefrost r _)

theorem setProductCeiling_keepsDefrost (room present : Byte) (ceiling : Word16) (s : State) :
    s.KeepsDefrost (setProductCeiling room present ceiling s).state := by
  refine onRoom_keepsDefrost fun r => ?_
  split
  · exact .refl s
  · exact (s.keepsDefrost_modifyRoom r _).trans (limitChanged_keepsDefrost r _)
  · exact (s.keepsDefrost_modifyRoom r _).trans (limitChanged_keepsDefrost r _)

/-! ### The defrost requests (R67, R72 to R74, R80, R83, R87) -/

theorem setFrostParameters_keepsDefrost (room baseRate : Byte) (threshold hardLimit : Word16) (s : State) :
    s.KeepsDefrost (setFrostParameters room baseRate threshold hardLimit s).state := by
  refine onRoom_keepsDefrost fun r => ?_
  dsimp only
  have hset := s.keepsDefrost_modifyDefrost r (f := fun x =>
    { x with
      baseRate := baseRate.toNat, threshold := forceNat 1 65535 threshold.toNat
      hardLimit := max (forceNat 1 65535 hardLimit.toNat) (forceNat 1 65535 threshold.toNat) })
  have htested := (hset.trans (testFrostDue_keepsDefrost r _)).trans (testForced_keepsDefrost r _)
  exact answer_keepsDefrost (.ite (.ite htested.evaluated htested) hset) _ _

theorem setDefrostTimes_keepsDefrost (room : Byte) (heatingLimit dripTime recoveryLimit terminate grantHold : Word16) (s : State) :
    s.KeepsDefrost (setDefrostTimes room heatingLimit dripTime recoveryLimit terminate grantHold s).state :=
  onRoom_keepsDefrost fun r => doneClamped_keepsDefrost (State.KeepsDefrost.defrostRecord (.refl s) r) _

theorem requestDefrost_keepsDefrost (room : Byte) (s : State) : s.KeepsDefrost (requestDefrost room s).state := by
  refine onRoom_keepsDefrost fun r => ?_
  split
  case h_1 hstate =>
    refine State.KeepsDefrost.evaluated ⟨fun h => ?_⟩
    refine h.joined (r := r) (x := { s.defrost r with state := .queued }) (remaining := s.remainingCapacity) ?_ rfl (fun _ => ?_) nofun
    · rw [hstate]
      rfl
    · rw [Defrost.taken_eq_zero hstate (by decide), Defrost.taken_eq_zero (state := .queued) rfl (by decide)]
  all_goals exact .refl s

theorem withdrawDefrost_keepsDefrost (room : Byte) (s : State) : s.KeepsDefrost (withdrawDefrost room s).state := by
  have hqueued : ∀ r, (s.defrost r).state.waits = true → s.KeepsDefrost (evaluateQueue
      { s.modifyDefrost r fun x => { x with state := .idle } with defrostQueue := s.defrostQueue.erase r }) := fun r hwaits => by
    refine State.KeepsDefrost.evaluated ⟨fun h => ?_⟩
    refine h.left (r := r) (x := { s.defrost r with state := .idle }) (remaining := s.remainingCapacity) rfl (fun _ => ?_) nofun
    rw [Defrost.taken_of_waits hwaits, Defrost.taken_eq_zero (state := .idle) rfl (by decide)]
  refine onRoom_keepsDefrost fun r => ?_
  split
  case h_1 hstate => exact hqueued r (by rw [hstate]; rfl)
  case h_2 hstate => exact hqueued r (by rw [hstate]; rfl)
  case h_3 hstate =>
    have hlapsed : s.KeepsDefrost ((s.modifyDefrost r fun x =>
        { x with state := .idle, phaseTimer := .stopped, forcedCycle := false }).returnLoad r) :=
      State.keepsDefrost_released hstate (by decide) (by exact .inl rfl)
    exact answer_keepsDefrost (hlapsed.trans (givePermits_keepsDefrost r _)).evaluated _ _
  all_goals exact .refl s

/-- A grant that goes on to heating keeps its load, its forced cycle mark and its bar to moves (R80). -/
theorem State.keepsDefrost_heating {s : State} {r : Fin 8} {x : Defrost} (hbefore : (s.defrost r).state = .granted)
    (hafter : x.state = .heating) (hload : x.heaterLoad = (s.defrost r).heaterLoad)
    (hcycle : x.forcedCycle = (s.defrost r).forcedCycle) : s.KeepsDefrost (s.setDefrost r x) := by
  refine ⟨fun h => h.restated (remaining := s.remainingCapacity) ?_ (fun _ => ?_) fun _ hclear => ?_⟩
  · rw [hafter, hbefore]
    rfl
  · rw [Defrost.taken_eq_load hbefore (by decide), Defrost.taken_eq_load hafter (by decide), hload]
  · obtain ⟨-, -, -, hblock, -⟩ := h
    exact hblock r (by rw [hbefore]; rfl) (hcycle ▸ hclear)

theorem defrostBegun_keepsDefrost (room : Byte) (s : State) : s.KeepsDefrost (defrostBegun room s).state := by
  refine onRoom_keepsDefrost fun r => answer_ite_keepsDefrost (fun hstate => ?_) fun _ => .refl s
  have hheating : s.KeepsDefrost (s.setDefrost r { s.defrost r with
      state := .heating, terminateMark := false, phaseTimer := .start (s.defrost r).heatingLimit }) :=
    State.keepsDefrost_heating hstate rfl rfl rfl
  exact answer_keepsDefrost (State.KeepsDefrost.trans (.ite ((hheating.defrostRecord r).returned _ _) hheating)
    (State.keepsDefrost_modifyRoom _ r _)) _ _

theorem heatingEnded_keepsDefrost (room cause : Byte) (s : State) : s.KeepsDefrost (heatingEnded room cause s).state := by
  refine onRoom_keepsDefrost fun r => ?_
  split
  · exact .refl s
  · next c _ =>
    refine answer_ite_keepsDefrost (fun hstate => ?_) fun _ => .refl s
    have hended : s.KeepsDefrost ((s.setDefrost r { s.defrost r with
        state := .drip, phaseTimer := .stopped, forcedMark := false, lastTermination := c }).returnLoad r) :=
      State.keepsDefrost_released hstate (by decide) (by exact .inr ⟨rfl, rfl⟩)
    have hindex := (State.KeepsDefrost.ite (p := (s.defrost r).overrunFlag = true) ((hended.defrostRecord r (f := fun x =>
      { x with overrunFlag := false, overrunUnposted := false })).returned .defrostOverrun (.room r)) hended).defrostRecord r
      (f := fun x => { x with frostIndex := 0 })
    exact answer_keepsDefrost ((State.KeepsDefrost.ite ((hindex.defrostRecord r).returned _ _) hindex).defrostRecord r).evaluated _ _

theorem inhibitDefrost_keepsDefrost (room : Byte) (seconds : Word16) (s : State) :
    s.KeepsDefrost (inhibitDefrost room seconds s).state :=
  onRoom_keepsDefrost fun r => .ite (.ite (s.keepsDefrost_setDefrost r).evaluated (s.keepsDefrost_setDefrost r))
    (s.keepsDefrost_setDefrost r)

/-! ### Pallets and moves (R88, R97 to R99, R116 to R126) -/

theorem enterPallet_keepsDefrost (tag : Word32) (cls door : Byte) (s : State) : s.KeepsDefrost (enterPallet tag cls door s).state := by
  unfold enterPallet
  split
  · refine answer_ite_keepsDefrost (fun _ => .refl s) fun _ => answer_ite_keepsDefrost (fun _ => .refl s) fun _ =>
      answer_ite_keepsDefrost (fun _ => .refl s) fun _ => ?_
    split
    · exact .refl s
    · exact answer_ite_keepsDefrost (fun _ => .of_same rfl rfl rfl rfl rfl rfl rfl) fun _ => .refl s
  · exact .refl s

theorem rejectPallet_keepsDefrost (tag : Word32) (s : State) : s.KeepsDefrost (rejectPallet tag s).state := by
  refine answer_ite_keepsDefrost (fun _ => .refl s) fun _ => ?_
  split
  · exact .refl s
  · exact answer_ite_keepsDefrost (fun _ => .refl s) fun _ => .of_frame (freePallet_frame _ _ _ s) (by decide)

/-- A room that holds permits refuses moves (R88). -/
theorem DefrostState.refusesMoves_of_holds {x : DefrostState} (h : x.holdsPermits = true) : x.refusesMoves = true := by
  cases x with
  | granted | heating | drip => rfl
  | _ => cases h

/-- A move permitted into an open end bars no room that holds permits (R88). -/
theorem State.keepsDefrost_permitted {s : State} (hmode : s.mode = .run) {dest : Place} (hopen : s.endOpen dest = true) (m : Fin 32)
    {x : Move} (hdest : x.destination = some dest) : s.KeepsDefrost (s.setMove m x) := by
  refine ⟨fun ⟨hnodup, hqueue, hload, hmoves, _⟩ => ⟨hnodup, hqueue, hload, fun r hholds hcycle => ?_, fun hsetup => ?_⟩⟩
  · refine Bool.eq_false_iff.mpr fun hblock => ?_
    obtain ⟨i, hlive, p, hp, hroom⟩ := (State.movesBlock_eq_true _ r).mp hblock
    rw [State.move_setMove] at hlive hp
    have hroom : s.mapsTo p = some r := hroom
    split at hp
    · rw [hdest] at hp
      cases hp
      rw [State.endOpen, hroom] at hopen
      have hrefuses : (s.defrost r).state.refusesMoves = true := DefrostState.refusesMoves_of_holds hholds
      dsimp only at hopen
      rw [hrefuses] at hopen
      cases hopen
    · next hi =>
      rw [if_neg hi] at hlive
      exact Bool.eq_false_iff.mp (hmoves r hholds hcycle) ((s.movesBlock_eq_true r).mpr ⟨i, hlive, p, hp, hroom⟩)
  · exact absurd (hmode.symm.trans hsetup) nofun

theorem requestMoveTo_keepsDefrost (q : Fin 256) (origin destination : Place) {s : State} (hmode : s.mode = .run) :
    s.KeepsDefrost (requestMoveTo q origin destination s).state := by
  refine answer_ite_keepsDefrost (fun _ => .refl s) fun _ => answer_ite_keepsDefrost (fun _ => .refl s) fun hopen =>
    answer_ite_keepsDefrost (fun _ => .refl s) fun _ => answer_ite_keepsDefrost (fun _ => .refl s) fun _ => ?_
  have hopen : s.endOpen destination = true := by simpa using hopen
  split
  · exact .refl s
  · next m _ =>
    refine answer_ite_keepsDefrost (fun _ => ?_) fun _ => .refl s
    exact (State.keepsDefrost_permitted hmode hopen m (by exact rfl)).trans (.of_same rfl rfl rfl rfl rfl rfl rfl)

theorem requestMove_keepsDefrost (tag : Word32) (destination : Byte) {s : State} (hmode : s.mode = .run) :
    s.KeepsDefrost (requestMove tag destination s).state := by
  refine answer_ite_keepsDefrost (fun _ => .refl s) fun _ => ?_
  split
  · exact .refl s
  · refine answer_ite_keepsDefrost (fun _ => .refl s) fun _ => ?_
    split
    · exact answer_ite_keepsDefrost (fun _ => .refl s) fun _ => requestMoveTo_keepsDefrost _ _ _ hmode
    all_goals exact .refl s

theorem pick_keepsDefrost (handle : Byte) (s : State) : s.KeepsDefrost (pick handle s).state := by
  unfold pick
  split
  · exact .refl s
  · next m _ =>
    refine answer_ite_keepsDefrost (fun hstate => ?_) fun _ => .refl s
    have hlive : (s.move m).live = true := by rw [Move.live, hstate]; rfl
    split
    · next q _ =>
      have hpicked : s.KeepsDefrost (s.modifyPallet q Pallet.picked) := .of_same rfl rfl rfl rfl rfl rfl rfl
      dsimp only
      exact hpicked.trans (State.keepsDefrost_setMove _ m (by exact fun _ => ⟨hlive, rfl⟩))
    · exact s.keepsDefrost_setMove m (by exact fun _ => ⟨hlive, rfl⟩)

theorem put_keepsDefrost (handle : Byte) (actual : Option Byte) (s : State) : s.KeepsDefrost (put handle actual s).state := by
  unfold put
  split
  · exact .refl s
  · refine answer_ite_keepsDefrost (fun _ => ?_) fun _ => .refl s
    split
    · exact .refl s
    · exact endMove_keepsDefrost _ _ _ _ s

theorem cancelMove_keepsDefrost (handle : Byte) (location : Option Byte) (s : State) :
    s.KeepsDefrost (cancelMove handle location s).state := by
  unfold cancelMove
  split
  · exact .refl s
  · refine answer_ite_keepsDefrost (fun _ => endMove_keepsDefrost _ _ _ _ s) fun _ => ?_
    split
    · exact endMove_keepsDefrost _ _ _ _ s
    · split
      · exact .refl s
      · exact endMove_keepsDefrost _ _ _ _ s

/-! ### A request performed -/

/-- The requests that RUN alone must have for the invariant: no move is live in SETUP. -/
def permitsMoves : Request → Bool
  | .requestMove .. => true
  | _ => false

/-- A request that the mode takes: none of SETUP alone in RUN, and no move permitted in SETUP (R163). -/
structure FitsMode (r : Request) (s : State) : Prop where
  run : s.mode = .run → setupOnly r = false
  setup : s.mode = .setup → permitsMoves r = false

section
variable {r : Request} {s : State} (h : FitsMode r s)
include h

theorem FitsMode.mode_setup (hr : setupOnly r = true) : s.mode = .setup := by
  cases hmode : s.mode with
  | setup => rfl
  | run => exact absurd (hr.symm.trans (h.run hmode)) Bool.false_ne_true.symm

theorem FitsMode.mode_run (hr : permitsMoves r = true) : s.mode = .run := by
  cases hmode : s.mode with
  | run => rfl
  | setup => exact absurd (hr.symm.trans (h.setup hmode)) Bool.false_ne_true.symm

end

theorem perform_keepsDefrost (p : Port) {r : Request} {s : State} (h : FitsMode r s) : s.KeepsDefrost (perform p r s).state := by
  unfold perform
  cases r with
  | readStatus part => exact (readStatus_state p part s).symm ▸ .refl s
  | readClock => exact .refl s
  | readRoom room => exact onRoom_keepsDefrost fun _ => .refl s
  | latchRooms => exact latchRooms_keepsDefrost p s
  | readRoomSnapshot part => exact readRoomSnapshot_keepsDefrost p part s
  | readDoor door => exact readDoor_keepsDefrost door s
  | readPallet tag => exact (readPallet_state tag s).symm ▸ .refl s
  | readProbe channel => exact (readProbe_state channel s).symm ▸ .refl s
  | takeAlarm => exact takeAlarm_keepsDefrost p s
  | endAlarm => exact endAlarm_keepsDefrost p s
  | setAlarmRoutes code routed => exact setAlarmRoutes_keepsDefrost p code routed s
  | setAlarmFloor floor => exact .of_same rfl rfl rfl rfl rfl rfl rfl
  | setupComplete => exact setupComplete_keepsDefrost p s
  | warmRestart => exact done_keepsDefrost (restartPart_keepsDefrost s)
  | configureDoor => exact configureDoor_keepsDefrost (h.mode_setup rfl) _ _ _ _ _ _ _
  | setDoorLines => exact setDoorLines_keepsDefrost _ _ _ _ _ _ s
  | setDoorTimes door sl bg rt => exact setDoorTimes_keepsDefrost door sl bg rt s
  | doorArmSeal door => exact doorArmSeal_keepsDefrost door s
  | doorOpenPermit door => exact doorOpenPermit_keepsDefrost door s
  | doorClose door => exact doorClose_keepsDefrost door s
  | doorRelease door => exact doorRelease_keepsDefrost door s
  | doorOverride door on => exact doorOverride_keepsDefrost door on s
  | doorClearFault door => exact doorClearFault_keepsDefrost door s
  | reportTrailerTemperature door temperature => exact reportTrailerTemperature_keepsDefrost door temperature s
  | configureRoom => exact configureRoom_keepsDefrost (h.mode_setup rfl) _ _ _
  | configureProbe => exact configureProbe_keepsDefrost _ _ _ s
  | setProbeCalibration channel gain offset => exact setProbeCalibration_keepsDefrost channel gain offset s
  | setRoomLimits room upper lower hd ld weight => exact setRoomLimits_keepsDefrost room upper lower hd ld weight s
  | setFrostParameters room rate threshold limit => exact setFrostParameters_keepsDefrost room rate threshold limit s
  | setDefrostTimes room hl dt rl tt gh => exact setDefrostTimes_keepsDefrost room hl dt rl tt gh s
  | setHeaterCapacity => exact setHeaterCapacity_keepsDefrost (h.mode_setup rfl) _
  | requestDefrost room => exact requestDefrost_keepsDefrost room s
  | withdrawDefrost room => exact withdrawDefrost_keepsDefrost room s
  | defrostBegun room => exact defrostBegun_keepsDefrost room s
  | heatingEnded room cause => exact heatingEnded_keepsDefrost room cause s
  | configureClass => exact configureClass_keepsDefrost _ _ _ _ _ _ s
  | setExposureTick => exact answer_ite_keepsDefrost (fun _ => .of_same rfl rfl rfl rfl rfl rfl rfl) fun _ => .refl s
  | setMoveTimes pl tl => exact .of_same rfl rfl rfl rfl rfl rfl rfl
  | setJournalThreshold threshold => exact setJournalThreshold_keepsDefrost threshold s
  | enterPallet tag cls door => exact enterPallet_keepsDefrost tag cls door s
  | rejectPallet tag => exact rejectPallet_keepsDefrost tag s
  | requestMove tag destination => exact requestMove_keepsDefrost tag destination (h.mode_run rfl)
  | pick handle => exact pick_keepsDefrost handle s
  | put handle actual => exact put_keepsDefrost handle actual s
  | cancelMove handle location => exact cancelMove_keepsDefrost handle location s
  | readJournal count => exact (readJournal_state count s).symm ▸ .refl s
  | releaseJournal count => exact releaseJournal_keepsDefrost count s
  | setProductCeiling room present ceiling => exact setProductCeiling_keepsDefrost room present ceiling s
  | inhibitDefrost room seconds => exact inhibitDefrost_keepsDefrost room seconds s

/-- A row that SETUP takes parses no request for a move (R163). -/
theorem requestTable_permitsMoves : ∀ row ∈ requestTable,
    row.setup = .wrongMode ∨ ∀ l, (row.parse l).all (fun r => !permitsMoves r) = true := by
  simp only [requestTable, List.forall_mem_cons, reduceCtorEq, false_or, true_or, true_and, List.not_mem_nil, false_imp_iff,
    implies_true, and_true]
  and_intros
  all_goals
    intro l
    split <;> rfl

/-- A request that is taken fits the mode (R161, R163). -/
theorem State.fitsMode_of_takes {s : State} {p : Port} {code : Byte} {row : RequestRow} (hrow : requestRow code = some row)
    (htakes : s.takes p row = true) {l : List Byte} {r : Request} (hr : row.parse l = some r) : FitsMode r s := by
  refine ⟨fun hmode => setupOnly_of_run hmode hrow htakes hr, fun hmode => ?_⟩
  obtain hwrong | hparse := requestTable_permitsMoves row (requestRow_mem hrow)
  · rw [State.takes, hmode] at htakes
    dsimp only at htakes
    rw [hwrong] at htakes
    cases htakes
  · simpa [hr] using hparse l

/-! ### Every command -/

theorem answerFrame_keepsDefrost (p : Port) (f : Frame) (s : State) : s.KeepsDefrost (answerFrame p f s).state := by
  unfold answerFrame
  split
  · exact .refl s
  · next row hrow =>
    unfold answerRow
    refine answer_ite_keepsDefrost (fun _ => ?_) fun _ => .refl s
    split
    · exact .refl s
    · next r hr =>
      exact answer_ite_keepsDefrost (fun htakes => perform_keepsDefrost p (State.fitsMode_of_takes hrow htakes hr)) fun _ => .refl s

theorem State.keepsDefrost_setPort (s : State) (p : Port) (x : PortControl) : s.KeepsDefrost (s.setPort p x) :=
  .of_same rfl rfl rfl rfl rfl rfl rfl

theorem takeFrame_keepsDefrost (p : Port) (f : Frame) (s : State) : s.KeepsDefrost (takeFrame p f s) :=
  ((settleTimers_keepsDefrost s).trans (answerFrame_keepsDefrost p f _)).trans (State.keepsDefrost_setPort _ p _)

theorem frameCompletes_keepsDefrost (p : Port) (f : Frame) (s : State) : s.KeepsDefrost (frameCompletes p f s) := by
  unfold frameCompletes
  split
  · exact takeFrame_keepsDefrost p f s
  · exact s.keepsDefrost_setPort p _
  · exact s.keepsDefrost_setPort p _

theorem frameArrives_keepsDefrost (p : Port) (f : Frame) (s : State) : s.KeepsDefrost (frameArrives p f s) :=
  .ite (.refl s) ((s.keepsDefrost_setPort p _).trans (frameCompletes_keepsDefrost p f _))

theorem unknownArrives_keepsDefrost (p : Port) (code tag : Byte) (payload : List Byte) (s : State) :
    s.KeepsDefrost (unknownArrives p code tag payload s) := .ite (frameArrives_keepsDefrost p _ s) (.refl s)

theorem receiveByte_keepsDefrost (p : Port) (b : Byte) (stopMark : Bool) (s : State) :
    s.KeepsDefrost (receiveByte p b stopMark s) := by
  unfold receiveByte
  dsimp only
  refine .ite (.refl s) (.ite (s.keepsDefrost_setPort p _) ?_)
  split
  · exact s.keepsDefrost_setPort p _
  · exact (s.keepsDefrost_setPort p _).trans (frameCompletes_keepsDefrost p _ _)

theorem endReply_keepsDefrost (p : Port) (s : State) : s.KeepsDefrost (endReply p s) := by
  unfold endReply
  dsimp only
  split
  · exact .refl s
  · exact s.keepsDefrost_setPort p _
  · exact (s.keepsDefrost_setPort p _).trans (takeFrame_keepsDefrost p _ _)

theorem resetLink_keepsDefrost (p : Port) (s : State) : s.KeepsDefrost (resetLink p s) :=
  .ite (.refl s) ((s.keepsDefrost_setPort p _).trans (State.keepsDefrost_setAlarms _ _))

theorem endBreak_keepsDefrost (p : Port) (s : State) : s.KeepsDefrost (endBreak p s) :=
  .ite (s.keepsDefrost_setPort p _) (.refl s)

/-- At a cold reset every room is IDLE, the queue empty and no move live. -/
theorem reset_keepsDefrost (s : State) : s.KeepsDefrost (resetPart s) := by
  have hdefrost : ∀ r, (resetPart s).defrost r = .initial := fun r => Vector.getElem_replicate _
  have hmove : ∀ m, (resetPart s).move m = .empty 0 := fun m => Vector.getElem_replicate _
  refine ⟨fun _ => ⟨List.nodup_nil, fun r => ?_, nofun, fun r hholds => ?_, fun _ m => ?_⟩⟩
  · rw [hdefrost]
    exact iff_of_false List.not_mem_nil (by decide)
  · rw [hdefrost] at hholds
    cases hholds
  · rw [hmove]
    rfl

theorem exec_keepsDefrost {c : Instr} {s t : State} (h : exec c s = .next t) : s.KeepsDefrost t := by
  cases c
  case coldReset => cases h; exact reset_keepsDefrost s
  case secondTick order => cases h; exact tickSecond_keepsDefrost order s
  case sampleStrobe tp pc sm =>
    cases h; exact .of_steady (sampleStrobe_steady tp pc sm s) (sampleStrobe_frame tp pc sm s) (by decide)
  case debouncedChange d i =>
    cases h; exact .of_steady (debouncedChange_steady d i s) (debouncedChange_frame d i s) (by decide)
  case exposureTick first => cases h; exact tickExposure_keepsDefrost first s
  case converterTransactionComplete bits => cases h; exact .of_frame (completeTransaction_frame bits s) (by decide)
  case converterReplyLimitExpiry => cases h; exact .of_frame (expireReplyLimit_frame s) (by decide)
  case roundComplete first => cases h; exact completeRound_keepsDefrost first s
  case highTimerExpiry r => cases h; exact .of_frame (expireHigh_frame r s) (by decide)
  case lowTimerExpiry r => cases h; exact .of_frame (expireLow_frame r s) (by decide)
  case sealTimerExpiry d => cases h; exact .of_steady (expireSeal_steady d s) (expireSeal_frame d s) (by decide)
  case breachGraceExpiry d => cases h; exact .of_steady (expireBreach_steady d s) (expireBreach_frame d s) (by decide)
  case releaseTimerExpiry d => cases h; exact .of_steady (expireRelease_steady d s) (expireRelease_frame d s) (by decide)
  case grantHoldExpiry r => cases h; exact expireGrantHold_keepsDefrost r s
  case heatingLimitExpiry r => cases h; exact expireHeating_keepsDefrost r s
  case dripTimeExpiry r => cases h; exact expireDrip_keepsDefrost r s
  case recoveryLimitExpiry r => cases h; exact expireRecovery_keepsDefrost r s
  case inhibitExpiry r => cases h; exact expireInhibit_keepsDefrost r s
  case lapseTimerExpiry m => cases h; exact expireLapse_keepsDefrost m s
  case transitTimerExpiry m => cases h; exact expireTransit_keepsDefrost m s
  case byteReceived p b stopMark => cases h; exact receiveByte_keepsDefrost p b stopMark s
  case unknownRequest p code tag payload => cases h; exact unknownArrives_keepsDefrost p code tag payload s
  case frameGapTimeout p => cases h; exact s.keepsDefrost_setPort p _
  case replySent p => cases h; exact endReply_keepsDefrost p s
  case linkReset p => cases h; exact resetLink_keepsDefrost p s
  case rxReturnToMark p => cases h; exact endBreak_keepsDefrost p s
  all_goals
    cases h
    exact frameArrives_keepsDefrost _ _ s

/-- A step runs the first command that waits, or stays. -/
theorem step_keepsDefrost {s t : State} (h : step s = .next t) : s.KeepsDefrost t := by
  unfold step at h
  split at h
  · cases h
    exact .refl s
  · next c rest _ =>
    exact State.KeepsDefrost.trans (t := { s with pending := rest }) (.of_same rfl rfl rfl rfl rfl rfl rfl) (exec_keepsDefrost h)

/-- Settles O17: every command keeps queue, capacity and moves in agreement; in RUN the loads are part of the heater capacity. -/
theorem stepKeepsHeaterCapacity : Obligations.StepKeepsHeaterCapacity := by
  intro s t h hstep
  have hkept := (step_keepsDefrost hstep).kept h
  refine ⟨hkept, fun hmode => ?_⟩
  obtain ⟨-, -, hload, -⟩ := hkept
  have hsum := hload hmode
  omega

end Sys2Proof.Machine
end

section
/-! PROOFS. O59: ENTER PALLET and REJECT PALLET in RUN (R97, R98, R99), the record written with its test (R135, R139), and the
journal accounting (R136). -/

namespace Sys2Proof.Machine

set_option Elab.async false

/-! ### The accounting (R136) -/

theorem countWhere_eq_length {n : Nat} (p : Fin n → Bool) : countWhere n p = ((List.finRange n).filter p).length :=
  List.countP_eq_length_filter

theorem State.accounting_eq (s : State) : s.accounting
    = s.journal.held + ((List.finRange 256).filter fun q => (s.pallet q).live).length
      + ((List.finRange 32).filter fun m => (s.move m).live).length := by
  rw [State.accounting, State.livePallets, State.liveMoves, countWhere_eq_length, countWhere_eq_length]

theorem State.admits_iff (s : State) : s.admits = true ↔ s.accounting < 512 := decide_eq_true_iff

/-! ### ENTER PALLET: the checks in order (R98) -/

theorem enterPallet_badIndex {cls door : Byte} (h : 8 ≤ cls.toNat ∨ 24 ≤ door.toNat) (pallet : Word32) (s : State) :
    enterPallet pallet cls door s = ⟨s, .badArgument, []⟩ := by
  unfold enterPallet
  obtain hcls | hdoor := h
  · rw [index?_of_le hcls]
    rfl
  · rw [index?_of_le hdoor]
    cases index? 8 cls <;> rfl

/-- The record of a pallet that enters (R98). -/
def Pallet.entering (pallet : Word32) (c : Fin 8) (d : Fin 24) (now : Word32) : Pallet :=
  { Pallet.empty with state := .inbound, tag := pallet, cls := c, location := .at (.trailer d), entryTime := now }

section
variable {s : State} {pallet : Word32} {c : Fin 8} {d : Fin 24}

theorem enterPallet_ofNat (s : State) (pallet : Word32) (c : Fin 8) (d : Fin 24) :
    enterPallet pallet (BitVec.ofNat 8 c) (BitVec.ofNat 8 d) s
    = if pallet = 0 then ⟨s, .badArgument, []⟩
      else if (!(s.door d).enabled) = true ∨ (s.door d).state ≠ .working then ⟨s, .doorState, []⟩
      else if (s.findPallet pallet).isSome = true then ⟨s, .duplicate, []⟩
      else match s.freeSlot with
        | none => ⟨s, .full, []⟩
        | some q =>
          if s.admits = true then ⟨s.setPallet q (.entering pallet c d s.clock), .ok, value8 q⟩ else ⟨s, .journalFull, []⟩ := by
  rw [enterPallet, index?_ofNat (by decide), index?_ofNat (by decide)]
  rfl

section
variable (htag : pallet ≠ 0)
include htag

theorem enterPallet_doorState (h : (s.door d).enabled = false ∨ (s.door d).state ≠ .working) :
    enterPallet pallet (BitVec.ofNat 8 c) (BitVec.ofNat 8 d) s = ⟨s, .doorState, []⟩ :=
  (enterPallet_ofNat s pallet c d).trans ((if_neg htag).trans (if_pos (h.imp_left fun hoff => by rw [hoff]; rfl)))

section
variable (henabled : (s.door d).enabled = true) (hworking : (s.door d).state = .working)
include henabled hworking

theorem enterPallet_working : enterPallet pallet (BitVec.ofNat 8 c) (BitVec.ofNat 8 d) s
    = if (s.findPallet pallet).isSome = true then ⟨s, .duplicate, []⟩
      else match s.freeSlot with
        | none => ⟨s, .full, []⟩
        | some q =>
          if s.admits = true then ⟨s.setPallet q (.entering pallet c d s.clock), .ok, value8 q⟩ else ⟨s, .journalFull, []⟩ :=
  (enterPallet_ofNat s pallet c d).trans ((if_neg htag).trans (if_neg (by simp [henabled, hworking])))

theorem enterPallet_duplicate (h : ∃ q : Fin 256, (s.pallet q).live = true ∧ (s.pallet q).tag = pallet) :
    enterPallet pallet (BitVec.ofNat 8 c) (BitVec.ofNat 8 d) s = ⟨s, .duplicate, []⟩ := by
  obtain ⟨q, hlive, hq⟩ := h
  have hfound : (s.findPallet pallet).isSome = true := lowest_isSome.mpr ⟨q, by simp [hlive, hq]⟩
  rw [enterPallet_working htag henabled hworking, if_pos hfound]

section
variable (hunique : ∀ q : Fin 256, (s.pallet q).live = true → (s.pallet q).tag ≠ pallet)
include hunique

theorem enterPallet_unique : enterPallet pallet (BitVec.ofNat 8 c) (BitVec.ofNat 8 d) s
    = match s.freeSlot with
      | none => ⟨s, .full, []⟩
      | some q =>
        if s.admits = true then ⟨s.setPallet q (.entering pallet c d s.clock), .ok, value8 q⟩ else ⟨s, .journalFull, []⟩ := by
  rw [enterPallet_working htag henabled hworking, State.findPallet_eq_none hunique]
  rfl

theorem enterPallet_full (h : ∀ q : Fin 256, (s.pallet q).live = true) :
    enterPallet pallet (BitVec.ofNat 8 c) (BitVec.ofNat 8 d) s = ⟨s, .full, []⟩ := by
  have hnone : s.freeSlot = none := lowest_eq_none.mpr fun q => by rw [h q]; rfl
  rw [enterPallet_unique htag henabled hworking hunique, hnone]

variable {q : Fin 256} (hfree : (s.pallet q).live = false) (hlower : ∀ i : Fin 256, i < q → (s.pallet i).live = true)
include hfree hlower

theorem enterPallet_slot : enterPallet pallet (BitVec.ofNat 8 c) (BitVec.ofNat 8 d) s
    = if s.admits = true then ⟨s.setPallet q (.entering pallet c d s.clock), .ok, value8 q⟩ else ⟨s, .journalFull, []⟩ := by
  have hslot : s.freeSlot = some q :=
    lowest_eq_some.mpr ⟨by rw [hfree]; rfl, fun i hi => by rw [hlower i hi]; rfl⟩
  rw [enterPallet_unique htag henabled hworking hunique, hslot]

theorem enterPallet_journalFull (h : 512 ≤ s.accounting) :
    enterPallet pallet (BitVec.ofNat 8 c) (BitVec.ofNat 8 d) s = ⟨s, .journalFull, []⟩ := by
  rw [enterPallet_slot htag henabled hworking hunique hfree hlower]
  exact if_neg fun hadmits => Nat.not_lt.mpr h (s.admits_iff.mp hadmits)

theorem enterPallet_entered (h : s.accounting < 512) : enterPallet pallet (BitVec.ofNat 8 c) (BitVec.ofNat 8 d) s
    = ⟨s.setPallet q (.entering pallet c d s.clock), .ok, value8 q⟩ := by
  rw [enterPallet_slot htag henabled hworking hunique hfree hlower]
  exact if_pos (s.admits_iff.mpr h)

end

end

end

end

/-! ### REJECT PALLET (R99) -/

theorem rejectPallet_unknown {s : State} {pallet : Word32}
    (h : ∀ q : Fin 256, (s.pallet q).live = true → (s.pallet q).tag ≠ pallet) :
    rejectPallet pallet s = ⟨s, if pallet = 0 then .badArgument else .notFound, []⟩ := by
  rw [rejectPallet, State.findPallet_eq_none h]
  by_cases hzero : pallet = 0
  · rw [if_pos hzero, if_pos hzero]
    rfl
  · rw [if_neg hzero, if_neg hzero]
    rfl

section
variable {s : State} (hkept : s.tagsKept) {q : Fin 256} (hlive : (s.pallet q).live = true)
include hkept hlive

theorem rejectPallet_live : rejectPallet (s.pallet q).tag s
    = if (s.pallet q).handle.isSome = true ∨ (s.pallet q).state = .inTransit ∨ (s.pallet q).state = .aboard then
        ⟨s, .busy, []⟩
      else ⟨freePallet .rejected false q s, .ok, bytes32 s.journal.next⟩ := by
  have ⟨hzero, _⟩ := hkept
  rw [rejectPallet, if_neg (hzero q hlive), State.findPallet_of_live hkept hlive]
  rfl

theorem rejectPallet_busy
    (h : (s.pallet q).handle.isSome = true ∨ (s.pallet q).state = .inTransit ∨ (s.pallet q).state = .aboard) :
    rejectPallet (s.pallet q).tag s = ⟨s, .busy, []⟩ := (rejectPallet_live hkept hlive).trans (if_pos h)

theorem rejectPallet_leaves (hhandle : (s.pallet q).handle = none)
    (hstate : (s.pallet q).state = .inbound ∨ (s.pallet q).state = .placed) :
    rejectPallet (s.pallet q).tag s = ⟨freePallet .rejected false q s, .ok, bytes32 s.journal.next⟩ := by
  refine (rejectPallet_live hkept hlive).trans (if_neg ?_)
  obtain hstate | hstate := hstate <;> simp [hhandle, hstate]

end

/-! ### The Journal and the table after a record (R135, R139) -/

/-- Whether one record more brings the held count to the threshold with JOURNAL_HIGH not yet raised (R139). -/
abbrev State.fillsJournal (s : State) : Prop := s.journal.highFlag = false ∧ s.journal.threshold ≤ s.journal.held + 1

/-- The table after the JOURNAL_HIGH test of one record more (R139). -/
def State.tableAfterRecord (s : State) : AlarmTable :=
  if s.fillsJournal then (highRaise s.clock s.alarms (s.journal.held + 1)).1 else s.alarms

/-- The Journal with one record more and its test made (R135, R139). -/
def State.journalAfterRecord (s : State) (j : JournalRecord) : Journal :=
  { s.journal with
    records := s.journal.records ++ [{ j with sequence := s.journal.next }]
    held := s.journal.held + 1
    next := s.journal.next + 1
    highFlag := s.journal.highFlag || decide s.fillsJournal
    highUnposted := if s.fillsJournal then s.journal.highUnposted || !(highRaise s.clock s.alarms (s.journal.held + 1)).2
      else s.journal.highUnposted }

theorem writeRecord_journal_alarms (j : JournalRecord) (s : State) :
    (writeRecord j s).journal = s.journalAfterRecord j ∧ (writeRecord j s).alarms = s.tableAfterRecord := by
  rw [writeRecord, testJournalRaise_eq, State.journalAfterRecord, State.tableAfterRecord]
  by_cases hfull : s.fillsJournal
  · obtain ⟨hlow, hheld⟩ := hfull
    rw [if_pos ⟨hheld, hlow⟩, raiseJournalHigh_eq, if_pos ⟨hlow, hheld⟩, if_pos ⟨hlow, hheld⟩, decide_eq_true ⟨hlow, hheld⟩,
      Bool.or_true]
    exact ⟨rfl, rfl⟩
  · rw [if_neg (fun h => hfull ⟨h.2, h.1⟩), if_neg hfull, if_neg hfull, decide_eq_false hfull, Bool.or_false]
    exact ⟨rfl, rfl⟩

theorem returnIf_journal (flag : Bool) (code : AlarmCode) (subject : Subject) (s : State) :
    (returnIf flag code subject s).journal = s.journal := by
  unfold returnIf
  split <;> rfl

theorem returnIf_alarms (flag : Bool) (code : AlarmCode) (subject : Subject) (s : State) :
    (returnIf flag code subject s).alarms = if flag = true then s.alarms.return code subject else s.alarms := by
  unfold returnIf
  split <;> rfl

section
variable (kind : RecordKind) (lost : Bool) (q : Fin 256) (s : State)

theorem freePallet_journal : (freePallet kind lost q s).journal
    = s.journalAfterRecord (palletRecord kind lost (s.pallet q) s.clock) := by
  rw [freePallet_eq, ← (writeRecord_journal_alarms _ s).1]
  exact (returnIf_journal _ _ _ _).trans (returnIf_journal _ _ _ _)

theorem freePallet_alarms : (freePallet kind lost q s).alarms
    = (let warned := if (s.pallet q).warned = true then s.tableAfterRecord.return .exposureWarning (.pallet q)
        else s.tableAfterRecord
      if (s.pallet q).overBudget = true then warned.return .exposureExceeded (.pallet q) else warned) := by
  rw [freePallet_eq, ← (writeRecord_journal_alarms (palletRecord kind lost (s.pallet q) s.clock) s).2]
  refine (returnIf_alarms _ _ _ _).trans ?_
  rw [returnIf_alarms]

end

/-! ### The obligation -/

/-- Settles O59: each check refused in its order, the slot filled, and the record, the test and the returns of a pallet that
leaves. -/
theorem palletsEnterAndLeave : Obligations.PalletsEnterAndLeave := by
  intro tag s hready hmode
  refine ⟨s.accounting_eq, fun pallet cls door h => ?badIndex, fun pallet c d => ⟨?zero, fun htag hdoor => ?door,
    fun htag henabled hworking => ⟨fun htaken => ?duplicate, fun hunique => ⟨fun hall => ?full, fun q hfree hlower =>
      ⟨fun h => ?journalFull, fun h => ?entered⟩⟩⟩⟩, fun pallet hunknown => ?unknown,
    fun hkept q hlive => ⟨fun hbusy => ?busy, fun hhandle hstate => ?leaves⟩⟩
  case badIndex => exact exec_run hready hmode rfl rfl rfl rfl (enterPallet_badIndex h pallet s)
  case zero =>
    rintro rfl
    exact exec_run hready hmode rfl rfl rfl rfl ((enterPallet_ofNat s 0 c d).trans (if_pos rfl))
  case door => exact exec_run hready hmode rfl rfl rfl rfl (enterPallet_doorState htag hdoor)
  case duplicate =>
    exact exec_run hready hmode rfl rfl rfl rfl (enterPallet_duplicate htag henabled hworking htaken)
  case full => exact exec_run hready hmode rfl rfl rfl rfl (enterPallet_full htag henabled hworking hunique hall)
  case journalFull =>
    exact exec_run hready hmode rfl rfl rfl rfl (enterPallet_journalFull htag henabled hworking hunique hfree hlower h)
  case entered =>
    exact exec_run hready hmode rfl rfl rfl rfl (enterPallet_entered htag henabled hworking hunique hfree hlower h)
  case unknown => exact exec_run hready hmode rfl rfl rfl rfl (rejectPallet_unknown hunknown)
  case busy => exact exec_run hready hmode rfl rfl rfl rfl (rejectPallet_busy hkept hlive hbusy)
  case leaves =>
    have hjournal := freePallet_journal .rejected false q s
    refine ⟨freePallet .rejected false q s,
      exec_run hready hmode rfl rfl rfl rfl (rejectPallet_leaves hkept hlive hhandle hstate), fun q' => ?_,
      by rw [hjournal]; rfl, by rw [hjournal]; rfl, by rw [hjournal]; rfl, by rw [hjournal]; rfl,
      ⟨by rw [hjournal]; rfl, by rw [hjournal]; rfl, freePallet_alarms _ _ q s⟩,
      fun htable i e hentry hsubject hexposed => ?_, State.eq_merge (freePallet_frame _ _ q s)⟩
    · rw [freePallet_pallet]
      exact if_congr eq_comm rfl rfl
    · exact freePallet_stilled _ _ q s (AlarmTable.zeroKept_of_kept htable) hexposed
        (AlarmTable.single_of_kept htable) i e hentry rfl hsubject

end Sys2Proof.Machine
end

section
/-! PROOFS. What a command can do to pallets, moves and the doors of trailers, said once (R95, R96, R104, R112, R114): most leave each
record as it stands but for exposures, marks and timers; the others end a move, free a pallet, permit or pick a move, or enter a
pallet. The invariants of O19 and O21 and the safety of O25 are read off it. -/

namespace Sys2Proof.Machine

set_option Elab.async false

/-! ### A record that stands, but for what time does to it -/

/-- What no timer, charge, raise or retry writes of a pallet (R95). -/
def Pallet.standing (x : Pallet) : Pallet :=
  { x with exposure := 0, warned := false, overBudget := false, warnUnposted := false, exceedUnposted := false }

/-- A pallet that stands as it stood: its exposure has not fallen, its marks are kept, and one that has used its budget is marked
where it was (R104 to R106); a free slot stays so. -/
structure Pallet.Ages (budget : Nat) (x y : Pallet) : Prop where
  standing : y.standing = x.standing
  exposure : x.exposure ≤ Config.exposureMax → x.exposure ≤ y.exposure ∧ y.exposure ≤ Config.exposureMax
  warned : x.warned = true → y.warned = true
  overBudget : x.overBudget = true → y.overBudget = true
  marked : (budget * Config.unitsPerDegreeMinute ≤ x.exposure → x.overBudget = true) →
    budget * Config.unitsPerDegreeMinute ≤ y.exposure → y.overBudget = true
  empty : x = .empty → y = .empty

section
variable {budget : Nat} {x y z : Pallet}

theorem Pallet.Ages.refl (budget : Nat) (x : Pallet) : x.Ages budget x := ⟨rfl, fun h => ⟨le_rfl, h⟩, id, id, id, id⟩

theorem Pallet.Ages.trans (h : x.Ages budget y) (k : y.Ages budget z) : x.Ages budget z where
  standing := k.standing.trans h.standing
  exposure hx := by
    obtain ⟨hxy, hy⟩ := h.exposure hx
    obtain ⟨hyz, hz⟩ := k.exposure hy
    exact ⟨hxy.trans hyz, hz⟩
  warned := k.warned ∘ h.warned
  overBudget := k.overBudget ∘ h.overBudget
  marked := k.marked ∘ h.marked
  empty := k.empty ∘ h.empty

/-- Only the unposted marks written, and none set at a free slot. -/
theorem Pallet.Ages.of_marks {warn exceed : Bool} (h : x = .empty → warn = false ∧ exceed = false) :
    x.Ages budget { x with warnUnposted := warn, exceedUnposted := exceed } := by
  refine ⟨rfl, fun h => ⟨le_rfl, h⟩, id, id, id, fun hx => ?_⟩
  obtain ⟨rfl, rfl⟩ := h hx
  subst hx
  rfl

section
variable (h : x.Ages budget y)
include h

theorem Pallet.Ages.state : y.state = x.state := (congrArg Pallet.state h.standing :)
theorem Pallet.Ages.tag : y.tag = x.tag := (congrArg Pallet.tag h.standing :)
theorem Pallet.Ages.cls : y.cls = x.cls := (congrArg Pallet.cls h.standing :)
theorem Pallet.Ages.location : y.location = x.location := (congrArg Pallet.location h.standing :)
theorem Pallet.Ages.pickState : y.pickState = x.pickState := (congrArg Pallet.pickState h.standing :)
theorem Pallet.Ages.entryTime : y.entryTime = x.entryTime := (congrArg Pallet.entryTime h.standing :)
theorem Pallet.Ages.handle : y.handle = x.handle := (congrArg Pallet.handle h.standing :)
theorem Pallet.Ages.live : y.live = x.live := by rw [Pallet.live, h.state]; rfl

end

end

/-- What no timer, raise or retry writes of a move (R112). -/
def Move.standing (x : Move) : Move :=
  { x with lapseTimer := .stopped, transitTimer := .stopped, overdueFlag := false, overdueUnposted := false }

/-- A move that stands as it stood: its lapse timer runs where it ran, and its transit timer and overdue flag are for IN_TRANSIT
alone (R121, R124); a free entry stays so. -/
structure Move.Ages (x y : Move) : Prop where
  standing : y.standing = x.standing
  lapse : y.lapseTimer = .stopped ↔ x.lapseTimer = .stopped
  transit : x.state ≠ .inTransit → x.transitTimer = .stopped → y.transitTimer = .stopped
  overdue : x.state ≠ .inTransit → x.overdueFlag = false → y.overdueFlag = false
  empty : ∀ g, x = .empty g → y = .empty g

section
variable {x y z : Move}

theorem Move.Ages.refl (x : Move) : x.Ages x := ⟨rfl, Iff.rfl, fun _ => id, fun _ => id, fun _ => id⟩

section
variable (h : x.Ages y)
include h

theorem Move.Ages.state : y.state = x.state := (congrArg Move.state h.standing :)
theorem Move.Ages.generation : y.generation = x.generation := (congrArg Move.generation h.standing :)
theorem Move.Ages.tag : y.tag = x.tag := (congrArg Move.tag h.standing :)
theorem Move.Ages.origin : y.origin = x.origin := (congrArg Move.origin h.standing :)
theorem Move.Ages.destination : y.destination = x.destination := (congrArg Move.destination h.standing :)
theorem Move.Ages.pickTime : y.pickTime = x.pickTime := (congrArg Move.pickTime h.standing :)
theorem Move.Ages.live : y.live = x.live := by rw [Move.live, h.state]; rfl

theorem Move.Ages.namesTrailer (d : Fin 24) : y.namesTrailer d = x.namesTrailer d := by
  rw [Move.namesTrailer, h.live, h.origin, h.destination]
  rfl

end

theorem Move.Ages.trans (h : x.Ages y) (k : y.Ages z) : x.Ages z where
  standing := k.standing.trans h.standing
  lapse := k.lapse.trans h.lapse
  transit hx hstopped := k.transit (h.state.symm ▸ hx) (h.transit hx hstopped)
  overdue hx hclear := k.overdue (h.state.symm ▸ hx) (h.overdue hx hclear)
  empty g hx := k.empty g (h.empty g hx)

end

/-! ### A state whose records stand -/

/-- From one state to another pallets and moves stand as they stood, doors keep their states, and mode and classes are fixed; no
defrost record leaves its ranges, and an empty Journal stays empty. -/
structure State.Ages (s t : State) : Prop where
  mode : t.mode = s.mode
  classes : t.classes = s.classes
  door : ∀ d : Fin 24, (t.door d).enabled = (s.door d).enabled ∧ (t.door d).state = (s.door d).state
  ranges : ∀ r : Fin 8, (s.defrost r).inRange → (t.defrost r).inRange
  pallet : ∀ q : Fin 256, (s.pallet q).Ages (s.classOf (s.pallet q)).budget (t.pallet q)
  move : ∀ m : Fin 32, (s.move m).Ages (t.move m)
  records : s.journal.records = [] → t.journal.records = []

section
variable {s t u : State}

theorem State.Ages.refl (s : State) : s.Ages s :=
  ⟨rfl, rfl, fun _ => ⟨rfl, rfl⟩, fun _ => id, fun _ => .refl _ _, fun _ => .refl _, id⟩

theorem State.classOf_congr (hclasses : t.classes = s.classes) {x y : Pallet} (hcls : y.cls = x.cls) :
    t.classOf y = s.classOf x := by
  rw [State.classOf, State.classOf, State.productClass, State.productClass, hclasses, hcls]

theorem State.Ages.classOf (h : s.Ages t) (q : Fin 256) : t.classOf (t.pallet q) = s.classOf (s.pallet q) :=
  State.classOf_congr h.classes (h.pallet q).cls

theorem State.Ages.trans (h : s.Ages t) (k : t.Ages u) : s.Ages u where
  mode := k.mode.trans h.mode
  classes := k.classes.trans h.classes
  door d := ⟨(k.door d).1.trans (h.door d).1, (k.door d).2.trans (h.door d).2⟩
  ranges r := k.ranges r ∘ h.ranges r
  pallet q := (h.pallet q).trans (h.classOf q ▸ k.pallet q)
  move m := (h.move m).trans (k.move m)
  records := k.records ∘ h.records

theorem State.Ages.ite {p : Prop} [Decidable p] (h : s.Ages t) (k : s.Ages u) : s.Ages (if p then t else u) := by
  split
  · exact h
  · exact k

theorem ages_forEach {n : Nat} {f : Fin n → State → State} (h : ∀ i (s : State), s.Ages (f i s)) (s : State) :
    s.Ages (forEach n f s) := forEach_rel State.Ages State.Ages.refl State.Ages.trans h s

/-- What writes none of the fields that `State.Ages` is about, with the records of the Journal left. -/
theorem State.Ages.of_same (hmode : t.mode = s.mode) (hclasses : t.classes = s.classes) (hdoors : t.doors = s.doors)
    (hdefrosts : t.defrosts = s.defrosts) (hpallets : t.pallets = s.pallets) (hmoves : t.moves = s.moves)
    (hrecords : s.journal.records = [] → t.journal.records = []) : s.Ages t where
  mode := hmode
  classes := hclasses
  door d := by rw [State.door, hdoors]; exact ⟨rfl, rfl⟩
  ranges r := by rw [State.defrost, State.defrost, hdefrosts]; exact id
  pallet q := by rw [show t.pallet q = s.pallet q by rw [State.pallet, hpallets]; rfl]; exact .refl _ _
  move m := by rw [show t.move m = s.move m by rw [State.move, hmoves]; rfl]; exact .refl _
  records := hrecords

theorem State.Ages.of_frame {fs : List Field} (h : s.frame fs t)
    (hf : ∀ f ∈ [Field.mode, .classes, .doors, .defrosts, .pallets, .moves, .journal], f ∉ fs) : s.Ages t :=
  .of_same (State.frame_mode h (hf _ (by decide))) (State.frame_classes h (hf _ (by decide)))
    (State.frame_doors h (hf _ (by decide))) (State.frame_defrosts h (hf _ (by decide)))
    (State.frame_pallets h (hf _ (by decide))) (State.frame_moves h (hf _ (by decide)))
    (fun hrecords => by rw [State.frame_journal h (hf _ (by decide)), hrecords])

end

/-! ### One record written -/

section
variable (s : State)

theorem State.ages_setDoor (d : Fin 24) {x : Door} (henabled : x.enabled = (s.door d).enabled)
    (hstate : x.state = (s.door d).state) : s.Ages (s.setDoor d x) := by
  refine ⟨rfl, rfl, fun i => ?_, fun _ => id, fun _ => .refl _ _, fun _ => .refl _, id⟩
  rw [State.door_setDoor]
  split
  · next hi =>
    subst hi
    exact ⟨henabled, hstate⟩
  · exact ⟨rfl, rfl⟩

theorem State.ages_modifyDoor (d : Fin 24) {f : Door → Door} (hf : ∀ x, (f x).enabled = x.enabled := by exact fun _ => rfl)
    (hstate : ∀ x, (f x).state = x.state := by exact fun _ => rfl) : s.Ages (s.modifyDoor d f) :=
  s.ages_setDoor d (hf _) (hstate _)

theorem State.ages_setDefrost (r : Fin 8) {x : Defrost} (h : (s.defrost r).inRange → x.inRange := by exact id) :
    s.Ages (s.setDefrost r x) := by
  refine ⟨rfl, rfl, fun _ => ⟨rfl, rfl⟩, fun i => ?_, fun _ => .refl _ _, fun _ => .refl _, id⟩
  rw [State.defrost_setDefrost]
  split
  · next hi =>
    subst hi
    exact h
  · exact id

theorem State.ages_modifyDefrost (r : Fin 8) {f : Defrost → Defrost}
    (h : ∀ x, Defrost.inRange x → (f x).inRange := by exact fun _ => id) : s.Ages (s.modifyDefrost r f) :=
  s.ages_setDefrost r (h _)

theorem State.ages_setPallet (q : Fin 256) {x : Pallet} (h : (s.pallet q).Ages (s.classOf (s.pallet q)).budget x) :
    s.Ages (s.setPallet q x) := by
  refine ⟨rfl, rfl, fun _ => ⟨rfl, rfl⟩, fun _ => id, fun i => ?_, fun _ => .refl _, id⟩
  rw [State.pallet_setPallet]
  split
  · next hi =>
    subst hi
    exact h
  · exact .refl _ _

theorem State.ages_setMove (m : Fin 32) {x : Move} (h : (s.move m).Ages x) : s.Ages (s.setMove m x) := by
  refine ⟨rfl, rfl, fun _ => ⟨rfl, rfl⟩, fun _ => id, fun _ => .refl _ _, fun i => ?_, id⟩
  rw [State.move_setMove]
  split
  · next hi =>
    subst hi
    exact h
  · exact .refl _

theorem State.ages_setAlarms (a : AlarmTable) : s.Ages (s.setAlarms a) := .of_same rfl rfl rfl rfl rfl rfl id

theorem State.ages_setPort (p : Port) (x : PortControl) : s.Ages (s.setPort p x) := .of_same rfl rfl rfl rfl rfl rfl id

theorem State.ages_modifyRoom (r : Fin 8) (f : Room → Room) : s.Ages (s.modifyRoom r f) :=
  .of_same rfl rfl rfl rfl rfl rfl id

theorem State.ages_raiseCondition (code : AlarmCode) (subject : Subject) (tag : Option Word32) (detail : Option Word16)
    {f : State → State} (h : ∀ a : AlarmTable, s.Ages (f (s.setAlarms a))) :
    s.Ages (s.raiseCondition code subject tag detail f) := by
  rw [State.raiseCondition_eq]
  exact .ite (s.ages_setAlarms _) (h _)

end

section
variable {s t : State} (h : s.Ages t)
include h

theorem State.Ages.posted (code : AlarmCode) (subject : Subject) (detail : Option Word16) :
    s.Ages (t.post code subject detail) := h.trans (t.ages_setAlarms _)

theorem State.Ages.returned (code : AlarmCode) (subject : Subject) : s.Ages (t.returnCondition code subject) :=
  h.trans (t.ages_setAlarms _)

theorem State.Ages.defrostRecord (r : Fin 8) {f : Defrost → Defrost}
    (hf : ∀ x, Defrost.inRange x → (f x).inRange := by exact fun _ => id) : s.Ages (t.modifyDefrost r f) :=
  h.trans (t.ages_modifyDefrost r hf)

theorem State.Ages.defrostWritten (r : Fin 8) {x : Defrost} {a : AlarmTable}
    (hx : (t.defrost r).inRange → x.inRange := by exact id) : s.Ages ((t.setDefrost r x).setAlarms a) :=
  (h.trans (t.ages_setDefrost r hx)).trans (State.ages_setAlarms _ a)

end

/-! ### What the others do -/

/-- The states of a door at which no trailer is held (R45). -/
def DoorState.bare (x : DoorState) : Prop := x = .vacant ∨ x = .docked ∨ x = .releasing

/-- Nothing of a trailer stands or moves at a door: no pallet waits there, ABOARD or INBOUND, and no live move names it (R45). -/
def State.trailerClear (s : State) (d : Fin 24) : Prop :=
  (∀ q : Fin 256, (s.pallet q).waits .aboard d = false ∧ (s.pallet q).waits .inbound d = false)
    ∧ ∀ m : Fin 32, (s.move m).namesTrailer d = false

/-- How a live move's pallet may be settled (R119): it stands where it stood; or, of a move IN_TRANSIT, it is set down, at a trailer
only where that is the move's destination (R122, R123, R126, R59); or, where pallets may leave, it goes back (R126, R127). -/
inductive State.Settles (s : State) (leaves : Bool) (m : Fin 32) : Option (PalletState × Place) → Prop
  | stands (hstate : (s.move m).state = .permitted) : s.Settles leaves m none
  | setDown (hstate : (s.move m).state = .inTransit) (p : Place)
      (htrailer : p.isTrailer = true → (s.move m).destination = some p) :
      s.Settles leaves m (some (if p.isTrailer then .aboard else .placed, p))
  | back (hleaves : leaves = true) (hstate : (s.move m).state = .inTransit) : s.Settles leaves m (s.backToOrigin m)

/-- A live pallet that may be freed (R97): one without a move (R99), or one that stands at a trailer whose moves have ended
(R56, R59). -/
def State.mayLeave (s : State) (q : Fin 256) : Prop :=
  (s.pallet q).live = true ∧ (s.pallet q).state ≠ .inTransit
    ∧ ((s.pallet q).handle = none
      ∨ ∃ d, (s.pallet q).location = .at (.trailer d) ∧ ∀ m : Fin 32, (s.move m).namesTrailer d = false)

/-- A move that may be permitted (R116): its pallet has none and stands at the origin, its entry is free, and a trailer it goes to is
WORKING. -/
structure State.MayMove (s : State) (q : Fin 256) (m : Fin 32) (origin dest : Place) : Prop where
  live : (s.pallet q).live = true
  state : (s.pallet q).state ≠ .inTransit
  handle : (s.pallet q).handle = none
  location : (s.pallet q).location = .at origin
  free : (s.move m).live = false
  site : s.onSite dest = true
  working : s.endWorking dest = true

/-- What is done in SETUP alone leaves pallets, moves and records, and keeps defrost and class records in range; it may enter RUN
(R18, R42, R71, R94, R176). -/
structure State.Configured (s t : State) : Prop where
  setup : s.mode = .setup
  pallets : t.pallets = s.pallets
  moves : t.moves = s.moves
  records : t.journal.records = s.journal.records
  classes : (∀ c : Fin 8, (s.productClass c).inRange) → ∀ c : Fin 8, (t.productClass c).inRange
  ranges : ∀ r : Fin 8, (s.defrost r).inRange → (t.defrost r).inRange

/-- Whatever is done to pallets, moves and doors but for a pallet's entry, in steps; `leaves` tells whether a slot may become free. -/
inductive State.Works (leaves : Bool) : State → State → Prop
  | ages {s t : State} (h : s.Ages t) : State.Works leaves s t
  | trans {s t u : State} (h : State.Works leaves s t) (k : State.Works leaves t u) : State.Works leaves s u
  | door (s : State) (d : Fin 24) (x : Door) (henabled : x.enabled = (s.door d).enabled)
      (hbare : x.state.bare → (s.door d).state.bare ∨ s.trailerClear d) : State.Works leaves s (s.setDoor d x)
  | ended {s : State} {m : Fin 32} {settle : Option (PalletState × Place)} (h : s.Settles leaves m settle) (kind : RecordKind)
      (f : EndFlags) : State.Works leaves s (endMove kind f settle m s)
  | freed (hleaves : leaves = true) {s : State} {q : Fin 256} (h : s.mayLeave q) (kind : RecordKind) (lost : Bool) :
      State.Works leaves s (freePallet kind lost q s)
  | permitted {s : State} {q : Fin 256} {m : Fin 32} {origin dest : Place} (h : s.MayMove q m origin dest) :
      State.Works leaves s (permitMove q m origin dest s)
  | picked (s : State) (b : Byte) : State.Works leaves s (pick b s).state
  | configured {s t : State} (h : s.Configured t) : State.Works leaves s t

/-- A pallet enters in RUN, into a free slot and under a tag no live pallet carries, at the trailer of a WORKING door (R98). -/
def State.Enters (s t : State) : Prop :=
  s.mode = .run ∧ ∃ (q : Fin 256) (tag : Word32) (c : Fin 8) (d : Fin 24), (s.pallet q).live = false ∧ tag ≠ 0
    ∧ (∀ i : Fin 256, (s.pallet i).live = true → (s.pallet i).tag ≠ tag) ∧ (s.door d).enabled = true
    ∧ (s.door d).state = .working ∧ t = s.setPallet q (.entering tag c d s.clock)

/-- What a command other than a cold reset does: where a pallet enters, no slot becomes free. -/
inductive State.Does : State → State → Prop
  | works {s t : State} (h : s.Works true t) : State.Does s t
  | enters {s t u v : State} (before : s.Works false t) (h : t.Enters u) (after : u.Works false v) : State.Does s v

section
variable {leaves : Bool} {s t u : State}

theorem State.Works.refl (s : State) : s.Works leaves s := .ages (.refl s)

theorem State.Works.ite {p : Prop} [Decidable p] (h : s.Works leaves t) (k : s.Works leaves u) :
    s.Works leaves (if p then t else u) := by
  split
  · exact h
  · exact k

theorem works_forEach {n : Nat} {f : Fin n → State → State} (h : ∀ i (s : State), s.Works leaves (f i s)) (s : State) :
    s.Works leaves (forEach n f s) := forEach_rel (State.Works leaves) State.Works.refl .trans h s

theorem State.Works.aged (h : s.Works leaves t) (k : t.Ages u) : s.Works leaves u := h.trans (.ages k)

theorem State.Does.refl (s : State) : s.Does s := .works (.refl s)

theorem State.Does.of_ages (h : s.Ages t) : s.Does t := .works (.ages h)

theorem State.Does.before (h : ∀ leaves, s.Works leaves t) (k : t.Does u) : s.Does u := by
  cases k with
  | works k => exact .works ((h true).trans k)
  | enters before henters after => exact .enters ((h false).trans before) henters after

theorem State.Does.aged (h : s.Does t) (k : t.Ages u) : s.Does u := by
  cases h with
  | works h => exact .works (h.aged k)
  | enters before henters after => exact .enters before henters (after.aged k)

end

end Sys2Proof.Machine
end

section
/-! PROOFS. What leaves pallets, moves and doors as they stand: frost, the phases of a defrost, the exposure tick and the retries
(R68 to R86, R104 to R109, R148). -/

namespace Sys2Proof.Machine

set_option Elab.async false

/-! ### Frost and the queue (R68 to R79) -/

theorem raiseFrostDue_ages (r : Fin 8) (s : State) : s.Ages (raiseFrostDue r s) := by
  rw [raiseFrostDue_eq]
  exact State.Ages.defrostWritten (.refl s) r

theorem raiseForced_ages (r : Fin 8) (s : State) : s.Ages (raiseForced r s) := by
  rw [raiseForced_eq]
  exact State.Ages.defrostWritten (.refl s) r

theorem raiseOverrun_ages (r : Fin 8) (s : State) : s.Ages (raiseOverrun r s) := by
  rw [raiseOverrun_eq]
  exact State.Ages.defrostWritten (.refl s) r

theorem testFrostDue_ages (r : Fin 8) (s : State) : s.Ages (testFrostDue r s) := .ite (raiseFrostDue_ages r s) (.refl s)

theorem testForced_ages (r : Fin 8) (s : State) : s.Ages (testForced r s) :=
  .ite ((s.ages_modifyDefrost r).trans (raiseForced_ages r _)) (.refl s)

/-- A frost index that stops at 65535 stays in range (R66, R68). -/
theorem Defrost.inRange_risen {x : Defrost} (h : x.inRange) {index : Nat} (hindex : index ≤ 65535) : (x.risen index).inRange := by
  obtain ⟨-, hrest⟩ := h
  exact ⟨hindex, hrest⟩

theorem Defrost.inRange_inhibit {x : Defrost} (h : x.inRange) {n : Nat} (hn : n ≤ 3600) :
    ({ x with inhibit := n } : Defrost).inRange := by
  obtain ⟨h1, h2, h3, h4, h5, h6, h7, h8, h9, h10, h11, h12, h13, h14, h15, -⟩ := h
  exact ⟨h1, h2, h3, h4, h5, h6, h7, h8, h9, h10, h11, h12, h13, h14, h15, hn⟩

theorem accumulateFrost_ages (r : Fin 8) (s : State) : s.Ages (accumulateFrost r s) :=
  .ite (.refl s) (((s.ages_setDefrost r fun h => Defrost.inRange_risen h (Nat.min_le_right _ _)).trans
    (testFrostDue_ages r _)).trans (testForced_ages r _))

theorem State.ages_waiting (s : State) (r : Fin 8) : s.Ages (s.waiting r) := s.ages_setDefrost r

theorem State.ages_granting (s : State) (r : Fin 8) : s.Ages (s.granting r) :=
  State.Ages.trans (t := { s with
      remainingCapacity := s.remainingCapacity - (s.defrost r).heaterLoad
      defrostQueue := s.defrostQueue.erase r }) (.of_same rfl rfl rfl rfl rfl rfl id) (.defrostWritten (.refl _) r)

theorem evaluateQueue_ages (s : State) : s.Ages (evaluateQueue s) :=
  evaluateQueue_induct (P := fun _ t => s.Ages t) (.refl s) (fun r _ t h => h.trans (t.ages_waiting r))
    fun r _ t h _ => h.trans (t.ages_granting r)

theorem State.Ages.evaluated {s t : State} (h : s.Ages t) : s.Ages (evaluateQueue t) := h.trans (evaluateQueue_ages t)

theorem accumulateAll_ages (s : State) : s.Ages (accumulateAll s) := (ages_forEach accumulateFrost_ages s).evaluated

/-! ### The phases (R80 to R86) -/

theorem givePermits_ages (r : Fin 8) (s : State) : s.Ages (givePermits r s) := by
  refine ages_forEach (fun d s => .ite (State.Ages.posted ?_ _ _ _) (.refl s)) s
  exact s.ages_setDoor d rfl rfl

theorem State.ages_returnLoad (s : State) (r : Fin 8) : s.Ages (s.returnLoad r) := .of_same rfl rfl rfl rfl rfl rfl id

theorem expireGrantHold_ages (r : Fin 8) (s : State) : s.Ages (expireGrantHold r s) :=
  .ite ((((s.ages_setDefrost r).trans (State.ages_returnLoad _ r)).posted _ _ _).trans (givePermits_ages r _)).evaluated
    (.refl s)

theorem expireHeating_ages (r : Fin 8) (s : State) : s.Ages (expireHeating r s) :=
  .ite ((s.ages_setDefrost r).trans (raiseOverrun_ages r _)) (.refl s)

theorem expireDrip_ages (r : Fin 8) (s : State) : s.Ages (expireDrip r s) :=
  .ite ((s.ages_setDefrost r).trans (givePermits_ages r _)) (.refl s)

theorem resumeHigh_ages (r : Fin 8) (s : State) : s.Ages (resumeHigh r s) := .of_frame (resumeHigh_frame r s) (by decide)

theorem expireRecovery_ages (r : Fin 8) (s : State) : s.Ages (expireRecovery r s) :=
  .ite (((s.ages_setDefrost r).posted _ _ _).trans (resumeHigh_ages r _)) (.refl s)

theorem testRecovery_ages (r : Fin 8) (s : State) : s.Ages (testRecovery r s) :=
  .ite ((s.ages_modifyDefrost r).trans (resumeHigh_ages r _)) (.refl s)

theorem expireInhibit_ages (r : Fin 8) (s : State) : s.Ages (expireInhibit r s) :=
  .ite (s.ages_modifyDefrost r).evaluated (.refl s)

theorem settleDefrost_ages (r : Fin 8) (s : State) : s.Ages (settleDefrost r s) :=
  ((((expireGrantHold_ages r s).trans (expireHeating_ages r _)).trans (expireDrip_ages r _)).trans
    (expireRecovery_ages r _)).trans (expireInhibit_ages r _)

theorem testTerminate_ages (r : Fin 8) (s : State) : s.Ages (testTerminate r s) := by
  cases h : coldest (s.probeTemps .coil r) with
  | none =>
    rw [testTerminate_none h]
    exact .refl s
  | some v =>
    rw [testTerminate_some h]
    exact .ite (State.Ages.defrostWritten (.refl s) r) (.refl s)

theorem roundDefrost_ages (s : State) : s.Ages (roundDefrost s) :=
  .ite (ages_forEach (fun r s => (testTerminate_ages r s).trans (testRecovery_ages r _)) s) (.refl s)

theorem completeRound_ages (first : Bool) (s : State) : s.Ages (completeRound first s) := by
  have hidle : s.Ages { s with round := .idle } := .of_same rfl rfl rfl rfl rfl rfl id
  have hround := hidle.trans (.of_frame (settleRooms_frame _) (by decide))
  have hrooms : ∀ t : State, t.Ages (roundRooms t) := fun t => .of_frame (roundRooms_frame t) (by decide)
  unfold completeRound
  split
  · exact .ite ((hround.trans (roundDefrost_ages _)).trans (hrooms _)) ((hround.trans (hrooms _)).trans (roundDefrost_ages _))
  · exact .refl s
  · exact .refl s

/-! ### The exposure tick (R104 to R106) -/

theorem State.chargedExposure_bounds (s : State) (x : Pallet) (h : x.exposure ≤ Config.exposureMax) :
    x.exposure ≤ s.chargedExposure x ∧ s.chargedExposure x ≤ Config.exposureMax := by
  unfold State.chargedExposure
  dsimp only
  split
  · exact ⟨Nat.le_min.mpr ⟨Nat.le_add_right _ _, h⟩, Nat.min_le_right _ _⟩
  · exact ⟨le_rfl, h⟩

theorem Pallet.ne_empty {x : Pallet} (hlive : x.live = true) : x ≠ .empty := by
  rintro rfl
  cases hlive

/-- A charged pallet keeps its marks, and is marked where it has used its budget. -/
theorem Pallet.ages_charged {s : State} {x : Pallet} (hlive : x.live = true) (warnUnposted exceedUnposted : Bool) :
    x.Ages (s.classOf x).budget
      { x with
        exposure := s.chargedExposure x
        warned := x.warned || s.warns x
        overBudget := x.overBudget || s.exceeds x
        warnUnposted := warnUnposted
        exceedUnposted := exceedUnposted } where
  standing := rfl
  exposure := s.chargedExposure_bounds x
  warned h := Bool.or_eq_true_iff.mpr (.inl h)
  overBudget h := Bool.or_eq_true_iff.mpr (.inl h)
  marked _ hused := by
    cases hover : x.overBudget with
    | true => rfl
    | false =>
      simp only [State.exceeds, hover, Bool.not_false, Bool.and_true, Bool.false_or, decide_eq_true_eq]
      exact hused
  empty h := absurd h (Pallet.ne_empty hlive)

/-- A change of pallet records alone. -/
theorem State.Ages.of_pallets {s t : State} {fs : List Field} (h : s.frame fs t)
    (hf : ∀ f ∈ [Field.mode, .classes, .doors, .defrosts, .moves, .journal], f ∉ fs)
    (hpallet : ∀ q, (s.pallet q).Ages (s.classOf (s.pallet q)).budget (t.pallet q)) : s.Ages t where
  mode := State.frame_mode h (hf _ (by decide))
  classes := State.frame_classes h (hf _ (by decide))
  door d := by rw [State.frame_door h (hf _ (by decide))]; exact ⟨rfl, rfl⟩
  ranges r := by rw [State.frame_defrost h (hf _ (by decide))]; exact id
  pallet := hpallet
  move m := by rw [State.frame_move h (hf _ (by decide))]; exact .refl _
  records hrecords := by rw [State.frame_journal h (hf _ (by decide)), hrecords]

theorem chargePallet_ages (q : Fin 256) (s : State) : s.Ages (chargePallet q s) := by
  by_cases hlive : (s.pallet q).live = true
  · refine .of_pallets (chargePallet_frame q s) (by decide) fun i => ?_
    by_cases hi : i = q
    · subst hi
      rw [(chargePallet_own i hlive).1]
      exact Pallet.ages_charged hlive _ _
    · rw [(chargePallet_other (code := .exposureWarning) nofun hi s).1]
      exact .refl _ _
  · have hsame : chargePallet q s = s := if_neg hlive
    rw [hsame]
    exact .refl s

theorem chargePallets_ages (s : State) : s.Ages (chargePallets s) := ages_forEach chargePallet_ages s

theorem tickExposure_ages (first : Bool) (s : State) : s.Ages (tickExposure first s) := by
  have hdue : s.Ages { s with exposureDue := false } := .of_same rfl rfl rfl rfl rfl rfl id
  exact .ite (.ite ((hdue.trans (accumulateAll_ages _)).trans (chargePallets_ages _))
    ((hdue.trans (chargePallets_ages _)).trans (accumulateAll_ages _))) (.refl s)

/-! ### Raises again and retries (R109, R148, R177) -/

theorem raiseWarning_ages {q : Fin 256} {s : State} (hlive : (s.pallet q).live = true) : s.Ages (raiseWarning q s) := by
  rw [raiseWarning_eq]
  exact (s.ages_setPallet q (.of_marks (exceed := (s.pallet q).exceedUnposted) fun h => absurd h (Pallet.ne_empty hlive))).trans
    (State.ages_setAlarms _ _)

theorem raiseExceeded_ages {q : Fin 256} {s : State} (hlive : (s.pallet q).live = true) : s.Ages (raiseExceeded q s) := by
  rw [raiseExceeded_eq]
  exact (s.ages_setPallet q (.of_marks (warn := (s.pallet q).warnUnposted) fun h => absurd h (Pallet.ne_empty hlive))).trans
    (State.ages_setAlarms _ _)

theorem reraisePallet_ages (q : Fin 256) (s : State) : s.Ages (reraisePallet q s) := by
  have hexceeded : ∀ t : State, t.Ages (if (t.pallet q).live = true ∧ (t.pallet q).overBudget = true then raiseExceeded q t else t) :=
    fun t => by
      split
      · next h => exact raiseExceeded_ages h.1
      · exact .refl t
  unfold reraisePallet
  dsimp only
  refine State.Ages.trans ?_ (hexceeded _)
  split
  · next h => exact raiseWarning_ages h.1
  · exact .refl s

theorem reraiseDefrost_ages (r : Fin 8) (s : State) : s.Ages (reraiseDefrost r s) := by
  have hdue := State.Ages.ite (p := (s.defrost r).threshold ≤ (s.defrost r).frostIndex ∧ (s.defrost r).state ≠ .drip)
    (raiseFrostDue_ages r s) (.refl s)
  have hforced := State.Ages.ite (p := (s.defrost r).forcedMark = true ∧ (!(s.defrost r).state.coilWarm) = true)
    (hdue.trans (raiseForced_ages r _)) hdue
  exact .ite (hforced.trans (raiseOverrun_ages r _)) hforced

theorem clearMark_ages (s : State) (x : RetryMark) : s.Ages (s.clearMark x) := by
  unfold State.clearMark
  cases x with
  | doorBreach d | doorFault d => exact s.ages_modifyDoor d
  | overrun r | forced r | frostDue r => exact s.ages_modifyDefrost r
  | warning q =>
    exact s.ages_setPallet q (.of_marks (exceed := (s.pallet q).exceedUnposted) fun h => ⟨rfl, by rw [h]; rfl⟩)
  | exceeded q =>
    exact s.ages_setPallet q (.of_marks (warn := (s.pallet q).warnUnposted) fun h => ⟨by rw [h]; rfl, rfl⟩)
  | overdue m =>
    exact s.ages_setMove m ⟨rfl, Iff.rfl, fun _ => id, fun _ => id, fun g h => by rw [h]; rfl⟩
  | _ => exact .of_same rfl rfl rfl rfl rfl rfl id

theorem retryAll_ages (order : List RetryBlock) (s : State) : s.Ages (retryAll order s) := by
  have hmark : ∀ (s : State) (x : RetryMark), s.Ages (retryMark s x) := fun s x => by
    refine .ite ?_ (.refl s)
    rw [State.retryCondition_eq]
    exact .ite ((s.ages_setAlarms _).trans (clearMark_ages _ x)) (s.ages_setAlarms _)
  rw [retryAll_eq]
  generalize retryList order = l
  induction l generalizing s with
  | nil => exact .refl s
  | cons x l ih => exact (hmark s x).trans (ih _)

/-! ### A second tick (R1 to R4) -/

theorem Move.ages_tick (x : Move) : x.Ages x.tick where
  standing := rfl
  lapse := Timer.tick_eq_stopped _
  transit _ h := (Timer.tick_eq_stopped _).mpr h
  overdue _ h := h
  empty _ h := by rw [h]; rfl

theorem Defrost.inRange_tick {x : Defrost} (h : x.inRange) : x.tick.inRange := by
  have hinhibit : x.inhibit ≤ 3600 := by
    obtain ⟨-, -, -, -, -, -, -, -, -, -, -, -, -, -, -, hinhibit⟩ := h
    exact hinhibit
  exact Defrost.inRange_inhibit (n := x.inhibit - 1) h (by omega)

theorem tickTimers_ages (s : State) : s.Ages (tickTimers s) where
  mode := rfl
  classes := rfl
  door d := by
    have hdoor : (tickTimers s).door d = (s.door d).tick := mapTable_entry Door.tick s.doors d
    rw [hdoor]
    exact ⟨rfl, rfl⟩
  ranges r h := by
    have hdefrost : (tickTimers s).defrost r = (s.defrost r).tick := mapTable_entry Defrost.tick s.defrosts r
    rw [hdefrost]
    exact Defrost.inRange_tick h
  pallet _ := .refl _ _
  move m := by
    have hmove : (tickTimers s).move m = (s.move m).tick := mapTable_entry Move.tick s.moves m
    rw [hmove]
    exact Move.ages_tick _
  records := id

theorem beforeRetries_ages (s : State) : s.Ages (beforeRetries s) := by
  have hclock : s.Ages { s with clock := s.clock + 1 } := .of_same rfl rfl rfl rfl rfl rfl id
  exact ((hclock.trans (tickTimers_ages _)).trans (.of_frame (advancePhase_frame _) (by decide))).trans
    (.of_frame (startRound_frame _) (by decide))

end Sys2Proof.Machine
end

section
/-! PROOFS. What the doors, the ends of moves, the expiries and the restarts do to pallets, moves and doors (R44 to R59, R119 to R127,
R176, R177). -/

namespace Sys2Proof.Machine

set_option Elab.async false

/-! ### Doors (R44 to R55) -/

theorem State.ages_withTable (s : State) (a : AlarmTable) (attn : PerPort Bool) : s.Ages (s.withTable a attn) :=
  .of_same rfl rfl rfl rfl rfl rfl id

theorem State.trailerClear_of_not_held {s : State} {d : Fin 24} (h : s.trailerHeld d = false) : s.trailerClear d := by
  have hnot := Bool.eq_false_iff.mp h
  rw [Ne, State.trailerHeld_eq_true, not_or] at hnot
  obtain ⟨hpallets, hmoves⟩ := hnot
  have hwaits : ∀ q state, state ≠ .free → (s.pallet q).waits state d = false := fun q state hfree => by
    refine decide_eq_false fun ⟨hstate, hlocation⟩ => hpallets ⟨q, ?_, hlocation⟩
    rw [Pallet.live, hstate]
    exact bne_iff_ne.mpr hfree
  refine ⟨fun q => ⟨hwaits q .aboard nofun, hwaits q .inbound nofun⟩, fun m => Bool.eq_false_iff.mpr fun hnames => hmoves ⟨m, ?_⟩⟩
  simpa [Move.namesTrailer] using hnames

section
variable {leaves : Bool} {s : State} {d : Fin 24}

theorem State.works_setDoor_same {x : Door} (henabled : x.enabled = (s.door d).enabled := by exact rfl)
    (hstate : x.state = (s.door d).state := by exact rfl) : s.Works leaves (s.setDoor d x) := .ages (s.ages_setDoor d henabled hstate)

/-- A state is entered; one of VACANT, DOCKED and RELEASING from another of them, or where no trailer is held. -/
theorem enterState_works (next : DoorState × FaultCause) (origin : Bool)
    (h : next.1.bare → (s.door d).state.bare ∨ s.trailerClear d) : s.Works leaves (enterState next origin d s) := by
  obtain ⟨attn, henter⟩ := enterState_eq next origin d s
  rw [henter]
  refine State.Works.aged (.door s d _ ?_ ?_) (State.ages_withTable _ _ _)
  · rfl
  · exact h

/-- Only a door that holds no trailer derives VACANT or DOCKED (R45). -/
theorem Door.not_held_of_derives_bare {x : Door} {held : Bool} (h : (x.derive held).stateAndCause.1.bare) : held = false := by
  cases held with
  | false => rfl
  | true =>
    revert h
    rw [Door.derive_stateAndCause]
    split_ifs <;> simp_all [DoorState.bare]

theorem deriveDoor_works (d : Fin 24) (s : State) : s.Works leaves (deriveDoor d s) := by
  rw [deriveDoor_enters]
  exact enterState_works _ _ fun h => .inr (State.trailerClear_of_not_held (Door.not_held_of_derives_bare h))

/-- A row of the table leads to VACANT, DOCKED or RELEASING from another of them, or where no trailer is held (R44, R45). -/
theorem Door.tableAfter_bare {x : Door} {held : Bool} {i : DoorInput} {level : Bool}
    (h : (x.tableAfter held i level).1.bare) : x.state.bare ∨ held = false := by
  have hderive := Door.not_held_of_derives_bare (x := x) (held := held)
  revert h
  unfold Door.tableAfter
  split
  case h_17 => exact fun h => .inr (hderive h)
  all_goals
    simp_all [DoorState.bare]
  all_goals
    split_ifs <;> simp_all

theorem takeChange_works (d : Fin 24) (i : DoorInput) (s : State) : s.Works leaves (takeChange d i s) := by
  have hturned : ((s.door d).turned i).enabled = (s.door d).enabled ∧ ((s.door d).turned i).state = (s.door d).state := by
    cases i <;> exact ⟨rfl, rfl⟩
  obtain ⟨henabled, hstate⟩ := hturned
  by_cases h : s.mode = .run ∧ (s.door d).enabled = true
  · obtain ⟨hmode, hon⟩ := h
    obtain ⟨attn, htake⟩ := takeChange_runs (i := i) hmode hon rfl
    rw [htake]
    refine State.Works.aged (.door s d _ ?_ fun hbare => ?_) (State.ages_withTable _ _ _)
    · exact henabled
    · rw [← hstate]
      exact (Door.tableAfter_bare hbare).imp id State.trailerClear_of_not_held
  · have hquiet : s.mode = .setup ∨ (s.door d).enabled = false := by
      cases hmode : s.mode with
      | setup => exact .inl rfl
      | run => exact .inr (Bool.eq_false_iff.mpr fun hon => h ⟨hmode, hon⟩)
    rw [takeChange_quiet hquiet]
    exact State.works_setDoor_same henabled hstate

theorem expireSeal_works (d : Fin 24) (s : State) : s.Works leaves (expireSeal d s) := by
  by_cases h : (s.door d).state = .sealing ∧ (s.door d).sealTimer.due = true
  · obtain ⟨hstate, hdue⟩ := h
    rw [expireSeal_of_due hstate ((Timer.due_iff _).mp hdue)]
    refine (State.Works.ages (State.Ages.posted (.refl s) _ _ _)).trans (.door _ d _ ?_ fun hbare => ?_)
    · exact (apply_ite Door.enabled _ _ _).trans (ite_self _)
    · cases hheld : s.trailerHeld d with
      | false => exact .inr (State.trailerClear_of_not_held hheld)
      | true =>
        rw [hheld] at hbare
        exact .inl hbare
  · have hsame : expireSeal d s = s := if_neg h
    rw [hsame]
    exact .refl s

theorem expireBreach_works (d : Fin 24) (s : State) : s.Works leaves (expireBreach d s) := by
  by_cases h : (s.door d).state = .breach ∧ (s.door d).breachTimer.due = true
  · obtain ⟨hstate, hdue⟩ := h
    rw [expireBreach_of_due hstate ((Timer.due_iff _).mp hdue)]
    exact State.Works.aged State.works_setDoor_same (State.ages_setAlarms _ _)
  · have hsame : expireBreach d s = s := if_neg h
    rw [hsame]
    exact .refl s

theorem expireRelease_works (d : Fin 24) (s : State) : s.Works leaves (expireRelease d s) := by
  by_cases h : (s.door d).state = .releasing ∧ (s.door d).releaseTimer.due = true
  · obtain ⟨hstate, hdue⟩ := h
    rw [expireRelease_of_due hstate ((Timer.due_iff _).mp hdue)]
    have hbare : (s.door d).state.bare := .inr (.inr hstate)
    exact .ite (enterState_works (.fault, .sealStuck) false fun _ => .inl hbare)
      (.ite (enterState_works (.docked, .none) false fun _ => .inl hbare)
        (enterState_works (.vacant, .none) false fun _ => .inl hbare))
  · have hsame : expireRelease d s = s := if_neg h
    rw [hsame]
    exact .refl s

theorem settleDoor_works (d : Fin 24) (s : State) : s.Works leaves (settleDoor d s) :=
  ((expireSeal_works d s).trans (expireBreach_works d _)).trans (expireRelease_works d _)

theorem debouncedChange_works (d : Fin 24) (i : DoorInput) (s : State) : s.Works leaves (debouncedChange d i s) :=
  .ite ((settleDoor_works d s).trans (takeChange_works d i _)) (.refl s)

theorem restartDoors_works (s : State) : s.Works leaves (restartDoors s) := by
  refine works_forEach (fun d s => .ite ?_ (.refl s)) s
  have hderived : s.Works leaves (deriveDoor d (s.modifyDoor d Door.restarted)) :=
    State.Works.trans State.works_setDoor_same (deriveDoor_works d _)
  exact .ite (hderived.trans State.works_setDoor_same) hderived

end

theorem sampleStrobe_ages (tp pc sm : BitVec 24) (s : State) : s.Ages (sampleStrobe tp pc sm s) :=
  ages_forEach (fun d s => s.ages_modifyDoor d) s

/-! ### The end of a move (R119) -/

theorem cleared_pallet (m : Fin 32) (x : Move) (s : State) (q : Fin 256) : (cleared m x s).pallet q = s.pallet q := by
  unfold cleared
  split <;> rfl

theorem cleared_move (m : Fin 32) (x : Move) (s : State) (i : Fin 32) :
    (cleared m x s).move i = if m = i then .empty (x.generation + 1) else s.move i := by
  unfold cleared
  rw [State.move_setMove]
  refine if_congr Iff.rfl rfl ?_
  split <;> rfl

section
variable (kind : RecordKind) (f : EndFlags) (settle : Option (PalletState × Place)) (m : Fin 32) (s : State)

/-- Up to the evaluation, an end of a move writes pallets, moves, Journal and table alone. -/
theorem cleared_recorded_frame :
    s.frame [.pallets, .moves, .journal, .alarms, .attn] (cleared m (s.move m) (recorded kind f settle m s)) := by
  refine State.frame_trans (State.frame_mono (settleMoved_frame m settle s) (by decide)) (State.frame_trans
    (State.frame_mono (writeRecord_frame (moveRecord kind f (s.move m) ((settleMoved m settle s).movedPallet m) s.clock) _)
      (by decide)) ?_)
  unfold cleared
  split
  · exact State.frame_trans (frame_returnCondition (by decide) (by decide) _ _ _) (frame_setMove (by decide) _ m _)
  · exact frame_setMove (by decide) _ m _

theorem endMove_pallet (q : Fin 256) : (endMove kind f settle m s).pallet q = (settleMoved m settle s).pallet q := by
  have hrecorded : (recorded kind f settle m s).pallet q = (settleMoved m settle s).pallet q :=
    State.frame_pallet (writeRecord_frame _ _) (by decide) q
  rw [endMove_eq, State.frame_pallet (evaluateQueue_frame _) (by decide), cleared_pallet, hrecorded]

theorem endMove_move (i : Fin 32) :
    (endMove kind f settle m s).move i = if m = i then .empty ((s.move m).generation + 1) else s.move i := by
  have hrecorded : (recorded kind f settle m s).move i = s.move i :=
    (State.frame_move (writeRecord_frame _ _) (by decide) i).trans (State.frame_move (settleMoved_frame m settle s) (by decide) i)
  rw [endMove_eq, State.frame_move (evaluateQueue_frame _) (by decide), cleared_move, hrecorded]

theorem endMove_ranges (r : Fin 8) (h : (s.defrost r).inRange) : ((endMove kind f settle m s).defrost r).inRange := by
  rw [endMove_eq]
  refine (evaluateQueue_ages _).ranges r ?_
  rwa [State.frame_defrost (cleared_recorded_frame kind f settle m s) (by decide)]

/-- A pallet is left as it stood, or it is the live one under the move's tag, settled. -/
theorem endMove_pallet_cases (q : Fin 256) : (endMove kind f settle m s).pallet q = s.pallet q
    ∨ (s.pallet q).live = true ∧ (s.pallet q).tag = (s.move m).tag
      ∧ (endMove kind f settle m s).pallet q = (s.pallet q).settle settle := by
  rw [endMove_pallet]
  cases hfind : s.findPallet (s.move m).tag with
  | none =>
    have hsame : settleMoved m settle s = s := by rw [settleMoved, hfind]
    rw [hsame]
    exact .inl rfl
  | some i =>
    rw [settleMoved_of_find hfind, State.pallet_setPallet]
    split
    · next hi =>
      subst hi
      have hfound := (lowest_eq_some.mp hfind).1
      rw [Bool.and_eq_true, beq_iff_eq] at hfound
      exact .inr ⟨hfound.1, hfound.2, rfl⟩
    · exact .inl rfl

end

section
variable {leaves : Bool}

theorem expireLapse_works (m : Fin 32) (s : State) : s.Works leaves (expireLapse m s) := by
  unfold expireLapse
  dsimp only
  split
  · next hdue => exact (State.Works.ended (.stands hdue.1) _ _).aged (State.Ages.posted (.refl _) _ _ _)
  · exact .refl s

theorem expireTransit_ages (m : Fin 32) (s : State) : s.Ages (expireTransit m s) := by
  unfold expireTransit
  dsimp only
  split
  · next hdue =>
    obtain ⟨hstate, -⟩ := hdue
    have hoverdue : s.Ages (s.setMove m { s.move m with transitTimer := .stopped, overdueFlag := true }) := by
      refine s.ages_setMove m ⟨rfl, Iff.rfl, fun _ _ => rfl, fun hnot => absurd hstate hnot, fun g hempty => ?_⟩
      rw [hempty] at hstate
      cases hstate
    refine hoverdue.trans (State.ages_raiseCondition _ _ _ _ _ fun a => (State.ages_setAlarms _ a).trans ?_)
    refine State.ages_setMove _ m ⟨rfl, Iff.rfl, fun _ => id, fun _ => id, fun g hempty => ?_⟩
    rw [State.setAlarms_move, State.move_setMove_self] at hempty
    have hfree := congrArg Move.state hempty
    exact absurd (hstate.symm.trans hfree) nofun
  · exact .refl s

theorem settleTimers_works (s : State) : s.Works leaves (settleTimers s) := by
  have hrooms : s.Works leaves (settleRooms s) := .ages (.of_frame (settleRooms_frame s) (by decide))
  exact ((hrooms.trans (works_forEach settleDoor_works _)).aged (ages_forEach settleDefrost_ages _)).trans
    (works_forEach (fun m s => (expireLapse_works m s).aged (expireTransit_ages m _)) _)

theorem tickSecond_works (order : List RetryBlock) (s : State) : s.Works leaves (tickSecond order s) := by
  rw [tickSecond_eq]
  exact ((settleTimers_works s).aged (beforeRetries_ages _)).aged (retryAll_ages order _)

end

/-! ### A trailer written off or released (R56, R59) -/

theorem Move.not_namesTrailer_empty (g : BitVec 3) (d : Fin 24) : (Move.empty g).namesTrailer d = false := rfl

theorem Move.live_of_namesTrailer {x : Move} {d : Fin 24} (h : x.namesTrailer d = true) : x.live = true := by
  rw [Move.namesTrailer, Bool.and_eq_true] at h
  exact h.1

theorem writeOffMove_works (d : Fin 24) (m : Fin 32) (s : State) : s.Works true (writeOffMove d m s) := by
  unfold writeOffMove
  dsimp only
  split
  · next hnames =>
    refine .ended ?_ _ _
    cases hstate : (s.move m).state with
    | inTransit => exact .setDown hstate (.lane d) nofun
    | permitted => exact .stands hstate
    | free =>
      have hlive := Move.live_of_namesTrailer hnames
      rw [Move.live, hstate] at hlive
      cases hlive
  · exact .refl s

/-- A move written off no longer names the trailer, and the others are as they were (R59). -/
theorem writeOffMove_move (d : Fin 24) (m i : Fin 32) (s : State) :
    (writeOffMove d m s).move i = s.move i ∨ m = i ∧ ((writeOffMove d m s).move i).namesTrailer d = false := by
  unfold writeOffMove
  dsimp only
  split
  · rw [endMove_move]
    split
    · next hi => exact .inr ⟨hi, rfl⟩
    · exact .inl rfl
  · exact .inl rfl

theorem writeOffMove_ends (d : Fin 24) (m : Fin 32) (s : State) : ((writeOffMove d m s).move m).namesTrailer d = false := by
  unfold writeOffMove
  dsimp only
  split
  · rw [endMove_move, if_pos rfl]
    rfl
  · next hnames => exact Bool.eq_false_iff.mpr hnames

theorem writeOffMoves_clear (d : Fin 24) (s : State) (m : Fin 32) :
    ((forEach 32 (writeOffMove d) s).move m).namesTrailer d = false := by
  refine forEach_prefix (P := fun l t => ∀ i ∈ l, ((t : State).move i).namesTrailer d = false) nofun
    (fun l j t _ h i hi => ?_) m (List.mem_finRange m)
  obtain hi | hi := List.mem_append.mp hi
  · obtain hsame | ⟨-, hclear⟩ := writeOffMove_move d j i t
    · rw [hsame]
      exact h i hi
    · exact hclear
  · obtain rfl := List.mem_singleton.mp hi
    exact writeOffMove_ends d i t

/-- The pallets of a trailer whose moves have ended leave (R56, R59). -/
theorem settleTrailerPallets_works {state : PalletState} (hstate : state = .aboard ∨ state = .inbound) (kind : RecordKind)
    (lost : Bool) {d : Fin 24} {s : State} (hmoves : ∀ m : Fin 32, (s.move m).namesTrailer d = false) :
    s.Works true (forEach 256 (settleTrailerPallet state kind lost d) s) := by
  refine (forEach_induct (fun t : State => s.Works true t ∧ ∀ m, t.move m = s.move m) (fun q t ht => ?_)
    ⟨.refl s, fun _ => rfl⟩).1
  obtain ⟨hworks, hsame⟩ := ht
  refine ⟨hworks.trans ?_, fun m =>
    (State.frame_move (settleTrailerPallet_frame state kind lost d q t) (by decide) m).trans (hsame m)⟩
  unfold settleTrailerPallet
  split
  · next hwaits =>
    obtain ⟨hq, hlocation⟩ := hwaits
    refine .freed rfl ⟨?_, ?_, .inr ⟨d, hlocation, fun m => by rw [hsame]; exact hmoves m⟩⟩ _ _
    · rw [Pallet.live, hq]
      obtain rfl | rfl := hstate <;> rfl
    · rw [hq]
      obtain rfl | rfl := hstate <;> nofun
  · exact .refl t

theorem shipAboard_works (lost : Bool) {d : Fin 24} {s : State} (hmoves : ∀ m : Fin 32, (s.move m).namesTrailer d = false) :
    s.Works true (shipAboard lost d s) := settleTrailerPallets_works (.inl rfl) _ _ hmoves

theorem writeOff_works (d : Fin 24) (s : State) : s.Works true (writeOff d s) := by
  have hmoves : s.Works true (forEach 32 (writeOffMove d) s) := works_forEach (writeOffMove_works d) s
  have hclear := writeOffMoves_clear d s
  have hshipped := hmoves.trans (shipAboard_works true hclear)
  have hrejected := hshipped.trans (settleTrailerPallets_works (.inr rfl) .rejected true (d := d) fun m => by
    rw [State.frame_move (shipAboard_frame true d _) (by decide)]
    exact hclear m)
  have hcooled : ∀ u : State, u.Works true (u.modifyDoor d fun x => { x with trailerTemp := none }) := fun _ =>
    State.works_setDoor_same
  exact hrejected.trans (hcooled _)

/-- After a release nothing of the trailer stands at the door (R56). -/
theorem released_clear {d : Fin 24} {s : State} (hheld : s.releaseHeld d = false) (lost : Bool) :
    (shipAboard lost d s).trailerClear d := by
  have hmove := State.frame_move (shipAboard_frame lost d s) (by decide)
  have hnot := Bool.eq_false_iff.mp hheld
  rw [Ne, State.releaseHeld_iff, not_or] at hnot
  obtain ⟨hinbound, hmoves⟩ := hnot
  refine ⟨fun q => ?_, fun m => ?_⟩
  · rw [shipAboard, (settleTrailerPallets_departed .aboard .shipped lost d s).pallet q]
    split
    · exact ⟨rfl, rfl⟩
    · next hstays =>
      exact ⟨Bool.eq_false_iff.mpr fun hwaits => hstays ⟨List.mem_finRange q, hwaits⟩,
        decide_eq_false fun hwaits => hinbound ⟨q, hwaits⟩⟩
  · rw [hmove]
    refine Bool.eq_false_iff.mpr fun hnames => hmoves ⟨m, ?_⟩
    simpa [Move.namesTrailer] using hnames

/-! ### A warm restart and the entry into RUN (R92, R111, R127, R176, R177) -/

theorem restartMove_works (m : Fin 32) (s : State) : s.Works true (restartMove m s) := by
  unfold restartMove
  split
  · exact .refl s
  · next hstate => exact .ended (.stands hstate) _ _
  · next hstate => exact .ended (.back rfl hstate) _ _

/-- The restart of a defrost record keeps its settings, and sets its inhibit to 0 (R92). -/
theorem Defrost.inRange_restarted {x : Defrost} (h : x.inRange) : x.restarted.inRange := by
  unfold Defrost.restarted
  cases x.state <;> exact Defrost.inRange_inhibit (n := 0) h (Nat.zero_le _)

theorem restartDefrost_ages (s : State) : s.Ages (restartDefrost s) := by
  refine ⟨rfl, rfl, fun _ => ⟨rfl, rfl⟩, fun r h => ?_, fun _ => .refl _ _, fun _ => .refl _, id⟩
  have hdefrost : (restartDefrost s).defrost r = (s.defrost r).restarted := mapTable_entry Defrost.restarted s.defrosts r
  rw [hdefrost]
  exact Defrost.inRange_restarted h

theorem clearTable_ages (s : State) : s.Ages (clearTable s) := by
  refine ⟨rfl, rfl, fun _ => ⟨rfl, rfl⟩, fun r h => ?_, fun q => ?_, fun _ => .refl _, id⟩
  · have hdefrost : (clearTable s).defrost r = (s.defrost r).clearAlarms := mapTable_entry Defrost.clearAlarms s.defrosts r
    rw [hdefrost]
    exact h
  · have hpallet : (clearTable s).pallet q = (s.pallet q).clearUnposted := mapTable_entry Pallet.clearUnposted s.pallets q
    rw [hpallet]
    exact .of_marks fun _ => ⟨rfl, rfl⟩

theorem raiseJournalHigh_ages (s : State) : s.Ages (raiseJournalHigh s) := by
  rw [raiseJournalHigh_eq]
  exact .of_same rfl rfl rfl rfl rfl rfl id

theorem reraiseConditions_ages (s : State) : s.Ages (reraiseConditions s) := by
  have hprobes : s.Ages (forEach 32 reraiseProbe s) :=
    ages_forEach (fun c t => .ite (.refl t) (.of_frame (raiseProbeFault_frame c t) (by decide))) s
  have hlost := hprobes.trans (.of_frame (frame_forEach evaluateLost_frame _) (by decide))
  have hjournal : ∀ t : State, t.Ages (reraiseJournal t) := fun t => .ite (raiseJournalHigh_ages t) (.refl t)
  exact ((hlost.trans (ages_forEach reraiseDefrost_ages _)).trans (ages_forEach reraisePallet_ages _)).trans (hjournal _)

theorem restartPart_works (s : State) : s.Works true (restartPart s) := by
  have hmoves : s.Works true (restartMoves s) := works_forEach restartMove_works s
  have hcleared := ((hmoves.aged (restartDefrost_ages _)).aged (clearTable_ages _)).aged
    (State.Ages.posted (.refl _) .warmRestart .none none)
  have hrooms : ∀ t : State, t.Ages (restartRooms t) := ages_forEach fun r t =>
    (t.ages_modifyRoom r _).trans (.of_frame (evaluateRoom_frame r _) (by decide))
  exact ((hcleared.trans (restartDoors_works _)).aged (hrooms _)).aged (reraiseConditions_ages _)

/-- The entry into RUN leaves pallets, moves, records and classes, and resets every defrost record within its ranges (R176). -/
theorem enterRun_configured {s : State} (hmode : s.mode = .setup) : s.Configured (enterRun s) := by
  have hframe := entering_enterRun_frame s
  have hpallets : (enterRun s).pallets = s.entering.pallets := State.frame_pallets hframe (by decide)
  have hmoves : (enterRun s).moves = s.entering.moves := State.frame_moves hframe (by decide)
  refine ⟨hmode, hpallets, hmoves, ?_, fun h c => ?_, fun r h => ?_⟩
  · rw [State.frame_journal hframe (by decide)]
    rfl
  · rw [State.frame_productClass hframe (by decide)]
    exact h c
  · have hdefrost : s.entering.defrost r = (s.defrost r).entered := mapTable_entry Defrost.entered s.defrosts r
    rw [State.frame_defrost hframe (by decide), hdefrost]
    exact Defrost.inRange_risen (index := 0) h (Nat.zero_le _)

end Sys2Proof.Machine
end

section
/-! PROOFS. What the requests and every command do to pallets, moves and doors (R42 to R61, R94 to R127, R161 to R174). -/

namespace Sys2Proof.Machine

set_option Elab.async false

/-! ### An answer, by its branches -/

section
variable {P : State → Prop} {s : State} {b : Byte}

theorem onRoom_state (hs : P s) {k : Fin 8 → Answer} (h : ∀ r, P (k r).state) : P (onRoom b s k).state := by
  unfold onRoom
  split
  · exact h _
  · exact hs

theorem onDoor_state (hs : P s) {k : Fin 24 → Answer} (h : ∀ d, P (k d).state) : P (onDoor b s k).state := by
  unfold onDoor
  split
  · exact h _
  · exact hs

theorem answer_ite_state {p : Prop} [Decidable p] {a c : Answer} (h : p → P a.state) (k : ¬ p → P c.state) :
    P (if p then a else c).state := by
  split
  · next hp => exact h hp
  · next hp => exact k hp

theorem done_state {t : State} (h : P t) : P (done t).state := h

theorem onEnabledDoor_state (hs : P s) {k : Fin 24 → Answer} (h : ∀ d, P (k d).state) : P (onEnabledDoor b s k).state :=
  onDoor_state hs fun d => answer_ite_state (fun _ => h d) fun _ => hs

end

/-! ### Requests at doors (R43, R48 to R63) -/

section
variable {leaves : Bool}

theorem doorArmSeal_works (door : Byte) (s : State) : s.Works leaves (doorArmSeal door s).state :=
  onEnabledDoor_state (.refl s) fun d => answer_ite_state
    (fun _ => enterState_works (.sealing, .none) false (by rintro (h | h | h) <;> cases h)) fun _ => .refl s

theorem doorOpenPermit_works (door : Byte) (s : State) : s.Works leaves (doorOpenPermit door s).state := by
  refine onEnabledDoor_state (.refl s) fun d => answer_ite_state (fun _ => ?_) fun _ => .refl s
  split
  · exact .refl s
  · exact .refl s
  · exact answer_ite_state (fun _ => State.works_setDoor_same) fun _ => State.works_setDoor_same

theorem doorClose_works (door : Byte) (s : State) : s.Works leaves (doorClose door s).state := by
  refine onEnabledDoor_state (.refl s) fun d => ?_
  dsimp only
  split
  · exact State.works_setDoor_same
  · exact State.works_setDoor_same
  all_goals exact .refl s

theorem doorOverride_works (door on : Byte) (s : State) : s.Works leaves (doorOverride door on s).state := by
  refine onEnabledDoor_state (.refl s) fun d => ?_
  split
  · exact .refl s
  · exact State.works_setDoor_same

theorem doorRelease_works (door : Byte) (s : State) : s.Works true (doorRelease door s).state := by
  refine onEnabledDoor_state (.refl s) fun d => answer_ite_state (fun _ => ?_) fun _ => .refl s
  refine answer_ite_state (fun _ => .refl s) fun hheld => ?_
  have hheld := Bool.eq_false_iff.mpr hheld
  have hmoves : ∀ m : Fin 32, (s.move m).namesTrailer d = false := fun m => by
    rw [State.releaseHeld, Bool.or_eq_false_iff] at hheld
    exact lowest_eq_none.mp (Option.not_isSome_iff_eq_none.mp (Bool.eq_false_iff.mp hheld.2)) m
  exact (shipAboard_works false hmoves).trans
    (enterState_works (.releasing, .none) false fun _ => .inr (released_clear hheld false))

theorem doorClearFault_works (door : Byte) (s : State) : s.Works true (doorClearFault door s).state := by
  refine onEnabledDoor_state (.refl s) fun d => answer_ite_state (fun _ => answer_ite_state (fun _ => .refl s) fun _ => ?_)
    fun _ => .refl s
  have hlost : s.Works true (if (s.door d).tp.level = true then s else writeOff d s) := .ite (.refl s) (writeOff_works d s)
  have hcleared : ∀ t : State, t.Ages ((t.modifyDoor d Door.unfaulted).returnCondition .doorFault (.door d)) := fun t =>
    (t.ages_modifyDoor d).returned _ _
  exact (hlost.aged (hcleared _)).trans (deriveDoor_works d _)

theorem reportTrailerTemperature_works (door : Byte) (temperature : Word16) (s : State) :
    s.Works leaves (reportTrailerTemperature door temperature s).state :=
  onEnabledDoor_state (.refl s) fun _ => answer_ite_state (fun _ => State.works_setDoor_same) fun _ => .refl s

end

/-! ### Requests that leave every record standing -/

theorem latchRooms_ages (p : Port) (s : State) : s.Ages (latchRooms p s).state := by
  unfold latchRooms
  dsimp only
  split
  · exact s.ages_setPort p _
  · exact answer_ite_state (fun _ => s.ages_setPort p _) fun _ => .refl s

theorem readRoomSnapshot_ages (p : Port) (part : Byte) (s : State) : s.Ages (readRoomSnapshot p part s).state := by
  unfold readRoomSnapshot
  split
  · exact .refl s
  · split
    · exact .refl s
    · exact s.ages_setPort p _

theorem takeAlarm_ages (p : Port) (s : State) : s.Ages (takeAlarm p s).state := by
  unfold takeAlarm
  split
  · exact .refl s
  · exact s.ages_setAlarms _

theorem endAlarm_ages (p : Port) (s : State) : s.Ages (endAlarm p s).state := by
  unfold endAlarm
  dsimp only
  split
  · exact .refl s
  · exact s.ages_setAlarms _

theorem setAlarmRoutes_ages (p : Port) (code routed : Byte) (s : State) : s.Ages (setAlarmRoutes p code routed s).state := by
  unfold setAlarmRoutes
  split
  · exact s.ages_setAlarms _
  · exact .refl s

theorem setProbeCalibration_ages (channel : Byte) (gain offset : Word16) (s : State) :
    s.Ages (setProbeCalibration channel gain offset s).state := by
  unfold setProbeCalibration
  split
  · exact .refl s
  · exact .of_same rfl rfl rfl rfl rfl rfl id

theorem testJournalReturn_ages (s : State) : s.Ages (testJournalReturn s) :=
  .ite (.of_same rfl rfl rfl rfl rfl rfl id) (.refl s)

/-- The Journal replaced by one that is empty where it was. -/
theorem State.ages_setJournal (s : State) {j : Journal} (h : s.journal.records = [] → j.records = []) :
    s.Ages (s.setJournal j) := .of_same rfl rfl rfl rfl rfl rfl h

theorem releaseJournal_ages (count : Word16) (s : State) : s.Ages (releaseJournal count s).state := by
  have hdropped := s.ages_setJournal (j := { s.journal with
      records := s.journal.records.drop (min count.toNat s.journal.held)
      held := s.journal.held - min count.toNat s.journal.held }) fun h => by simp [h]
  exact .ite (hdropped.trans (testJournalReturn_ages _)) hdropped

theorem setJournalThreshold_ages (threshold : Word16) (s : State) : s.Ages (setJournalThreshold threshold s).state := by
  have hset := s.ages_setJournal (j := { s.journal with threshold := forceNat 1 512 threshold.toNat }) id
  have hraised : ∀ t : State, t.Ages (testJournalRaise t) := fun t => .ite (raiseJournalHigh_ages t) (.refl t)
  exact .ite ((hset.trans (hraised _)).trans (testJournalReturn_ages _)) hset

theorem limitChanged_ages (r : Fin 8) (s : State) : s.Ages (limitChanged r s) :=
  (State.Ages.of_frame (evaluateRoom_frame r s) (by decide)).trans (testRecovery_ages r _)

theorem setRoomLimits_ages (room : Byte) (upper lower highDelay lowDelay weight : Word16) (s : State) :
    s.Ages (setRoomLimits room upper lower highDelay lowDelay weight s).state :=
  onRoom_state (.refl s) fun r => (s.ages_modifyRoom r _).trans (limitChanged_ages r _)

theorem setProductCeiling_ages (room present : Byte) (ceiling : Word16) (s : State) :
    s.Ages (setProductCeiling room present ceiling s).state := by
  refine onRoom_state (.refl s) fun r => ?_
  split
  · exact .refl s
  · exact (s.ages_modifyRoom r _).trans (limitChanged_ages r _)
  · exact (s.ages_modifyRoom r _).trans (limitChanged_ages r _)

/-! ### The defrost requests (R67, R72 to R74, R80, R83, R87) -/

theorem forceNat_bounds {low high : Nat} (h : low ≤ high) (v : Nat) : low ≤ forceNat low high v ∧ forceNat low high v ≤ high := by
  unfold forceNat
  omega

/-- The record with the frost parameters of R67 stored. -/
theorem Defrost.inRange_frostParameters {x : Defrost} (h : x.inRange) (rate : Byte) (threshold limit : Nat) :
    ({ x with
      baseRate := rate.toNat, threshold := forceNat 1 65535 threshold
      hardLimit := max (forceNat 1 65535 limit) (forceNat 1 65535 threshold) } : Defrost).inRange := by
  obtain ⟨hindex, -, -, -, -, hrest⟩ := h
  obtain ⟨hlow, hhigh⟩ := forceNat_bounds (low := 1) (high := 65535) (by decide) threshold
  obtain ⟨-, hlimit⟩ := forceNat_bounds (low := 1) (high := 65535) (by decide) limit
  exact ⟨hindex, Nat.le_of_lt_succ rate.isLt, hlow, Nat.le_max_right _ _, Nat.max_le.mpr ⟨hlimit, hhigh⟩, hrest⟩

theorem setFrostParameters_ages (room baseRate : Byte) (threshold hardLimit : Word16) (s : State) :
    s.Ages (setFrostParameters room baseRate threshold hardLimit s).state := by
  refine onRoom_state (.refl s) fun r => ?_
  have hset := s.ages_modifyDefrost r (f := fun x =>
    { x with
      baseRate := baseRate.toNat, threshold := forceNat 1 65535 threshold.toNat
      hardLimit := max (forceNat 1 65535 hardLimit.toNat) (forceNat 1 65535 threshold.toNat) })
    fun _ h => Defrost.inRange_frostParameters h _ _ _
  have htested := (hset.trans (testFrostDue_ages r _)).trans (testForced_ages r _)
  exact .ite (.ite htested.evaluated htested) hset

/-- The record with the times of R87 stored. -/
theorem Defrost.inRange_times {x : Defrost} (h : x.inRange) (heating drip recovery hold : Nat) (terminate : Int) :
    ({ x with
      heatingLimit := forceNat 60 3600 heating, dripTime := forceNat 0 900 drip, recoveryLimit := forceNat 60 7200 recovery
      terminateTemp := clampTemp terminate, grantHold := forceNat 30 900 hold } : Defrost).inRange := by
  obtain ⟨h1, h2, h3, h4, h5, h6, h7, -, -, -, -, -, -, -, -, hinhibit⟩ := h
  obtain ⟨hheatingLow, hheatingHigh⟩ := forceNat_bounds (low := 60) (high := 3600) (by decide) heating
  obtain ⟨-, hdrip⟩ := forceNat_bounds (low := 0) (high := 900) (by decide) drip
  obtain ⟨hrecoveryLow, hrecoveryHigh⟩ := forceNat_bounds (low := 60) (high := 7200) (by decide) recovery
  obtain ⟨hholdLow, hholdHigh⟩ := forceNat_bounds (low := 30) (high := 900) (by decide) hold
  exact ⟨h1, h2, h3, h4, h5, h6, h7, hheatingLow, hheatingHigh, hdrip, hrecoveryLow, hrecoveryHigh, clampTemp_inTempRange _,
    hholdLow, hholdHigh, hinhibit⟩

theorem setDefrostTimes_ages (room : Byte) (heatingLimit dripTime recoveryLimit terminate grantHold : Word16) (s : State) :
    s.Ages (setDefrostTimes room heatingLimit dripTime recoveryLimit terminate grantHold s).state :=
  onRoom_state (.refl s) fun r => s.ages_modifyDefrost r fun _ h => Defrost.inRange_times h _ _ _ _ _

theorem State.ages_setQueue (s : State) (l : List (Fin 8)) : s.Ages { s with defrostQueue := l } :=
  .of_same rfl rfl rfl rfl rfl rfl id

theorem requestDefrost_ages (room : Byte) (s : State) : s.Ages (requestDefrost room s).state := by
  refine onRoom_state (.refl s) fun r => ?_
  split
  · exact ((s.ages_modifyDefrost r).trans (State.ages_setQueue _ _)).evaluated
  all_goals exact .refl s

theorem withdrawDefrost_ages (room : Byte) (s : State) : s.Ages (withdrawDefrost room s).state := by
  refine onRoom_state (.refl s) fun r => ?_
  split
  · exact ((s.ages_modifyDefrost r).trans (State.ages_setQueue _ _)).evaluated
  · exact ((s.ages_modifyDefrost r).trans (State.ages_setQueue _ _)).evaluated
  · have hlapsed := (s.ages_modifyDefrost r (f := fun x =>
      { x with state := .idle, phaseTimer := .stopped, forcedCycle := false })).trans (State.ages_returnLoad _ r)
    exact done_state (hlapsed.trans (givePermits_ages r _)).evaluated
  all_goals exact .refl s

theorem defrostBegun_ages (room : Byte) (s : State) : s.Ages (defrostBegun room s).state := by
  refine onRoom_state (.refl s) fun r => answer_ite_state (fun _ => ?_) fun _ => .refl s
  have hheating := s.ages_setDefrost r (x := { s.defrost r with
    state := .heating, terminateMark := false, phaseTimer := .start (s.defrost r).heatingLimit })
  have hforced := State.Ages.ite (p := (s.defrost r).forcedFlag = true) ((hheating.defrostRecord r (f := fun x =>
    { x with forcedFlag := false, forcedUnposted := false })).returned .defrostForced (.room r)) hheating
  exact done_state (hforced.trans (State.ages_modifyRoom _ r _))

theorem heatingEnded_ages (room cause : Byte) (s : State) : s.Ages (heatingEnded room cause s).state := by
  refine onRoom_state (.refl s) fun r => ?_
  split
  · exact .refl s
  · next c _ =>
    refine answer_ite_state (fun _ => ?_) fun _ => .refl s
    have hload := (s.ages_setDefrost r (x := { s.defrost r with
      state := .drip, phaseTimer := .stopped, forcedMark := false, lastTermination := c })).trans (State.ages_returnLoad _ r)
    have hindex := (State.Ages.ite (p := (s.defrost r).overrunFlag = true) ((hload.defrostRecord r (f := fun x =>
      { x with overrunFlag := false, overrunUnposted := false })).returned .defrostOverrun (.room r)) hload).defrostRecord r
      (f := fun x => x.risen 0) fun _ h => Defrost.inRange_risen h (Nat.zero_le _)
    exact ((State.Ages.ite ((hindex.defrostRecord r).returned _ _) hindex).defrostRecord r).evaluated

theorem inhibitDefrost_ages (room : Byte) (seconds : Word16) (s : State) : s.Ages (inhibitDefrost room seconds s).state := by
  refine onRoom_state (.refl s) fun r => ?_
  have hcleared := s.ages_setDefrost r (x := { s.defrost r with inhibit := 0 }) fun h => Defrost.inRange_inhibit h (Nat.zero_le _)
  refine .ite (.ite hcleared.evaluated hcleared) (s.ages_setDefrost r fun h => Defrost.inRange_inhibit h ?_)
  have hinhibit : (s.defrost r).inhibit ≤ 3600 := by
    obtain ⟨-, -, -, -, -, -, -, -, -, -, -, -, -, -, -, hinhibit⟩ := h
    exact hinhibit
  exact Nat.max_le.mpr ⟨hinhibit, (forceNat_bounds (by decide) _).2⟩

/-! ### Requests of SETUP alone that leave every record standing (R18, R39) -/

theorem setDoorLines_ages (tp pc sm sb pr debounce : Byte) (s : State) : s.Ages (setDoorLines tp pc sm sb pr debounce s).state := by
  unfold setDoorLines
  split
  · next tp pc sm sb pr _ _ _ _ _ =>
    have hlines : s.Ages { s with lines := ⟨tp, pc, sm, sb, pr, forceNat 1 15 debounce.toNat⟩ } :=
      .of_same rfl rfl rfl rfl rfl rfl id
    refine hlines.trans (ages_forEach (fun d s => s.ages_modifyDoor d (fun x => ?_) fun x => ?_) _)
    · split <;> rfl
    · split <;> rfl
  · exact .refl s

theorem configureRoom_ages (room kind load : Byte) (s : State) : s.Ages (configureRoom room kind load s).state := by
  refine onRoom_state (.refl s) fun r => ?_
  split
  · exact .refl s
  · refine answer_ite_state (fun hload => ?_) fun _ => .refl s
    obtain ⟨hlow, hhigh⟩ := hload
    refine (s.ages_modifyRoom r _).trans (State.ages_setDefrost _ r fun h => ?_)
    obtain ⟨h1, h2, h3, h4, h5, -, -, hrest⟩ := h
    exact ⟨h1, h2, h3, h4, h5, hlow, hhigh, hrest⟩

/-! ### The other requests of SETUP alone (R8, R42, R94, R173, R174) -/

section
variable {s : State} (hmode : s.mode = .setup)
include hmode

theorem State.Configured.of_same {t : State} (hpallets : t.pallets = s.pallets) (hmoves : t.moves = s.moves)
    (hjournal : t.journal = s.journal) (hclasses : t.classes = s.classes) (hdefrosts : t.defrosts = s.defrosts) :
    s.Configured t where
  setup := hmode
  pallets := hpallets
  moves := hmoves
  records := congrArg Journal.records hjournal
  classes h c := by rw [State.productClass, hclasses]; exact h c
  ranges r h := by rw [State.defrost, hdefrosts]; exact h

theorem configureDoor_works (door enabled room : Byte) (wp bp wf bf : Word16) :
    s.Works true (configureDoor door enabled room wp bp wf bf s).state := by
  refine onDoor_state (.refl s) fun d => ?_
  split
  · exact .configured (.of_same hmode rfl rfl rfl rfl rfl)
  · exact .refl s

theorem configureProbe_works (channel role room : Byte) : s.Works true (configureProbe channel role room s).state := by
  unfold configureProbe
  split
  · exact answer_ite_state (fun _ => answer_ite_state (fun _ => .refl s) fun _ =>
      .configured (.of_same hmode rfl rfl rfl rfl rfl)) fun _ => .refl s
  · exact .refl s

theorem configureClass_works (cls : Byte) (threshold budget warn transit defrost : Word16) :
    s.Works true (configureClass cls threshold budget warn transit defrost s).state := by
  unfold configureClass
  split
  · exact .refl s
  · next c _ =>
    refine answer_ite_state (fun hfields => .configured ⟨hmode, rfl, rfl, rfl, fun h i => ?_, fun _ => id⟩) fun _ => .refl s
    obtain ⟨hlow, hhigh, hbudget, hwarn⟩ := hfields
    dsimp only [done]
    rw [State.productClass_setClass]
    split
    · exact ⟨⟨hlow, hhigh⟩, hbudget, Nat.le_of_lt_succ budget.isLt, hwarn, Nat.le_of_lt_succ warn.isLt,
        Nat.le_of_lt_succ transit.isLt, Nat.le_of_lt_succ defrost.isLt⟩
    · exact h i

theorem setupComplete_works (p : Port) : s.Works true (setupComplete p s).state := by
  have hflag : s.Works true (s.setPort p { s.port p with setupComplete := true }) := .ages (s.ages_setPort p _)
  have hreject : ∀ (t : State) (detail : Option Word16), t.mode = .setup →
      t.Works true (t.clearSetupFlags.post .setupRejected .none detail) := fun t detail ht =>
    .configured (.of_same ht rfl rfl rfl rfl rfl)
  have hstays : (s.setPort p { s.port p with setupComplete := true }).mode = .setup := hmode
  unfold setupComplete
  generalize s.setPort p { s.port p with setupComplete := true } = t at *
  dsimp only
  split
  · split
    · dsimp only
      exact hflag.trans (.configured (enterRun_configured hstays))
    · dsimp only
      exact hflag.trans (hreject _ _ hstays)
  · exact hflag

end

/-! ### Pallets and moves (R98, R99, R116 to R126) -/

theorem State.live_of_findPallet {s : State} {tag : Word32} {q : Fin 256} (h : s.findPallet tag = some q) :
    (s.pallet q).live = true := by
  have hfound := (lowest_eq_some.mp h).1
  rw [Bool.and_eq_true] at hfound
  exact hfound.1

theorem State.unused_of_findPallet {s : State} {tag : Word32} (h : s.findPallet tag = none) (q : Fin 256)
    (hlive : (s.pallet q).live = true) : (s.pallet q).tag ≠ tag := by
  have hnot := lowest_eq_none.mp h q
  rw [hlive, Bool.true_and, beq_eq_false_iff_ne] at hnot
  exact hnot

theorem enterPallet_does (tag : Word32) (cls door : Byte) {s : State} (hmode : s.mode = .run) :
    s.Does (enterPallet tag cls door s).state := by
  unfold enterPallet
  split
  · next c d _ _ =>
    refine answer_ite_state (fun _ => .refl s) fun htag => answer_ite_state (fun _ => .refl s) fun hdoor =>
      answer_ite_state (fun _ => .refl s) fun hunique => ?_
    split
    · exact .refl s
    · next q hslot =>
      refine answer_ite_state (fun _ => ?_) fun _ => .refl s
      have hfree : (s.pallet q).live = false := by simpa using (lowest_eq_some.mp hslot).1
      obtain ⟨henabled, hworking⟩ := not_or.mp hdoor
      exact .enters (.refl s) ⟨hmode, q, tag, c, d, hfree, htag,
        State.unused_of_findPallet (Option.not_isSome_iff_eq_none.mp hunique), by simpa using henabled, by simpa using hworking,
        rfl⟩ (.refl _)
  · exact .refl s

theorem rejectPallet_works (tag : Word32) (s : State) : s.Works true (rejectPallet tag s).state := by
  refine answer_ite_state (fun _ => .refl s) fun _ => ?_
  split
  · exact .refl s
  · next q hfound =>
    refine answer_ite_state (fun _ => .refl s) fun hfree => .freed rfl ⟨State.live_of_findPallet hfound, ?_, .inl ?_⟩ _ _
    · exact fun hstate => hfree (.inr (.inl hstate))
    · exact Option.not_isSome_iff_eq_none.mp fun hhandle => hfree (.inl hhandle)

section
variable {leaves : Bool}

theorem requestMoveTo_works {s : State} {q : Fin 256} {origin dest : Place} (hlive : (s.pallet q).live = true)
    (hstate : (s.pallet q).state ≠ .inTransit) (hhandle : (s.pallet q).handle = none)
    (hlocation : (s.pallet q).location = .at origin) (hsite : s.onSite dest = true) :
    s.Works leaves (requestMoveTo q origin dest s).state := by
  refine answer_ite_state (fun _ => .refl s) fun hworking => answer_ite_state (fun _ => .refl s) fun _ =>
    answer_ite_state (fun _ => .refl s) fun _ => answer_ite_state (fun _ => .refl s) fun _ => ?_
  split
  · exact .refl s
  · next m hslot =>
    refine answer_ite_state (fun _ => .permitted ⟨hlive, hstate, hhandle, hlocation, ?_, hsite, ?_⟩) fun _ => .refl s
    · simpa using (lowest_eq_some.mp hslot).1
    · simpa using (not_or.mp hworking).2

theorem requestMove_works (tag : Word32) (b : Byte) (s : State) : s.Works leaves (requestMove tag b s).state := by
  refine answer_ite_state (fun _ => .refl s) fun _ => ?_
  split
  · exact .refl s
  · next q hfound =>
    refine answer_ite_state (fun _ => .refl s) fun hfree => ?_
    obtain ⟨hstate, hhandle⟩ := not_or.mp hfree
    split
    · next origin dest hlocation _ =>
      refine answer_ite_state (fun _ => .refl s) fun hplace => ?_
      exact requestMoveTo_works (State.live_of_findPallet hfound) hstate (Option.not_isSome_iff_eq_none.mp hhandle) hlocation
        (by simpa using (not_or.mp hplace).1)
    all_goals exact .refl s

theorem State.setDownPlace_not_trailer {s : State} {b : Byte} {p : Place} (h : s.setDownPlace b = some p) :
    p.isTrailer = false := by
  unfold State.setDownPlace at h
  split at h
  · split at h
    · next hplace =>
      cases h
      simpa using hplace.2
    · cases h
  · cases h

/-- A PUT sets its pallet down at a trailer only where that is the destination (R122, R123). -/
theorem State.putPlace_trailer {s : State} {m : Fin 32} {actual : Option Byte} {p : Place} {diverted : Bool}
    (h : s.putPlace m actual = some (p, diverted)) (htrailer : p.isTrailer = true) : (s.move m).destination = some p := by
  cases actual with
  | none =>
    obtain ⟨dest, hdest, heq⟩ := Option.map_eq_some_iff.mp h
    cases heq
    exact hdest
  | some b =>
    obtain ⟨place, hplace, heq⟩ := Option.map_eq_some_iff.mp h
    cases heq
    exact absurd ((State.setDownPlace_not_trailer hplace).symm.trans htrailer) nofun

theorem put_works (b : Byte) (actual : Option Byte) (s : State) : s.Works leaves (put b actual s).state := by
  unfold put
  split
  · exact .refl s
  · refine answer_ite_state (fun hstate => ?_) fun _ => .refl s
    split
    · exact .refl s
    · next p diverted hplace => exact .ended (.setDown hstate p (State.putPlace_trailer hplace)) _ _

theorem State.live_of_resolve {s : State} {b : Byte} {m : Fin 32} (h : s.resolve b = some m) : (s.move m).live = true := by
  unfold State.resolve at h
  dsimp only at h
  split at h
  · next hnames =>
    cases h
    exact hnames.1
  · cases h

theorem cancelMove_works (b : Byte) (location : Option Byte) (s : State) : s.Works true (cancelMove b location s).state := by
  unfold cancelMove
  split
  · exact .refl s
  · next m hresolve =>
    refine answer_ite_state (fun hstate => .ended (.stands hstate) _ _) fun hstate => ?_
    have hpicked : (s.move m).state = .inTransit := by
      have hlive := State.live_of_resolve hresolve
      cases hs : (s.move m).state with
      | free => rw [Move.live, hs] at hlive; cases hlive
      | permitted => exact absurd hs hstate
      | inTransit => rfl
    split
    · exact .ended (.back rfl hpicked) _ _
    · split
      · exact .refl s
      · next p hplace =>
        have htrailer := State.setDownPlace_not_trailer hplace
        have hdown := State.Settles.setDown (leaves := true) hpicked p fun h => absurd (htrailer.symm.trans h) nofun
        rw [htrailer] at hdown
        exact .ended hdown _ _

end

/-! ### A request performed -/

/-- The requests that enter a pallet. -/
def entersPallets : Request → Bool
  | .enterPallet .. => true
  | _ => false

/-- A row that SETUP takes parses no request that enters a pallet (R163). -/
theorem requestTable_entersPallets : ∀ row ∈ requestTable,
    row.setup = .wrongMode ∨ ∀ l, (row.parse l).all (fun r => !entersPallets r) = true := by
  simp only [requestTable, List.forall_mem_cons, reduceCtorEq, false_or, true_or, true_and, List.not_mem_nil, false_imp_iff,
    implies_true, and_true]
  and_intros
  all_goals
    intro l
    split <;> rfl

theorem State.run_of_entersPallets {s : State} {p : Port} {code : Byte} {row : RequestRow} (hrow : requestRow code = some row)
    (htakes : s.takes p row = true) {l : List Byte} {r : Request} (hr : row.parse l = some r) (henters : entersPallets r = true) :
    s.mode = .run := by
  cases hmode : s.mode with
  | run => rfl
  | setup =>
    obtain hwrong | hparse := requestTable_entersPallets row (requestRow_mem hrow)
    · rw [State.takes, hmode] at htakes
      dsimp only at htakes
      rw [hwrong] at htakes
      cases htakes
    · have hnot := hparse l
      rw [hr, Option.all_some, henters] at hnot
      cases hnot

theorem perform_does (p : Port) {r : Request} {s : State} (h : FitsMode r s) (henters : entersPallets r = true → s.mode = .run) :
    s.Does (perform p r s).state := by
  unfold perform
  cases r with
  | readStatus part => exact (readStatus_state p part s).symm ▸ .refl s
  | readClock => exact .refl s
  | readRoom room => exact onRoom_state (.refl s) fun _ => .refl s
  | latchRooms => exact .of_ages (latchRooms_ages p s)
  | readRoomSnapshot part => exact .of_ages (readRoomSnapshot_ages p part s)
  | readDoor door => exact onDoor_state (.refl s) fun d => .works State.works_setDoor_same
  | readPallet tag => exact (readPallet_state tag s).symm ▸ .refl s
  | readProbe channel => exact (readProbe_state channel s).symm ▸ .refl s
  | takeAlarm => exact .of_ages (takeAlarm_ages p s)
  | endAlarm => exact .of_ages (endAlarm_ages p s)
  | setAlarmRoutes code routed => exact .of_ages (setAlarmRoutes_ages p code routed s)
  | setAlarmFloor floor => exact .of_ages (s.ages_setAlarms _)
  | setupComplete => exact .works (setupComplete_works (h.mode_setup rfl) p)
  | warmRestart => exact done_state (.works (restartPart_works s))
  | configureDoor => exact .works (configureDoor_works (h.mode_setup rfl) _ _ _ _ _ _ _)
  | setDoorLines => exact .of_ages (setDoorLines_ages _ _ _ _ _ _ s)
  | setDoorTimes door sl bg rt => exact onDoor_state (.refl s) fun d => .works State.works_setDoor_same
  | doorArmSeal door => exact .works (doorArmSeal_works door s)
  | doorOpenPermit door => exact .works (doorOpenPermit_works door s)
  | doorClose door => exact .works (doorClose_works door s)
  | doorRelease door => exact .works (doorRelease_works door s)
  | doorOverride door on => exact .works (doorOverride_works door on s)
  | doorClearFault door => exact .works (doorClearFault_works door s)
  | reportTrailerTemperature door temperature => exact .works (reportTrailerTemperature_works door temperature s)
  | configureRoom => exact .of_ages (configureRoom_ages _ _ _ s)
  | configureProbe => exact .works (configureProbe_works (h.mode_setup rfl) _ _ _)
  | setProbeCalibration channel gain offset => exact .of_ages (setProbeCalibration_ages channel gain offset s)
  | setRoomLimits room upper lower hd ld weight => exact .of_ages (setRoomLimits_ages room upper lower hd ld weight s)
  | setFrostParameters room rate threshold limit => exact .of_ages (setFrostParameters_ages room rate threshold limit s)
  | setDefrostTimes room hl dt rl tt gh => exact .of_ages (setDefrostTimes_ages room hl dt rl tt gh s)
  | setHeaterCapacity => exact answer_ite_state (fun _ => .of_ages (.of_same rfl rfl rfl rfl rfl rfl id)) fun _ => .refl s
  | requestDefrost room => exact .of_ages (requestDefrost_ages room s)
  | withdrawDefrost room => exact .of_ages (withdrawDefrost_ages room s)
  | defrostBegun room => exact .of_ages (defrostBegun_ages room s)
  | heatingEnded room cause => exact .of_ages (heatingEnded_ages room cause s)
  | configureClass => exact .works (configureClass_works (h.mode_setup rfl) _ _ _ _ _ _)
  | setExposureTick => exact answer_ite_state (fun _ => .of_ages (.of_same rfl rfl rfl rfl rfl rfl id)) fun _ => .refl s
  | setMoveTimes pl tl => exact .of_ages (.of_same rfl rfl rfl rfl rfl rfl id)
  | setJournalThreshold threshold => exact .of_ages (setJournalThreshold_ages threshold s)
  | enterPallet tag cls door => exact enterPallet_does tag cls door (henters rfl)
  | rejectPallet tag => exact .works (rejectPallet_works tag s)
  | requestMove tag destination => exact .works (requestMove_works tag destination s)
  | pick handle => exact .works (.picked s handle)
  | put handle actual => exact .works (put_works handle actual s)
  | cancelMove handle location => exact .works (cancelMove_works handle location s)
  | readJournal count => exact (readJournal_state count s).symm ▸ .refl s
  | releaseJournal count => exact .of_ages (releaseJournal_ages count s)
  | setProductCeiling room present ceiling => exact .of_ages (setProductCeiling_ages room present ceiling s)
  | inhibitDefrost room seconds => exact .of_ages (inhibitDefrost_ages room seconds s)

/-! ### Every command -/

theorem answerFrame_does (p : Port) (f : Frame) (s : State) : s.Does (answerFrame p f s).state := by
  unfold answerFrame
  split
  · exact .refl s
  · next row hrow =>
    refine answer_ite_state (fun _ => ?_) fun _ => .refl s
    split
    · exact .refl s
    · next r hr =>
      exact answer_ite_state (fun htakes => perform_does p (State.fitsMode_of_takes hrow htakes hr)
        (State.run_of_entersPallets hrow htakes hr)) fun _ => .refl s

theorem takeFrame_does (p : Port) (f : Frame) (s : State) : s.Does (takeFrame p f s) :=
  ((answerFrame_does p f _).aged (State.ages_setPort _ p _)).before fun _ => settleTimers_works s

theorem State.Does.ite {p : Prop} [Decidable p] {s t u : State} (h : s.Does t) (k : s.Does u) : s.Does (if p then t else u) := by
  split
  · exact h
  · exact k

theorem frameCompletes_does (p : Port) (f : Frame) (s : State) : s.Does (frameCompletes p f s) := by
  unfold frameCompletes
  split
  · exact takeFrame_does p f s
  · exact .of_ages (s.ages_setPort p _)
  · exact .of_ages (s.ages_setPort p _)

/-- A port's record written, and then a frame completed or taken. -/
theorem State.Does.after_setPort {s t : State} {p : Port} {x : PortControl} (h : (s.setPort p x).Does t) : s.Does t :=
  h.before fun _ => .ages (s.ages_setPort p x)

theorem frameArrives_does (p : Port) (f : Frame) (s : State) : s.Does (frameArrives p f s) :=
  .ite (.refl s) (frameCompletes_does p f _).after_setPort

theorem unknownArrives_does (p : Port) (code tag : Byte) (payload : List Byte) (s : State) :
    s.Does (unknownArrives p code tag payload s) := .ite (frameArrives_does p _ s) (.refl s)

theorem receiveByte_does (p : Port) (b : Byte) (stopMark : Bool) (s : State) : s.Does (receiveByte p b stopMark s) := by
  unfold receiveByte
  dsimp only
  refine .ite (.refl s) (.ite (.of_ages (s.ages_setPort p _)) ?_)
  split
  · exact .of_ages (s.ages_setPort p _)
  · exact (frameCompletes_does p _ _).after_setPort

theorem endReply_does (p : Port) (s : State) : s.Does (endReply p s) := by
  unfold endReply
  dsimp only
  split
  · exact .refl s
  · exact .of_ages (s.ages_setPort p _)
  · exact (takeFrame_does p _ _).after_setPort

/-- What any command but a cold reset does to pallets, moves and doors. -/
theorem exec_does {c : Instr} {s t : State} (h : exec c s = .next t) (hreset : c ≠ .coldReset) : s.Does t := by
  cases c
  case coldReset => exact absurd rfl hreset
  case secondTick order => cases h; exact .works (tickSecond_works order s)
  case sampleStrobe tp pc sm => cases h; exact .of_ages (sampleStrobe_ages tp pc sm s)
  case debouncedChange d i => cases h; exact .works (debouncedChange_works d i s)
  case exposureTick first => cases h; exact .of_ages (tickExposure_ages first s)
  case converterTransactionComplete bits => cases h; exact .of_ages (.of_frame (completeTransaction_frame bits s) (by decide))
  case converterReplyLimitExpiry => cases h; exact .of_ages (.of_frame (expireReplyLimit_frame s) (by decide))
  case roundComplete first => cases h; exact .of_ages (completeRound_ages first s)
  case highTimerExpiry r => cases h; exact .of_ages (.of_frame (expireHigh_frame r s) (by decide))
  case lowTimerExpiry r => cases h; exact .of_ages (.of_frame (expireLow_frame r s) (by decide))
  case sealTimerExpiry d => cases h; exact .works (expireSeal_works d s)
  case breachGraceExpiry d => cases h; exact .works (expireBreach_works d s)
  case releaseTimerExpiry d => cases h; exact .works (expireRelease_works d s)
  case grantHoldExpiry r => cases h; exact .of_ages (expireGrantHold_ages r s)
  case heatingLimitExpiry r => cases h; exact .of_ages (expireHeating_ages r s)
  case dripTimeExpiry r => cases h; exact .of_ages (expireDrip_ages r s)
  case recoveryLimitExpiry r => cases h; exact .of_ages (expireRecovery_ages r s)
  case inhibitExpiry r => cases h; exact .of_ages (expireInhibit_ages r s)
  case lapseTimerExpiry m => cases h; exact .works (expireLapse_works m s)
  case transitTimerExpiry m => cases h; exact .of_ages (expireTransit_ages m s)
  case byteReceived p b stopMark => cases h; exact receiveByte_does p b stopMark s
  case unknownRequest p code tag payload => cases h; exact unknownArrives_does p code tag payload s
  case frameGapTimeout p => cases h; exact .of_ages (s.ages_setPort p _)
  case replySent p => cases h; exact endReply_does p s
  case linkReset p => cases h; exact .of_ages (.ite (.refl s) ((s.ages_setPort p _).trans (State.ages_setAlarms _ _)))
  case rxReturnToMark p => cases h; exact .of_ages (.ite (s.ages_setPort p _) (.refl s))
  all_goals
    cases h
    exact frameArrives_does _ _ s

/-- An invariant holds after a step where it holds after a cold reset, what a command does keeps it, and the commands that wait do
not matter to it. -/
theorem step_keeps {P : State → Prop} {s t : State} (hs : P s) (hstep : step s = .next t)
    (hpending : ∀ (u : State) (l : List Instr), P u → P { u with pending := l }) (hreset : P State.reset)
    (hdoes : ∀ u v : State, P u → u.Does v → P v) : P t := by
  unfold step at hstep
  split at hstep
  · cases hstep
    exact hs
  · next c rest _ =>
    by_cases hc : c = .coldReset
    · subst hc
      cases hstep
      exact hpending _ _ hreset
    · exact hdoes _ t (hpending s rest hs) (exec_does hstep hc)

end Sys2Proof.Machine
end

section
/-! PROOFS. O19: every step keeps pallets, moves and doors in agreement (R45, R96, R98, R112 to R114), by each way in which a command
can change them. -/

namespace Sys2Proof.Machine

set_option Elab.async false

/-! ### Records that stand -/

theorem Pallet.Ages.agrees {budget : Nat} {x y : Pallet} (h : x.Ages budget y) (hx : x.agrees) : y.agrees := by
  unfold Pallet.agrees at hx ⊢
  rw [h.state, h.location, h.pickState, h.handle]
  cases hstate : x.state with
  | free =>
    rw [hstate] at hx
    exact h.empty hx
  | _ =>
    rw [hstate] at hx
    exact hx

theorem State.handleAt_congr {s t : State} {m : Fin 32} (h : (t.move m).generation = (s.move m).generation) :
    t.handleAt m = s.handleAt m := by rw [State.handleAt, h]; rfl

theorem State.Ages.moveAgrees {s t : State} (h : s.Ages t) {m : Fin 32} (hm : s.moveAgrees m) : t.moveAgrees m := by
  have k := h.move m
  have hhandle : t.handleAt m = s.handleAt m := State.handleAt_congr k.generation
  unfold State.moveAgrees at hm ⊢
  rw [k.state, k.origin, k.destination, k.tag, k.pickTime, hhandle]
  cases hstate : (s.move m).state with
  | free =>
    rw [hstate] at hm
    rw [k.generation]
    exact k.empty _ hm
  | permitted =>
    rw [hstate] at hm
    obtain ⟨⟨o, d, ho, hd, q, hlive, htag, hq, hlocation⟩, hpick, hlapse, htransit, hoverdue⟩ := hm
    have hp := h.pallet q
    have hrides : (s.move m).state ≠ .inTransit := by rw [hstate]; nofun
    exact ⟨⟨o, d, ho, hd, q, hp.live.trans hlive, hp.tag.trans htag, hp.handle.trans hq, hp.location.trans hlocation⟩, hpick,
      fun hstopped => hlapse (k.lapse.mp hstopped), k.transit hrides htransit, k.overdue hrides hoverdue⟩
  | inTransit =>
    rw [hstate] at hm
    obtain ⟨⟨o, d, ho, hd, q, htag, hq, htransit, hback⟩, hpick, hlapse⟩ := hm
    have hp := h.pallet q
    exact ⟨⟨o, d, ho, hd, q, hp.tag.trans htag, hp.handle.trans hq, hp.state.trans htransit, by rw [hp.pickState]; exact hback⟩,
      hpick, k.lapse.mpr hlapse⟩

theorem State.trailerHeld_of {s t : State} {d : Fin 24} (h : t.trailerHeld d = true)
    (hpallet : ∀ q, (t.pallet q).atTrailer d = true → (s.pallet q).atTrailer d = true)
    (hmove : ∀ m, (t.move m).namesTrailer d = true → (s.move m).namesTrailer d = true) : s.trailerHeld d = true := by
  simp only [State.trailerHeld, Bool.or_eq_true, lowest_isSome] at h ⊢
  exact h.imp (fun ⟨q, hq⟩ => ⟨q, hpallet q hq⟩) fun ⟨m, hm⟩ => ⟨m, hmove m hm⟩

theorem State.recordsKept.aged {s t : State} (hkept : s.recordsKept) (h : s.Ages t) : t.recordsKept := by
  obtain ⟨⟨hzero, hunique⟩, hhandles, hagrees, hmoves, hdoors, hsetup⟩ := hkept
  refine ⟨⟨fun q hq => ?_, fun q q' hq hq' htag => ?_⟩, fun q k hk => ?_, fun q => (h.pallet q).agrees (hagrees q),
    fun m => h.moveAgrees (hmoves m), fun d hheld => ?_, fun hmode => ?_⟩
  · rw [(h.pallet q).tag]
    exact hzero q ((h.pallet q).live ▸ hq)
  · rw [(h.pallet q).tag, (h.pallet q').tag] at htag
    exact hunique q q' ((h.pallet q).live ▸ hq) ((h.pallet q').live ▸ hq') htag
  · have hm := h.move k.slot
    rw [(h.pallet q).handle] at hk
    rw [hm.live, hm.generation, hm.tag, (h.pallet q).tag]
    exact hhandles q k hk
  · rw [(h.door d).1, (h.door d).2]
    refine hdoors d (State.trailerHeld_of hheld (fun q hq => ?_) fun m hm => (h.move m).namesTrailer d ▸ hm)
    rwa [Pallet.atTrailer, (h.pallet q).live, (h.pallet q).location] at hq
  · obtain ⟨hpallets, hfree, hrecords⟩ := hsetup (h.mode ▸ hmode)
    exact ⟨fun q => (h.pallet q).live.trans (hpallets q), fun m => (h.move m).live.trans (hfree m), h.records hrecords⟩

/-! ### Doors (R45) -/

/-- With states and locations in agreement, a door without the traces of a trailer is not trailer-held (R45, R96). -/
theorem State.recordsKept.not_held {s : State} (hkept : s.recordsKept) {d : Fin 24} (h : s.trailerClear d) :
    s.trailerHeld d = false := by
  obtain ⟨hpallets, hmoves⟩ := h
  refine Bool.eq_false_iff.mpr fun hheld => ?_
  simp only [State.trailerHeld, Bool.or_eq_true, lowest_isSome] at hheld
  obtain ⟨q, hq⟩ | ⟨m, hm⟩ := hheld
  · rw [Pallet.atTrailer, Bool.and_eq_true, beq_iff_eq] at hq
    obtain ⟨haboard, hinbound⟩ := hpallets q
    obtain hw | hw := (hkept.agrees q).at_trailer.mp hq.2
    · exact absurd (haboard.symm.trans hw) nofun
    · exact absurd (hinbound.symm.trans hw) nofun
  · exact absurd ((hmoves m).symm.trans hm) nofun

/-- What a trailer-held door is (R45). -/
def Door.mayHold (x : Door) : Prop := x.enabled = true ∧ ¬ x.state.bare

theorem Door.mayHold_iff (x : Door) :
    x.mayHold ↔ x.enabled = true ∧ x.state ≠ .vacant ∧ x.state ≠ .docked ∧ x.state ≠ .releasing := by
  rw [Door.mayHold, DoorState.bare, not_or, not_or]

theorem State.recordsKept.mayHold {s : State} (hkept : s.recordsKept) {d : Fin 24} (hheld : s.trailerHeld d = true) :
    (s.door d).mayHold := by
  obtain ⟨-, -, -, -, hdoors, -⟩ := hkept
  exact (Door.mayHold_iff _).mpr (hdoors d hheld)

theorem State.recordsKept.setDoor {s : State} (hkept : s.recordsKept) {d : Fin 24} {x : Door}
    (henabled : x.enabled = (s.door d).enabled) (hbare : x.state.bare → (s.door d).state.bare ∨ s.trailerClear d) :
    (s.setDoor d x).recordsKept := by
  have hhold : ∀ i, s.trailerHeld i = true → ((s.setDoor d x).door i).mayHold := fun i hheld => by
    obtain ⟨hon, hnot⟩ := hkept.mayHold hheld
    rw [State.door_setDoor]
    split
    · next hi =>
      subst hi
      refine ⟨henabled.trans hon, fun hx => (hbare hx).elim hnot fun hclear => ?_⟩
      exact absurd ((hkept.not_held hclear).symm.trans hheld) nofun
    · exact ⟨hon, hnot⟩
  obtain ⟨htags, hhandles, hagrees, hmoves, -, hsetup⟩ := hkept
  exact ⟨htags, hhandles, hagrees, hmoves, fun i hheld => (Door.mayHold_iff _).mp (hhold i hheld), hsetup⟩

/-! ### One pallet rewritten, with the moves it is named by -/

/-- In RUN one pallet is rewritten, and with it every move entry that it names or that names it from then on. -/
structure State.Rewrites (s t : State) (q : Fin 256) (changed : Fin 32 → Prop) : Prop where
  run : s.mode = .run
  mode : t.mode = s.mode
  door : ∀ d : Fin 24, t.door d = s.door d
  pallet : ∀ i : Fin 256, i ≠ q → t.pallet i = s.pallet i
  move : ∀ m : Fin 32, ¬ changed m → t.move m = s.move m
  unique : (t.pallet q).live = true → (t.pallet q).tag ≠ 0
    ∧ ∀ i : Fin 256, i ≠ q → (s.pallet i).live = true → (s.pallet i).tag ≠ (t.pallet q).tag
  agrees : (t.pallet q).agrees
  handle : ∀ h, (t.pallet q).handle = some h →
    (t.move h.slot).live = true ∧ (t.move h.slot).generation = h.generation ∧ (t.move h.slot).tag = (t.pallet q).tag
  left : ∀ h, (s.pallet q).handle = some h → changed h.slot
  others : ∀ i : Fin 256, i ≠ q → ∀ h, (s.pallet i).handle = some h → ¬ changed h.slot
  moved : ∀ m : Fin 32, changed m → t.moveAgrees m
  stands : ∀ d : Fin 24, (t.pallet q).atTrailer d = true → s.trailerHeld d = true ∨ (s.door d).mayHold
  names : ∀ (d : Fin 24) (m : Fin 32), changed m → (t.move m).namesTrailer d = true → s.trailerHeld d = true ∨ (s.door d).mayHold

section
variable {s t : State} {q : Fin 256} {changed : Fin 32 → Prop}

/-- A move entry that is left, with its pallet, agrees as before. -/
theorem State.Rewrites.moveAgrees (k : s.Rewrites t q changed) {m : Fin 32} (hm : ¬ changed m) (h : s.moveAgrees m) :
    t.moveAgrees m := by
  have hmove := k.move m hm
  have hhandle : t.handleAt m = s.handleAt m := State.handleAt_congr (by rw [hmove])
  have hpallet : ∀ i, (s.pallet i).handle = some (s.handleAt m) → t.pallet i = s.pallet i := fun i hi =>
    k.pallet i (by rintro rfl; exact hm (k.left _ hi))
  unfold State.moveAgrees at h ⊢
  rw [hmove, hhandle]
  cases hstate : (s.move m).state with
  | free =>
    rw [hstate] at h
    exact h
  | permitted =>
    rw [hstate] at h
    obtain ⟨⟨o, d, ho, hd, i, hlive, htag, hi, hlocation⟩, hrest⟩ := h
    have hp := hpallet i hi
    exact ⟨⟨o, d, ho, hd, i, hp.symm ▸ hlive, hp.symm ▸ htag, hp.symm ▸ hi, hp.symm ▸ hlocation⟩, hrest⟩
  | inTransit =>
    rw [hstate] at h
    obtain ⟨⟨o, d, ho, hd, i, htag, hi, htransit, hback⟩, hrest⟩ := h
    have hp := hpallet i hi
    exact ⟨⟨o, d, ho, hd, i, hp.symm ▸ htag, hp.symm ▸ hi, hp.symm ▸ htransit, hp.symm ▸ hback⟩, hrest⟩

theorem State.Rewrites.mayHold (hkept : s.recordsKept) (k : s.Rewrites t q changed) {d : Fin 24} (hheld : t.trailerHeld d = true) :
    (t.door d).mayHold := by
  rw [k.door]
  have hbefore : s.trailerHeld d = true ∨ (s.door d).mayHold := by
    simp only [State.trailerHeld, Bool.or_eq_true, lowest_isSome] at hheld ⊢
    obtain ⟨i, hi⟩ | ⟨m, hm⟩ := hheld
    · by_cases hiq : i = q
      · subst hiq
        simpa only [State.trailerHeld, Bool.or_eq_true, lowest_isSome] using k.stands d hi
      · rw [k.pallet i hiq] at hi
        exact .inl (.inl ⟨i, hi⟩)
    · by_cases hc : changed m
      · simpa only [State.trailerHeld, Bool.or_eq_true, lowest_isSome] using k.names d m hc hm
      · rw [k.move m hc] at hm
        exact .inl (.inr ⟨m, hm⟩)
  exact hbefore.elim hkept.mayHold id

theorem State.recordsKept.rewritten (hkept : s.recordsKept) (k : s.Rewrites t q changed) : t.recordsKept := by
  have hhold := fun d (hheld : t.trailerHeld d = true) => (Door.mayHold_iff _).mp (k.mayHold hkept hheld)
  obtain ⟨⟨hzero, hunique⟩, hhandles, hagrees, hmoves, -, -⟩ := hkept
  refine ⟨⟨fun i hi => ?_, fun i i' hi hi' htag => ?_⟩, fun i h hh => ?_, fun i => ?_, fun m => ?_, hhold, fun hmode => ?_⟩
  · by_cases hiq : i = q
    · subst hiq
      exact (k.unique hi).1
    · rw [k.pallet i hiq] at hi ⊢
      exact hzero i hi
  · by_cases hiq : i = q
    · by_cases hiq' : i' = q
      · rw [hiq, hiq']
      · subst hiq
        rw [k.pallet i' hiq'] at hi' htag
        exact absurd htag.symm ((k.unique hi).2 i' hiq' hi')
    · rw [k.pallet i hiq] at hi htag
      by_cases hiq' : i' = q
      · subst hiq'
        exact absurd htag ((k.unique hi').2 i hiq hi)
      · rw [k.pallet i' hiq'] at hi' htag
        exact hunique i i' hi hi' htag
  · by_cases hiq : i = q
    · subst hiq
      exact k.handle h hh
    · rw [k.pallet i hiq] at hh ⊢
      rw [k.move _ (k.others i hiq h hh)]
      exact hhandles i h hh
  · by_cases hiq : i = q
    · subst hiq
      exact k.agrees
    · rw [k.pallet i hiq]
      exact hagrees i
  · by_cases hc : changed m
    · exact k.moved m hc
    · exact k.moveAgrees hc (hmoves m)
  · rw [k.mode, k.run] at hmode
    cases hmode

end

/-! ### What is known of a live record (R96, R110, R132) -/

section
variable {s : State} (hkept : s.recordsKept)
include hkept

theorem State.recordsKept.run_of_pallet {q : Fin 256} (hlive : (s.pallet q).live = true) : s.mode = .run := by
  obtain ⟨-, -, -, -, -, hsetup⟩ := hkept
  cases hmode : s.mode with
  | run => rfl
  | setup => exact absurd (((hsetup hmode).1 q).symm.trans hlive) nofun

theorem State.recordsKept.run_of_move {m : Fin 32} (hlive : (s.move m).live = true) : s.mode = .run := by
  obtain ⟨-, -, -, -, -, hsetup⟩ := hkept
  cases hmode : s.mode with
  | run => rfl
  | setup => exact absurd (((hsetup hmode).2.1 m).symm.trans hlive) nofun

/-- No other live pallet carries a live pallet's tag (R98). -/
theorem State.recordsKept.unique {q : Fin 256} (hlive : (s.pallet q).live = true) : (s.pallet q).tag ≠ 0
    ∧ ∀ i : Fin 256, i ≠ q → (s.pallet i).live = true → (s.pallet i).tag ≠ (s.pallet q).tag := by
  obtain ⟨hzero, hunique⟩ := hkept.tags
  exact ⟨hzero q hlive, fun i hiq hi htag => hiq (hunique i q hi hlive htag)⟩

/-- A pallet that waits at a trailer none of whose moves is live has no move of its own (R112, R114). -/
theorem State.recordsKept.handle_none {q : Fin 256} (h : s.mayLeave q) : (s.pallet q).handle = none := by
  obtain ⟨-, hstate, hnone | ⟨d, hlocation, hclear⟩⟩ := h
  · exact hnone
  · refine Option.eq_none_iff_forall_ne_some.mpr fun k hk => ?_
    have hunique := fun i (hi : (s.pallet i).handle = some (s.handleAt k.slot)) => hkept.handle_unique hi hk rfl
    obtain ⟨-, hhandles, -, hmoves, -⟩ := hkept
    obtain ⟨hlive, -⟩ := hhandles q k hk
    have hagrees := hmoves k.slot
    unfold State.moveAgrees at hagrees
    cases hm : (s.move k.slot).state with
    | free => rw [Move.live, hm] at hlive; cases hlive
    | permitted =>
      rw [hm] at hagrees
      obtain ⟨⟨o, _, ho, -, i, -, -, hi, hat⟩, -⟩ := hagrees
      obtain rfl := hunique i hi
      rw [hlocation] at hat
      cases hat
      have hnames : (s.move k.slot).namesTrailer d = true := by simp [Move.namesTrailer, hlive, ho]
      exact absurd ((hclear k.slot).symm.trans hnames) nofun
    | inTransit =>
      rw [hm] at hagrees
      obtain ⟨⟨_, _, -, -, i, -, hi, htransit, -⟩, -⟩ := hagrees
      obtain rfl := hunique i hi
      exact hstate htransit

/-- A live pallet that is not IN_TRANSIT stands as its state says, whatever its handle (R96). -/
theorem State.recordsKept.agrees_handle {q : Fin 256} (hlive : (s.pallet q).live = true) (hstate : (s.pallet q).state ≠ .inTransit)
    (handle : Option Handle) : ({ s.pallet q with handle := handle } : Pallet).agrees := by
  have hagrees := hkept.agrees q
  unfold Pallet.agrees at hagrees ⊢
  dsimp only
  cases hs : (s.pallet q).state with
  | free => rw [Pallet.live, hs] at hlive; cases hlive
  | inTransit => exact absurd hs hstate
  | _ =>
    rw [hs] at hagrees
    exact hagrees

/-! ### A pallet that enters or leaves (R97, R98) -/

theorem State.recordsKept.entered {t : State} (h : s.Enters t) : t.recordsKept := by
  obtain ⟨hmode, q, tag, c, d, hfree, hzero, hunique, henabled, hworking, rfl⟩ := h
  have hnew := s.pallet_setPallet_self q (.entering tag c d s.clock)
  refine hkept.rewritten (q := q) (changed := fun _ => False) ⟨hmode, rfl, fun _ => rfl, fun i hi => State.pallet_setPallet_ne _ _ hi,
    fun _ _ => rfl, fun _ => ?_, ?_, fun h hh => ?_, fun h hh => ?_, fun _ _ _ _ => id, fun _ => False.elim, fun e he => ?_,
    fun _ _ => False.elim⟩
  · rw [hnew]
    exact ⟨hzero, fun i _ hi => hunique i hi⟩
  · rw [hnew]
    exact ⟨⟨d, rfl⟩, rfl⟩
  · rw [hnew] at hh
    cases hh
  · exact absurd (hfree.symm.trans (hkept.live_of_handle hh)) nofun
  · rw [hnew, Pallet.atTrailer, Bool.and_eq_true, beq_iff_eq] at he
    obtain ⟨-, hat⟩ := he
    cases hat
    exact .inr ⟨henabled, by rw [hworking]; rintro (h | h | h) <;> cases h⟩

theorem State.recordsKept.freed {q : Fin 256} (h : s.mayLeave q) (kind : RecordKind) (lost : Bool) :
    (freePallet kind lost q s).recordsKept := by
  have hhandle := hkept.handle_none h
  obtain ⟨hlive, -⟩ := h
  have hframe := freePallet_frame kind lost q s
  have hpallet : (freePallet kind lost q s).pallet q = .empty := (freePallet_pallet kind lost q s q).trans (if_pos rfl)
  refine hkept.rewritten (q := q) (changed := fun _ => False) ⟨hkept.run_of_pallet hlive, State.frame_mode hframe (by decide),
    State.frame_door hframe (by decide), fun i hi => (freePallet_pallet kind lost q s i).trans (if_neg (Ne.symm hi)),
    fun m _ => State.frame_move hframe (by decide) m, fun hlive => ?_, ?_, fun h hh => ?_, fun h hh => ?_, fun _ _ _ _ => id,
    fun _ => False.elim, fun d hd => ?_, fun _ _ => False.elim⟩
  · rw [hpallet] at hlive
    cases hlive
  · rw [hpallet]
    exact rfl
  · rw [hpallet] at hh
    cases hh
  · rw [hhandle] at hh
    cases hh
  · rw [hpallet] at hd
    cases hd

/-! ### A move permitted, picked and ended (R117, R119, R120) -/

theorem State.recordsKept.permitted {q : Fin 256} {m : Fin 32} {origin dest : Place} (h : s.MayMove q m origin dest) :
    (permitMove q m origin dest s).recordsKept := by
  obtain ⟨hlive, hstate, hhandle, hlocation, hfree, hsite, hworking⟩ := h
  have hheld : ∀ d, origin = .trailer d → s.trailerHeld d = true := fun d hd =>
    (s.trailerHeld_eq_true d).mpr (.inl ⟨q, hlive, hlocation.trans (by rw [hd])⟩)
  have hpallet : (permitMove q m origin dest s).pallet q = { s.pallet q with handle := some (s.handleAt m) } :=
    State.pallet_setPallet_self _ q _
  have hmove : (permitMove q m origin dest s).move m =
      { Move.empty (s.move m).generation with
        state := .permitted, tag := (s.pallet q).tag, origin := some origin, destination := some dest, permitTime := s.clock
        lapseTimer := .start s.permitLimit } := State.move_setMove_self s m _
  have hgeneration : (permitMove q m origin dest s).handleAt m = s.handleAt m := State.handleAt_congr (by rw [hmove]; rfl)
  refine hkept.rewritten (q := q) (changed := (· = m)) ⟨hkept.run_of_pallet hlive, rfl, fun _ => rfl, fun i hi => ?_, fun i hi => ?_,
    fun _ => ?_, ?_, fun h hh => ?_, fun h hh => ?_, fun i hi h hh => ?_, ?_, fun d hd => ?_, ?_⟩
  · exact State.pallet_setPallet_ne _ _ hi
  · exact State.move_setMove_ne s _ hi
  · rw [hpallet]
    exact hkept.unique hlive
  · rw [hpallet]
    exact hkept.agrees_handle hlive hstate _
  · rw [hpallet] at hh ⊢
    cases hh
    change ((permitMove q m origin dest s).move m).live = true ∧ ((permitMove q m origin dest s).move m).generation = _
      ∧ ((permitMove q m origin dest s).move m).tag = _
    rw [hmove]
    exact ⟨rfl, rfl, rfl⟩
  · rw [hhandle] at hh
    cases hh
  · rintro rfl
    obtain ⟨-, hhandles, -⟩ := hkept
    exact absurd (hfree.symm.trans (hhandles i h hh).1) nofun
  · rintro i rfl
    unfold State.moveAgrees
    rw [hmove]
    exact ⟨⟨origin, dest, rfl, rfl, q, by rw [hpallet]; exact hlive, by rw [hpallet], by rw [hpallet, hgeneration],
      by rw [hpallet]; exact hlocation⟩, rfl, Timer.start_ne_stopped _, rfl, rfl⟩
  · rw [hpallet, Pallet.atTrailer, Bool.and_eq_true, beq_iff_eq] at hd
    obtain ⟨-, hat⟩ := hd
    exact .inl (hheld d (by rw [hlocation] at hat; cases hat; rfl))
  · rintro d i rfl hnames
    rw [hmove] at hnames
    simp only [Move.namesTrailer, Bool.and_eq_true, Bool.or_eq_true, beq_iff_eq, Option.some.injEq] at hnames
    obtain ⟨-, rfl | rfl⟩ := hnames
    · exact .inl (hheld d rfl)
    · refine .inr ⟨hsite, ?_⟩
      rw [show (s.door d).state = .working from beq_iff_eq.mp hworking]
      rintro (h | h | h) <;> cases h

/-- The pallet of a live move, found by the move's tag (R114). -/
theorem State.recordsKept.found {m : Fin 32} (hlive : (s.move m).live = true) :
    ∃ q, s.findPallet (s.move m).tag = some q ∧ (s.pallet q).live = true ∧ (s.pallet q).tag = (s.move m).tag
      ∧ (s.pallet q).handle = some (s.handleAt m) ∧ ((s.pallet q).state = .inTransit ↔ (s.move m).state = .inTransit) := by
  obtain ⟨q, hq, htag, hhandle, htransit⟩ := hkept.carried hlive
  exact ⟨q, htag ▸ State.findPallet_of_live hkept.tags hq, hq, htag, hhandle, htransit⟩

/-- Another pallet's handle names another move (R114). -/
theorem State.recordsKept.other_slot {q i : Fin 256} {m : Fin 32} (hq : (s.pallet q).handle = some (s.handleAt m)) (hi : i ≠ q)
    {h : Handle} (hh : (s.pallet i).handle = some h) : h.slot ≠ m :=
  fun hslot => hi (hkept.handle_unique hh hq hslot)

/-- Where a PERMITTED move's pallet stands: at the move's origin (R114). -/
theorem State.recordsKept.at_origin {m : Fin 32} (hstate : (s.move m).state = .permitted) {q : Fin 256}
    (hq : (s.pallet q).handle = some (s.handleAt m)) :
    ∃ o d, (s.move m).origin = some o ∧ (s.move m).destination = some d ∧ (s.pallet q).location = .at o := by
  have hunique := fun i (hi : (s.pallet i).handle = some (s.handleAt m)) => hkept.handle_unique hi hq rfl
  obtain ⟨-, -, -, hmoves, -⟩ := hkept
  have hagrees := hmoves m
  rw [State.moveAgrees, hstate] at hagrees
  obtain ⟨⟨o, d, ho, hd, i, -, -, hi, hat⟩, -⟩ := hagrees
  obtain rfl := hunique i hi
  exact ⟨o, d, ho, hd, hat⟩

end

/-- How a pallet stands at a place (R96): PLACED in a room or a lane, and INBOUND or ABOARD at a trailer. -/
def standsAt (state : PalletState) (o : Place) : Prop :=
  (state = .inbound ∨ state = .placed ∨ state = .aboard) ∧ (state = .placed ↔ o.isTrailer = false)

theorem Place.eq_trailer {o : Place} (h : o.isTrailer ≠ false) : ∃ d, o = .trailer d := by
  cases o with
  | trailer d => exact ⟨d, rfl⟩
  | _ => exact absurd rfl h

theorem Pallet.agrees.standsAt {x : Pallet} (h : x.agrees) {o : Place} (hlocation : x.location = .at o) :
    standsAt x.state o := by
  unfold Pallet.agrees at h
  cases hs : x.state with
  | free =>
    rw [hs] at h
    rw [show x = .empty from h] at hlocation
    cases hlocation
  | inTransit =>
    rw [hs] at h
    cases h.1.symm.trans hlocation
  | placed =>
    rw [hs] at h
    obtain ⟨⟨p, hp, hnot⟩, -⟩ := h
    cases hp.symm.trans hlocation
    exact ⟨.inr (.inl rfl), iff_of_true rfl hnot⟩
  | inbound | aboard =>
    rw [hs] at h
    obtain ⟨⟨d, hd⟩, -⟩ := h
    cases hd.symm.trans hlocation
    exact ⟨by decide, iff_of_false nofun nofun⟩

theorem Pallet.agrees_of_standsAt {x : Pallet} {o : Place} (h : standsAt x.state o) (hlocation : x.location = .at o)
    (hpick : x.pickState = none) : x.agrees := by
  obtain ⟨hstates, hplaced⟩ := h
  unfold Pallet.agrees
  obtain hs | hs | hs := hstates <;> rw [hs] at hplaced ⊢
  · obtain ⟨d, rfl⟩ := Place.eq_trailer fun hnot => absurd (hplaced.mpr hnot) nofun
    exact ⟨⟨d, hlocation⟩, hpick⟩
  · exact ⟨⟨o, hlocation, hplaced.mp rfl⟩, hpick⟩
  · obtain ⟨d, rfl⟩ := Place.eq_trailer fun hnot => absurd (hplaced.mpr hnot) nofun
    exact ⟨⟨d, hlocation⟩, hpick⟩

theorem standsAt_setDown (p : Place) : standsAt (if p.isTrailer = true then .aboard else .placed) p := by
  unfold standsAt
  cases p.isTrailer <;> simp

/-- The entry of a picked move (R120). -/
def Move.picked (x : Move) (now : Word32) (limit : Nat) : Move :=
  { x with state := .inTransit, lapseTimer := .stopped, pickTime := some now, transitTimer := .start limit }

section
variable {s : State} (hkept : s.recordsKept)
include hkept

theorem State.recordsKept.picked {m : Fin 32} (hstate : (s.move m).state = .permitted) :
    (pick (s.handleAt m).byte s).state.recordsKept := by
  have hmlive : (s.move m).live = true := by rw [Move.live, hstate]; rfl
  obtain ⟨q, hfound, hlive, htag, hhandle, -⟩ := hkept.found hmlive
  obtain ⟨o, d, ho, hd, hlocation⟩ := hkept.at_origin hstate hhandle
  obtain ⟨hstates, hplaced⟩ := (hkept.agrees q).standsAt hlocation
  have hpick : (pick (s.handleAt m).byte s).state
      = (s.setPallet q (s.pallet q).picked).setMove m ((s.move m).picked s.clock s.transitLimit) := by
    rw [pick_permitted hstate hfound]
    rfl
  rw [hpick]
  generalize ht : (s.setPallet q (s.pallet q).picked).setMove m ((s.move m).picked s.clock s.transitLimit) = t
  have hpallet : t.pallet q = (s.pallet q).picked := ht ▸ State.pallet_setPallet_self s q _
  have hmove : t.move m = (s.move m).picked s.clock s.transitLimit := ht ▸ State.move_setMove_self _ m _
  have hgeneration : t.handleAt m = s.handleAt m := State.handleAt_congr (by rw [hmove]; rfl)
  refine hkept.rewritten (q := q) (changed := (· = m)) ⟨hkept.run_of_pallet hlive, ht ▸ rfl, fun _ => ht ▸ rfl, fun i hi => ?_,
    fun i hi => ?_, fun _ => ?_, ?_, fun h hh => ?_, fun h hh => ?_, fun i hi h hh => hkept.other_slot hhandle hi hh, ?_,
    fun d hd => ?_, ?_⟩
  · exact ht ▸ State.pallet_setPallet_ne _ _ hi
  · exact ht ▸ State.move_setMove_ne _ _ hi
  · rw [hpallet]
    exact hkept.unique hlive
  · rw [hpallet]
    refine ⟨rfl, by rw [Pallet.picked, hhandle]; rfl, ?_⟩
    obtain h | h | h := hstates <;> simp [Pallet.picked, h]
  · rw [hpallet] at hh ⊢
    cases hhandle.symm.trans hh
    rw [State.handleAt, hmove]
    exact ⟨rfl, rfl, htag.symm⟩
  · cases hhandle.symm.trans hh
    rfl
  · rintro i rfl
    unfold State.moveAgrees
    rw [hmove, hgeneration]
    refine ⟨⟨o, d, ho, hd, q, ?_⟩, rfl, rfl⟩
    rw [hpallet]
    exact ⟨htag, hhandle, rfl, by simpa [Pallet.picked] using hplaced⟩
  · rw [hpallet, Pallet.atTrailer, Bool.and_eq_true, beq_iff_eq] at hd
    cases hd.2
  · rintro d i rfl hnames
    rw [hmove] at hnames
    refine .inl ((s.trailerHeld_eq_true d).mpr (.inr ⟨i, hmlive, ?_⟩))
    simpa [Move.picked] using (Bool.and_eq_true_iff.mp hnames).2

/-- A PICK lifts a PERMITTED move's pallet, or is refused (R120). -/
theorem State.recordsKept.afterPick (b : Byte) : (pick b s).state.recordsKept := by
  cases hresolve : s.resolve b with
  | none =>
    rw [pick_unknown hresolve]
    exact hkept
  | some m =>
    by_cases hstate : (s.move m).state = .permitted
    · have hsame : pick b s = pick (s.handleAt m).byte s := by rw [pick, pick, hresolve, State.resolve_permitted hstate]
      rw [hsame]
      exact hkept.picked hstate
    · have hrefused : pick b s = ⟨s, .busy, []⟩ := by
        rw [pick, hresolve]
        exact if_neg hstate
      rw [hrefused]
      exact hkept

/-- Where the pallet of a move that ends stands: at a trailer only where its door was trailer-held (R119). -/
theorem State.Settles.stands_at {leaves : Bool} {m : Fin 32} {settle : Option (PalletState × Place)} (h : s.Settles leaves m settle)
    {q : Fin 256} (hfound : s.findPallet (s.move m).tag = some q) (hhandle : (s.pallet q).handle = some (s.handleAt m)) :
    ∃ o, standsAt ((s.pallet q).settle settle).state o ∧ ((s.pallet q).settle settle).location = .at o
      ∧ ∀ d, o = .trailer d → s.trailerHeld d = true := by
  have hlive := State.live_of_findPallet hfound
  have hmoves := fun (hmlive : (s.move m).live = true) d
      (hends : (s.move m).origin = some (.trailer d) ∨ (s.move m).destination = some (.trailer d)) =>
    (s.trailerHeld_eq_true d).mpr (.inr ⟨m, hmlive, hends⟩)
  cases h with
  | stands hstate =>
    obtain ⟨o, -, -, -, hlocation⟩ := hkept.at_origin hstate hhandle
    refine ⟨o, (hkept.agrees q).standsAt hlocation, hlocation, fun d hd => ?_⟩
    exact (s.trailerHeld_eq_true d).mpr (.inl ⟨q, hlive, by rw [hlocation, hd]⟩)
  | setDown hstate p htrailer =>
    refine ⟨p, standsAt_setDown p, rfl, fun d hd => hmoves (by rw [Move.live, hstate]; rfl) d (.inr ?_)⟩
    rw [htrailer (by rw [hd]; rfl), hd]
  | back _ hstate =>
    have hunique := fun i (hi : (s.pallet i).handle = some (s.handleAt m)) => hkept.handle_unique hi hhandle rfl
    have hpallet := hkept.agrees q
    obtain ⟨-, -, -, hagrees, -⟩ := hkept
    have hagrees := hagrees m
    rw [State.moveAgrees, hstate] at hagrees
    obtain ⟨⟨o, _, ho, -, i, -, hi, htransit, hback⟩, -⟩ := hagrees
    obtain rfl := hunique i hi
    rw [Pallet.agrees, htransit] at hpallet
    obtain ⟨-, -, hpick⟩ := hpallet
    rw [State.backToOrigin, ho, State.movedPallet_of_find hfound]
    refine ⟨o, ?_, rfl, fun d hd => hmoves (by rw [Move.live, hstate]; rfl) d (.inl (by rw [ho, hd]))⟩
    change standsAt ((s.pallet i).pickState.getD .placed) o
    unfold standsAt
    obtain h | h | h := hpick <;> simp [h] at hback ⊢ <;> exact hback

theorem State.recordsKept.ended {leaves : Bool} {m : Fin 32} {settle : Option (PalletState × Place)} (h : s.Settles leaves m settle)
    (kind : RecordKind) (f : EndFlags) : (endMove kind f settle m s).recordsKept := by
  have hmlive : (s.move m).live = true := by
    cases h with
    | stands hstate | setDown hstate | back _ hstate => rw [Move.live, hstate]; rfl
  obtain ⟨q, hfound, hlive, htag, hhandle, -⟩ := hkept.found hmlive
  obtain ⟨o, hstands, hlocation, hheld⟩ := h.stands_at hkept hfound hhandle
  have hframe := endMove_frame kind f settle m s
  have hpallets := fun i => endMove_pallet kind f settle m s i
  rw [settleMoved_of_find hfound] at hpallets
  have hmoves := fun i => endMove_move kind f settle m s i
  generalize endMove kind f settle m s = t at *
  have hpallet : t.pallet q = (s.pallet q).settle settle := (hpallets q).trans (State.pallet_setPallet_self s q _)
  have hnone : (t.pallet q).handle = none := by rw [hpallet]; cases settle <;> rfl
  have htagged : (t.pallet q).tag = (s.pallet q).tag := by rw [hpallet, Pallet.settle_tag]
  have hmove : t.move m = .empty ((s.move m).generation + 1) := (hmoves m).trans (if_pos rfl)
  refine hkept.rewritten (q := q) (changed := (· = m)) ⟨hkept.run_of_move hmlive, State.frame_mode hframe (by decide),
    State.frame_door hframe (by decide), fun i hi => (hpallets i).trans (State.pallet_setPallet_ne _ _ hi),
    fun i hi => (hmoves i).trans (if_neg (Ne.symm hi)), fun _ => ?_, ?_, fun k hk => ?_, fun k hk => ?_,
    fun i hi k hk => hkept.other_slot hhandle hi hk, ?_, fun d hd => ?_, ?_⟩
  · rw [htagged]
    exact hkept.unique hlive
  · rw [hpallet]
    exact Pallet.agrees_of_standsAt hstands hlocation (by cases settle <;> rfl)
  · rw [hnone] at hk
    cases hk
  · cases hhandle.symm.trans hk
    rfl
  · rintro i rfl
    unfold State.moveAgrees
    rw [hmove]
    exact rfl
  · rw [Pallet.atTrailer, Bool.and_eq_true, beq_iff_eq, hpallet, hlocation] at hd
    obtain ⟨-, hat⟩ := hd
    cases hat
    exact .inl (hheld d rfl)
  · rintro d i rfl hnames
    rw [hmove] at hnames
    cases hnames

/-! ### In SETUP (R110, R132, R142) -/

theorem State.recordsKept.configured {t : State} (h : s.Configured t) : t.recordsKept := by
  obtain ⟨htags, hhandles, hagrees, hmoves, -, hsetup⟩ := hkept
  obtain ⟨hpallets, hfree, hrecords⟩ := hsetup h.setup
  have hpallet : ∀ q, t.pallet q = s.pallet q := fun q => by rw [State.pallet, h.pallets]; rfl
  have hmove : ∀ m, t.move m = s.move m := fun m => by rw [State.move, h.moves]; rfl
  refine ⟨?_, fun q => ?_, fun q => ?_, fun m => ?_, fun d hheld => ?_, fun _ => ⟨fun q => ?_, fun m => ?_, h.records.trans hrecords⟩⟩
  · simp only [State.tagsKept, hpallet]
    exact htags
  · simp only [hpallet, hmove]
    exact hhandles q
  · rw [hpallet]
    exact hagrees q
  · have hm := hmoves m
    simp only [State.moveAgrees, State.handleAt, hpallet, hmove] at hm ⊢
    exact hm
  · obtain ⟨q, hlive, -⟩ | ⟨m, hlive, -⟩ := (t.trailerHeld_eq_true d).mp hheld
    · rw [hpallet, hpallets] at hlive
      cases hlive
    · rw [hmove, hfree] at hlive
      cases hlive
  · rw [hpallet]
    exact hpallets q
  · rw [hmove]
    exact hfree m

end

/-! ### The obligation -/

theorem State.Works.recordsKept {leaves : Bool} {s t : State} (h : s.Works leaves t) (hkept : s.recordsKept) : t.recordsKept := by
  induction h with
  | ages h => exact hkept.aged h
  | trans _ _ ih ih' => exact ih' (ih hkept)
  | door s d x henabled hbare => exact hkept.setDoor henabled hbare
  | ended h kind f => exact hkept.ended h kind f
  | freed _ h kind lost => exact hkept.freed h kind lost
  | permitted h => exact hkept.permitted h
  | picked s b => exact hkept.afterPick b
  | configured h => exact hkept.configured h

theorem State.Does.recordsKept {s t : State} (h : s.Does t) (hkept : s.recordsKept) : t.recordsKept := by
  cases h with
  | works h => exact h.recordsKept hkept
  | enters before henters after => exact after.recordsKept ((before.recordsKept hkept).entered henters)

/-- At a cold reset no pallet and no move is live, and no record is held (R172). -/
theorem reset_recordsKept : State.reset.recordsKept := by
  have hpallet : ∀ q, State.reset.pallet q = .empty := fun q => Vector.getElem_replicate _
  have hmove : ∀ m, State.reset.move m = .empty 0 := fun m => Vector.getElem_replicate _
  refine ⟨⟨fun q hq => ?_, fun q _ hq => ?_⟩, fun q h hh => ?_, fun q => ?_, fun m => ?_, fun d hheld => ?_,
    fun _ => ⟨fun q => ?_, fun m => ?_, rfl⟩⟩
  · rw [hpallet] at hq
    cases hq
  · rw [hpallet] at hq
    cases hq
  · rw [hpallet] at hh
    cases hh
  · rw [hpallet]
    exact rfl
  · rw [State.moveAgrees, hmove]
    exact rfl
  · obtain ⟨q, hlive, -⟩ | ⟨m, hlive, -⟩ := (State.trailerHeld_eq_true _ d).mp hheld
    · rw [hpallet] at hlive
      cases hlive
    · rw [hmove] at hlive
      cases hlive
  · rw [hpallet]
    rfl
  · rw [hmove]
    rfl

/-- Settles O19: every way in which a command changes pallets, moves and doors keeps them in agreement. -/
theorem stepKeepsPalletsAndMovesLinked : Obligations.StepKeepsPalletsAndMovesLinked :=
  fun _ _ hkept hstep => step_keeps hkept hstep (fun _ _ h => h) reset_recordsKept fun _ _ h hdoes => hdoes.recordsKept h

end Sys2Proof.Machine
end

section
/-! PROOFS. O21 and O25: what the ways in which a command changes pallets leave of their exposures and marks (R93, R95, R96, R104 to
R106). -/

namespace Sys2Proof.Machine

set_option Elab.async false

/-! ### Pallets that move, leave or change hands -/

/-- What stays of a pallet that moves (R95): its tag, class, entry time, exposure and marks. -/
def Pallet.account (x : Pallet) : Pallet :=
  { x with
    state := .free, location := .nowhere, pickState := none, handle := none, warnUnposted := false, exceedUnposted := false }

/-- From one state to another pallets move, and where pallets may leave a slot becomes free; mode and classes are fixed, and no
defrost record leaves its ranges. -/
structure State.Shifts (leaves : Bool) (s t : State) : Prop where
  mode : t.mode = s.mode
  classes : t.classes = s.classes
  ranges : ∀ r : Fin 8, (s.defrost r).inRange → (t.defrost r).inRange
  pallet : ∀ q : Fin 256, leaves = true ∧ t.pallet q = .empty
    ∨ (t.pallet q).account = (s.pallet q).account ∧ ((t.pallet q).live = true → (s.pallet q).live = true)
      ∧ (leaves = false → (s.pallet q).live = true → (t.pallet q).live = true)

section
variable {leaves : Bool} {s : State}

/-- Pallets left, or one pallet rewritten with what stays of it, live before and after. -/
theorem State.Shifts.of_frame {t : State} {fs : List Field} (h : s.frame fs t)
    (hf : ∀ f ∈ [Field.mode, .classes, .defrosts], f ∉ fs)
    (hpallet : ∀ q, t.pallet q = s.pallet q ∨ (s.pallet q).live = true ∧ (t.pallet q).account = (s.pallet q).account
      ∧ (leaves = false → (t.pallet q).live = true)) : s.Shifts leaves t := by
  refine ⟨State.frame_mode h (hf _ (by decide)), State.frame_classes h (hf _ (by decide)), fun r hr => ?_, fun q => .inr ?_⟩
  · rw [State.frame_defrost h (hf _ (by decide))]
    exact hr
  · obtain hsame | ⟨hlive, haccount, hstays⟩ := hpallet q
    · rw [hsame]
      exact ⟨rfl, id, fun _ => id⟩
    · exact ⟨haccount, fun _ => hlive, fun hleaves _ => hstays hleaves⟩

theorem State.shifts_setDoor (s : State) (d : Fin 24) (x : Door) : s.Shifts leaves (s.setDoor d x) :=
  .of_frame (frame_setDoor (fs := [.doors]) (by decide) s d x) (by decide) fun _ => .inl rfl

theorem Pallet.settle_account (x : Pallet) (settle : Option (PalletState × Place)) : (x.settle settle).account = x.account := by
  cases settle <;> rfl

/-- Only a pallet that goes back can leave the live states (R126). -/
theorem State.Settles.live {m : Fin 32} {settle : Option (PalletState × Place)} (h : s.Settles leaves m settle)
    (hleaves : leaves = false) {x : Pallet} (hlive : x.live = true) : (x.settle settle).live = true := by
  cases h with
  | stands => exact hlive
  | setDown _ p => cases p.isTrailer <;> simp [Pallet.settle, Pallet.live]
  | back hback => exact absurd (hleaves.symm.trans hback) nofun

theorem State.Settles.shifts {m : Fin 32} {settle : Option (PalletState × Place)} (h : s.Settles leaves m settle)
    (kind : RecordKind) (f : EndFlags) : s.Shifts leaves (endMove kind f settle m s) := by
  have hframe := endMove_frame kind f settle m s
  refine ⟨State.frame_mode hframe (by decide), State.frame_classes hframe (by decide), endMove_ranges kind f settle m s,
    fun q => .inr ?_⟩
  obtain hsame | ⟨hlive, -, hsettled⟩ := endMove_pallet_cases kind f settle m s q
  · rw [hsame]
    exact ⟨rfl, id, fun _ => id⟩
  · rw [hsettled]
    exact ⟨Pallet.settle_account _ _, fun _ => hlive, fun hleaves _ => h.live hleaves hlive⟩

theorem freePallet_shifts (kind : RecordKind) (lost : Bool) (q : Fin 256) (s : State) :
    s.Shifts true (freePallet kind lost q s) := by
  have hframe := freePallet_frame kind lost q s
  refine ⟨State.frame_mode hframe (by decide), State.frame_classes hframe (by decide), fun r h => ?_, fun i => ?_⟩
  · rw [State.frame_defrost hframe (by decide)]
    exact h
  · rw [freePallet_pallet]
    split
    · exact .inl ⟨rfl, rfl⟩
    · exact .inr ⟨rfl, id, nofun⟩

/-- One live pallet rewritten with what stays of it, and a move entry. -/
theorem State.shifts_setPallet {q : Fin 256} (hlive : (s.pallet q).live = true) {y : Pallet}
    (haccount : y.account = (s.pallet q).account) (hstays : y.live = true) : s.Shifts leaves (s.setPallet q y) := by
  refine .of_frame (frame_setPallet (fs := [.pallets]) (by decide) s q y) (by decide) fun i => ?_
  rw [State.pallet_setPallet]
  split
  · next hi =>
    subst hi
    exact .inr ⟨hlive, haccount, fun _ => hstays⟩
  · exact .inl rfl

theorem State.Shifts.setMove {t : State} (h : s.Shifts leaves t) (m : Fin 32) (x : Move) : s.Shifts leaves (t.setMove m x) :=
  ⟨h.mode, h.classes, h.ranges, h.pallet⟩

theorem State.Shifts.refl (s : State) : s.Shifts leaves s := .of_frame (State.frame_refl [] s) (by decide) fun _ => .inl rfl

theorem State.MayMove.shifts {q : Fin 256} {m : Fin 32} {origin dest : Place} (h : s.MayMove q m origin dest) :
    s.Shifts leaves (permitMove q m origin dest s) :=
  (State.shifts_setPallet h.live (y := { s.pallet q with handle := some (s.handleAt m) }) rfl h.live).setMove m _

theorem pick_shifts (b : Byte) (s : State) : s.Shifts leaves (pick b s).state := by
  unfold pick
  split
  · exact .refl s
  · refine answer_ite_state (fun _ => ?_) fun _ => .refl s
    split
    · next q hfound =>
      dsimp only
      exact State.Shifts.setMove (State.shifts_setPallet (y := (s.pallet q).picked) (State.live_of_findPallet hfound) rfl rfl) _ _
    · exact State.Shifts.setMove (.refl s) _ _

/-- What holds of what ages, of what shifts, of what is configured and of one after the other holds of whatever is done to
pallets. -/
theorem State.Works.induct_shifts {P : State → State → Prop} {t : State} (h : s.Works leaves t)
    (ages : ∀ {s t : State}, s.Ages t → P s t) (shifts : ∀ {s t : State}, s.Shifts leaves t → P s t)
    (configured : ∀ {s t : State}, s.Configured t → P s t) (trans : ∀ {s t u : State}, P s t → P t u → P s u) : P s t := by
  induction h with
  | ages h => exact ages h
  | trans _ _ ih ih' => exact trans ih ih'
  | door s d x => exact shifts (s.shifts_setDoor d x)
  | ended h kind f => exact shifts (h.shifts kind f)
  | freed hleaves _ kind lost =>
    subst hleaves
    exact shifts (freePallet_shifts kind lost _ _)
  | permitted h => exact shifts h.shifts
  | picked s b => exact shifts (pick_shifts b s)
  | configured h => exact configured h

end

/-! ### O21: marks and ranges (R66, R93, R104, R106) -/

section
variable {s t : State} (hkept : s.budgetsKept)
include hkept

theorem State.budgetsKept.aged (h : s.Ages t) : t.budgetsKept := by
  obtain ⟨hdefrosts, hclasses, hpallets⟩ := hkept
  refine ⟨fun r => h.ranges r (hdefrosts r), fun c => ?_, fun q => ?_⟩
  · rw [State.productClass, h.classes]
    exact hclasses c
  · obtain ⟨hexposure, hmarked, hsetup⟩ := hpallets q
    have hages := h.pallet q
    rw [h.classOf q, hages.live, h.mode]
    exact ⟨(hages.exposure hexposure).2, fun hlive => hages.marked (hmarked hlive), hsetup⟩

theorem State.budgetsKept.shifted {leaves : Bool} (h : s.Shifts leaves t) : t.budgetsKept := by
  obtain ⟨hdefrosts, hclasses, hpallets⟩ := hkept
  refine ⟨fun r => h.ranges r (hdefrosts r), fun c => ?_, fun q => ?_⟩
  · rw [State.productClass, h.classes]
    exact hclasses c
  · obtain ⟨hexposure, hmarked, hsetup⟩ := hpallets q
    obtain ⟨-, hempty⟩ | ⟨haccount, hborn, -⟩ := h.pallet q
    · rw [hempty]
      exact ⟨Nat.zero_le _, nofun, fun _ => rfl⟩
    · have hcls : (t.pallet q).cls = (s.pallet q).cls := (congrArg Pallet.cls haccount :)
      have hsame : (t.pallet q).exposure = (s.pallet q).exposure := (congrArg Pallet.exposure haccount :)
      have hover : (t.pallet q).overBudget = (s.pallet q).overBudget := (congrArg Pallet.overBudget haccount :)
      rw [State.classOf_congr h.classes hcls, hsame, hover]
      refine ⟨hexposure, fun hlive => hmarked (hborn hlive), fun hmode => Bool.eq_false_iff.mpr fun hlive => ?_⟩
      exact absurd ((hsetup (h.mode ▸ hmode)).symm.trans (hborn hlive)) nofun

theorem State.budgetsKept.configured (h : s.Configured t) : t.budgetsKept := by
  obtain ⟨hdefrosts, hclasses, hpallets⟩ := hkept
  refine ⟨fun r => h.ranges r (hdefrosts r), h.classes hclasses, fun q => ?_⟩
  obtain ⟨hexposure, -, hsetup⟩ := hpallets q
  have hpallet : t.pallet q = s.pallet q := by rw [State.pallet, h.pallets]; rfl
  have hfree := hsetup h.setup
  rw [hpallet]
  exact ⟨hexposure, fun hlive => absurd (hfree.symm.trans hlive) nofun, fun _ => hfree⟩

/-- A pallet enters with no exposure, and every budget is at least 1 (R93, R98). -/
theorem State.budgetsKept.entered (h : s.Enters t) : t.budgetsKept := by
  obtain ⟨hmode, q, tag, c, d, -, -, -, -, -, rfl⟩ := h
  obtain ⟨hdefrosts, hclasses, hpallets⟩ := hkept
  refine ⟨hdefrosts, hclasses, fun i => ?_⟩
  rw [State.pallet_setPallet]
  split
  · refine ⟨Nat.zero_le _, fun _ hused => ?_, fun hsetup => absurd (hmode.symm.trans hsetup) nofun⟩
    obtain ⟨-, hbudget, -⟩ := hclasses c
    have hpos : 0 < (s.productClass c).budget * Config.unitsPerDegreeMinute := Nat.mul_pos hbudget (by decide)
    exact absurd hused (Nat.not_le.mpr hpos)
  · exact hpallets i

end

theorem State.Works.budgetsKept {leaves : Bool} {s t : State} (h : s.Works leaves t) : s.budgetsKept → t.budgetsKept :=
  h.induct_shifts (P := fun s t => s.budgetsKept → t.budgetsKept) (fun h hkept => hkept.aged h) (fun h hkept => hkept.shifted h)
    (fun h hkept => hkept.configured h) fun h k => k ∘ h

theorem State.Does.budgetsKept {s t : State} (h : s.Does t) (hkept : s.budgetsKept) : t.budgetsKept := by
  cases h with
  | works h => exact h.budgetsKept hkept
  | enters before henters after => exact after.budgetsKept ((before.budgetsKept hkept).entered henters)

theorem reset_budgetsKept : State.reset.budgetsKept := by
  have hdefrost : ∀ r, State.reset.defrost r = .initial := fun r => Vector.getElem_replicate _
  have hclass : ∀ c, State.reset.productClass c = .initial := fun c => Vector.getElem_replicate _
  have hpallet : ∀ q, State.reset.pallet q = .empty := fun q => Vector.getElem_replicate _
  refine ⟨fun r => ?_, fun c => ?_, fun q => ?_⟩
  · rw [hdefrost]
    unfold Defrost.inRange inTempRange
    decide
  · rw [hclass]
    unfold ProductClass.inRange inTempRange
    decide
  · rw [hpallet]
    exact ⟨Nat.zero_le _, nofun, fun _ => rfl⟩

/-- Settles O21: every way in which a command changes pallets, classes and defrost records keeps marks and ranges. -/
theorem stepKeepsBudgetMarks : Obligations.StepKeepsBudgetMarks :=
  fun _ _ hkept hstep => step_keeps hkept hstep (fun _ _ h => h) reset_budgetsKept fun _ _ h hdoes => hdoes.budgetsKept h

/-! ### O25: one slot, live before and after (R95, R96, R104, R105) -/

/-- A pallet as it goes on in its slot: its exposure has not fallen, its marks are kept, and tag, class and entry time are fixed. -/
structure Pallet.GoesOn (x y : Pallet) : Prop where
  exposure : x.exposure ≤ Config.exposureMax → x.exposure ≤ y.exposure ∧ y.exposure ≤ Config.exposureMax
  tag : y.tag = x.tag
  cls : y.cls = x.cls
  entryTime : y.entryTime = x.entryTime
  warned : x.warned = true → y.warned = true
  overBudget : x.overBudget = true → y.overBudget = true

section
variable {x y z : Pallet}

theorem Pallet.GoesOn.refl (x : Pallet) : x.GoesOn x := ⟨fun h => ⟨le_rfl, h⟩, rfl, rfl, rfl, id, id⟩

theorem Pallet.GoesOn.trans (h : x.GoesOn y) (k : y.GoesOn z) : x.GoesOn z where
  exposure hx := by
    obtain ⟨hxy, hy⟩ := h.exposure hx
    obtain ⟨hyz, hz⟩ := k.exposure hy
    exact ⟨hxy.trans hyz, hz⟩
  tag := k.tag.trans h.tag
  cls := k.cls.trans h.cls
  entryTime := k.entryTime.trans h.entryTime
  warned := k.warned ∘ h.warned
  overBudget := k.overBudget ∘ h.overBudget

theorem Pallet.Ages.goesOn {budget : Nat} (h : x.Ages budget y) : x.GoesOn y :=
  ⟨h.exposure, h.tag, h.cls, h.entryTime, h.warned, h.overBudget⟩

theorem Pallet.GoesOn.of_account (h : y.account = x.account) : x.GoesOn y := by
  have hexposure : y.exposure = x.exposure := (congrArg Pallet.exposure h :)
  have hwarned : y.warned = x.warned := (congrArg Pallet.warned h :)
  have hover : y.overBudget = x.overBudget := (congrArg Pallet.overBudget h :)
  exact ⟨fun hmax => ⟨hexposure.ge, hexposure.le.trans hmax⟩, (congrArg Pallet.tag h :), (congrArg Pallet.cls h :),
    (congrArg Pallet.entryTime h :), hwarned.trans, hover.trans⟩

end

/-- A slot live at the end was live at the start, and its pallet went on; where no pallet may leave, a live one stays. -/
structure State.Follows (leaves : Bool) (q : Fin 256) (s t : State) : Prop where
  born : (t.pallet q).live = true → (s.pallet q).live = true
  stays : leaves = false → (s.pallet q).live = true → (t.pallet q).live = true
  goesOn : (t.pallet q).live = true → (s.pallet q).GoesOn (t.pallet q)

section
variable {leaves : Bool} {q : Fin 256} {s t u : State}

theorem State.Follows.trans (h : State.Follows leaves q s t) (k : State.Follows leaves q t u) : State.Follows leaves q s u where
  born := h.born ∘ k.born
  stays hleaves := k.stays hleaves ∘ h.stays hleaves
  goesOn hlive := (h.goesOn (k.born hlive)).trans (k.goesOn hlive)

theorem State.Follows.of_same (h : t.pallet q = s.pallet q) : State.Follows leaves q s t := by
  refine ⟨?_, fun _ => ?_, fun _ => ?_⟩ <;> rw [h]
  · exact id
  · exact id
  · exact .refl _

theorem State.Ages.follows (h : s.Ages t) : State.Follows leaves q s t := by
  have hages := h.pallet q
  exact ⟨(hages.live ▸ ·), fun _ => (hages.live.trans ·), fun _ => hages.goesOn⟩

theorem State.Shifts.follows (h : s.Shifts leaves t) : State.Follows leaves q s t := by
  obtain ⟨hleaves, hempty⟩ | ⟨haccount, hborn, hstays⟩ := h.pallet q
  · refine ⟨fun hlive => ?_, fun hkeeps => absurd (hkeeps.symm.trans hleaves) nofun, fun hlive => ?_⟩ <;>
      rw [hempty] at hlive <;> cases hlive
  · exact ⟨hborn, hstays, fun _ => .of_account haccount⟩

theorem State.Works.follows (h : s.Works leaves t) : State.Follows leaves q s t :=
  h.induct_shifts (P := State.Follows leaves q) State.Ages.follows State.Shifts.follows
    (fun h => .of_same (by rw [State.pallet, h.pallets]; rfl)) State.Follows.trans

/-- A pallet that enters takes a free slot, and no other slot changes (R98). -/
theorem State.Enters.pallet_of_live (h : s.Enters t) (hlive : (s.pallet q).live = true) : t.pallet q = s.pallet q := by
  obtain ⟨-, i, tag, c, d, hfree, -, -, -, -, rfl⟩ := h
  refine State.pallet_setPallet_ne _ _ ?_
  rintro rfl
  exact absurd (hfree.symm.trans hlive) nofun

/-- A slot live before and after a command holds one pallet all the while. -/
theorem State.Does.goesOn (h : s.Does t) (hs : (s.pallet q).live = true) (ht : (t.pallet q).live = true) :
    (s.pallet q).GoesOn (t.pallet q) := by
  cases h with
  | works h => exact h.follows.goesOn ht
  | enters before henters after =>
    have hlive := before.follows.stays rfl hs
    have hsame : State.Follows false q _ _ := .of_same (henters.pallet_of_live hlive)
    exact ((before.follows.trans hsame).trans after.follows).goesOn ht

end

/-- Settles O25: no command but a cold reset frees a slot and fills it, and all else lets a pallet's exposure and marks stand or
rise. -/
theorem exposureNeverDecreases : Obligations.ExposureNeverDecreases := by
  intro c s t q hexec hreset hmax hs ht
  obtain ⟨hexposure, htag, hcls, hentry, hwarned, hover⟩ := (exec_does hexec hreset).goesOn hs ht
  exact ⟨(hexposure hmax).1, htag, hcls, hentry, hwarned, hover⟩

end Sys2Proof.Machine
end
